-- ==== Sys2Proof/Word.lean ====
section
/-! DEFINITION. The widths the spec computes with (00_scope.md R8, R23): byte, word, doubleword.
Bit 0 of a value is its most significant bit in the spec; the accessors of Machine/Bits.lean use that numbering. -/

namespace Sys2Proof

/-- The smallest addressable unit of storage: an 8-bit byte (20_memory.md R100). -/
abbrev Byte := BitVec 8

/-- A word: 32 bits (00_scope.md R23); every instruction is one (30_encoding.md R160). -/
abbrev Word := BitVec 32

/-- A doubleword: 64 bits; the width of a register of a 64-bit implementation (10_state.md R30). -/
abbrev Dword := BitVec 64

end Sys2Proof
end

