-- ==== Sys2Proof/Config.lean ====
section
/-! DEFINITION. What an implementation fixes: the parameters of 00_scope.md R5 and 92_eei_decisions.md section 2 as
plain data, with their reference values, and the free values the spec leaves undefined.
A `Config` stands in State and no step changes it (log 1), so one statement covers every implementation. -/

namespace Sys2Proof

/-- Which misaligned Little-Endian scalars take the Alignment interrupt (20_memory.md R106). -/
inductive LittlePolicy where
  /-- every one (the reference, D7) -/
  | trap
  /-- only one that crosses a doubleword, the source's own example -/
  | trapCrossing
  /-- none -/
  | perform
  /-- as `Config.alignTraps` says of the access -/
  | byAccess
deriving DecidableEq, Repr

/-- What an implementation does with one case of 20_memory.md R112. -/
inductive AlignChoice where
  /-- the access is performed -/
  | perform
  /-- the Alignment interrupt -/
  | trap
  /-- either, as `Config.alignTraps` says of the access -/
  | byAccess
deriving DecidableEq, Repr

/-- `ALIGN_POLICY` of 20_memory.md R112: a choice for each of its cases (log 9). With `byAccess` in all of them it is any
function of the instruction, the EA and the mode. -/
structure AlignPolicy where
  /-- case (a): a floating-point operand that is not word-aligned -/
  float : AlignChoice
  /-- case (b): a fixed-point doubleword that is not word-aligned -/
  double : AlignChoice
  /-- case (c): `lmw` and `stmw` not word-aligned -/
  multiple : AlignChoice
  /-- case (c): `lwarx`, `ldarx`, `stwcx.` and `stdcx.` not aligned -/
  reserve : AlignChoice
  /-- `eciwx` and `ecowx` not word-aligned (48_supervisor.md R683) -/
  external : AlignChoice
  /-- case (d): a floating-point operand in a direct-store segment -/
  floatDirect : AlignChoice
  /-- case (e): an elementary or string operand that crosses a protection boundary while `MSR_DR = 1` -/
  crossing : AlignChoice
  /-- case (f): an operand of `lmw` or `stmw` that crosses a segment or BAT boundary while `MSR_DR = 1` -/
  multipleCrossing : AlignChoice
  /-- case (g): `dcbz` to Write Through or Caching Inhibited storage while `MSR_DR = 1` -/
  zeroBlock : AlignChoice
  /-- misaligned scalars in Little-Endian mode -/
  little : LittlePolicy
deriving DecidableEq, Repr

/-- `INVALID_FORM_POLICY` of 30_encoding.md R212 (log 10). -/
inductive InvalidFormPolicy where
  /-- Program(Illegal): the reference, D14 -/
  | illegal
  /-- the model refuses the word -/
  | refuse
deriving DecidableEq, Repr

/-- What becomes of a program that alters a context against Appendix L.4 (70_reset_and_hazards.md R806 to R808, log 30). -/
inductive ContextPolicy where
  /-- the model refuses the alteration: the reference (R808) -/
  | refuse
  /-- the alteration is executed, and the state is marked as outside the architecture -/
  | execute
deriving DecidableEq, Repr

/-- The bits of one IBAT register that R807 treats apart, as masks. -/
structure IbatBits where
  /-- V -/
  valid : Dword
  /-- Ks and Kp -/
  keys : Dword
deriving DecidableEq, Repr

/-- The places of the bits that Appendix L.4 lets a program alter in a register that is in use (R807). The layouts of
these registers are not in the spec (00_scope.md R4 a; log 40). -/
structure ExceptedBits where
  /-- Ks and Kp of a Segment Register -/
  segment : Word
  /-- V, Ks and Kp where they lie in the upper register of an IBAT pair -/
  ibatUpper : IbatBits
  /-- V, Ks and Kp where they lie in the lower register of an IBAT pair -/
  ibatLower : IbatBits
deriving DecidableEq, Repr

/-- The kinds of access the translation interface is asked for (20_memory.md R130). -/
inductive AccessKind where
  | ifetch
  | load
  | store
deriving DecidableEq, Repr

/-- The storage attributes a translation returns (20_memory.md R130, R133). -/
structure StorageAttrs where
  /-- `T = 1`: a direct-store segment -/
  directStore : Bool := false
  writeThrough : Bool := false
  cachingInhibited : Bool := false
  /-- the BAT pair that maps the location, if one does: it is one protection domain (R112) -/
  block : Option (BitVec 2) := none
deriving DecidableEq, Repr

/-- The set of causes a failed translation reports (20_memory.md R130). -/
structure TranslationFault where
  notFound : Bool := false
  protection : Bool := false
  segmentMiss : Bool := false
  /-- an instruction fetch from a direct-store segment -/
  directStore : Bool := false
  directStoreError : Bool := false
  /-- `not_supported_for_T1_or_write_through` -/
  notSupported : Bool := false
deriving DecidableEq, Repr

/-- What the translation interface answers for one page. -/
inductive TranslationResult where
  | ok (realPage : BitVec 52) (attrs : StorageAttrs)
  | fault (causes : TranslationFault)
deriving DecidableEq, Repr

/-- One part of the state that `Translate` is given (20_memory.md R130), with the content it must have. -/
inductive TranslationCondition where
  | sdr1 (v : Dword)
  | asr (v : Dword)
  | ibat (n : Fin 8) (v : Dword)
  | dbat (n : Fin 8) (v : Dword)
  | sr (n : Fin 16) (v : Word)
  /-- a byte of a table in storage -/
  | storage (real : Dword) (v : Byte)
deriving DecidableEq, Repr

/-- One line of the finite table that stands for `Translate` (20_memory.md R130, log 8): the answer for the 4K
page `page` of effective addresses, for one kind of access in one privilege state, while the translation registers and
the tables in storage have the content the conditions name. -/
structure TranslationEntry where
  page : BitVec 52
  kind : AccessKind
  privileged : Bool
  conditions : List TranslationCondition := []
  result : TranslationResult
deriving DecidableEq, Repr

/-- The implementation parameters (00_scope.md R5). -/
structure Config where
  /-- `IMPL64`: a 64-bit implementation -/
  impl64 : Bool
  /-- `HAS_FP_GP`: `fsqrt`, `fsqrts` -/
  hasFpGp : Bool
  /-- `HAS_FP_GRAPHICS`: `stfiwx`, `fres`, `frsqrte`, `fsel` -/
  hasFpGraphics : Bool
  /-- `HAS_EXTERNAL_CONTROL`: EAR, `eciwx`, `ecowx` -/
  hasExternalControl : Bool
  hasSlbia : Bool
  hasSlbie : Bool
  hasTlbia : Bool
  hasTlbsync : Bool
  /-- `HAS_TRACE`: the Trace interrupt (60_exceptions.md R721) -/
  hasTrace : Bool
  /-- `HAS_FP_ASSIST`: the Floating-Point Assist interrupt (60_exceptions.md R722, log 27) -/
  hasFpAssist : Bool
  /-- `PIR_PRESENT`: SPR 1023 -/
  pirPresent : Bool
  /-- `FPECR_PRESENT`: SPR 1022 -/
  fpecrPresent : Bool
  /-- `PVR_VALUE` -/
  pvr : Word
  /-- base-2 logarithm of `RESERVATION_GRANULE` in bytes -/
  granuleLog2 : Nat
  /-- base-2 logarithm of `CACHE_BLOCK_SIZE` in bytes -/
  blockLog2 : Nat
  /-- `ALIGN_POLICY` -/
  align : AlignPolicy
  /-- the elementary loads and stores whose Alignment interrupt reports the alternate form, each named by the DSISR[12:21]
  of its own form (60_exceptions.md R716, log 41) -/
  alternateDsisr : List (BitVec 10)
  /-- `INVALID_FORM_POLICY` -/
  invalidForm : InvalidFormPolicy
  /-- Program(Privileged) for an undefined SPR number with `spr[0] = 1` in problem state (93 part 1.1) -/
  sprInvalidPrivileged : Bool
  /-- `RESERVED_BITS_POLICY` of the XER: the reserved bits that are copied (10_state.md R58, log 11) -/
  xerCopy : Word
  /-- `RESERVED_BITS_POLICY` of the MSR -/
  msrCopy : Dword
  /-- `RESERVED_BITS_POLICY` of the EAR -/
  earCopy : Word
  /-- `RESERVED_BITS_POLICY` of FPSCR bit 20: is it copied? -/
  fpscrCopy : Bool
  /-- what an alteration against Appendix L.4 does -/
  context : ContextPolicy
  /-- does changing `MSR_LE` with `mtmsr` need a special sequence (70_reset_and_hazards.md R806)? -/
  leSequence : Bool
  /-- does changing `MSR_POW` need a special sequence (R806)? -/
  powSequence : Bool
  /-- the bits that Appendix L.4 excepts (R807) -/
  excepted : ExceptedBits
  /-- `IP_BASE_0` -/
  ipBase0 : Dword
  /-- `IP_BASE_1` -/
  ipBase1 : Dword
  /-- `MSR_RESET` -/
  msrReset : Dword
  /-- `RFI_MASK`: the SRR1 bits `rfi` copies into the MSR (48_supervisor.md R670) -/
  rfiMask : Dword
  /-- Time Base ticks between two steps when the environment says nothing (60_exceptions.md R751, log 7) -/
  ticksPerStep : Nat
  /-- `Translate`: the first line that applies; pages without one are mapped to themselves (D10) -/
  xlate : List TranslationEntry
deriving DecidableEq, Repr

/-- The reference `ALIGN_POLICY` (D7). -/
def AlignPolicy.reference : AlignPolicy :=
  { float := .perform, double := .perform, multiple := .perform, reserve := .trap, external := .perform,
    floatDirect := .perform, crossing := .perform, multipleCrossing := .perform, zeroBlock := .perform, little := .trap }

/-- The reference configuration: a 64-bit implementation with every option of 92_eei_decisions.md section 2. -/
def Config.reference : Config :=
  { impl64 := true, hasFpGp := true, hasFpGraphics := true, hasExternalControl := true,
    hasSlbia := true, hasSlbie := true, hasTlbia := true, hasTlbsync := true, hasTrace := true,
    hasFpAssist := false, pirPresent := false, fpecrPresent := false, pvr := 0, granuleLog2 := 5, blockLog2 := 5,
    align := AlignPolicy.reference, alternateDsisr := [], invalidForm := .illegal, sprInvalidPrivileged := false,
    xerCopy := 0x0000FF00, msrCopy := 0x80, earCopy := 0, fpscrCopy := false,
    context := .refuse, leSequence := false, powSequence := false,
    excepted := { segment := 0x60000000, ibatUpper := { valid := 0, keys := 0 }, ibatLower := { valid := 0, keys := 0 } },
    ipBase0 := 0, ipBase1 := 0xFFFFFFFFFFF00000,
    msrReset := 0x40, rfiMask := 0xFFFFFFFF87C0FFFF, ticksPerStep := 1, xlate := [] }

/-- The reference values on a 32-bit implementation (D8 gives its vector base, 00_scope.md R5 its missing options). -/
def Config.reference32 : Config :=
  { Config.reference with impl64 := false, hasSlbia := false, hasSlbie := false, ipBase1 := 0xFFF00000 }

/-- FREE VALUE. The values the spec calls undefined (00_scope.md R19), drawn at a counter that State holds; it has no
body, so nothing can be proved of a value (log 5). -/
opaque Config.freeWord : Nat → Dword

/-- FREE VALUE. Whether an implementation takes the Alignment interrupt in a case of `ALIGN_POLICY` that it decides access
by access: by the instruction word, the EA and the MSR (20_memory.md R112, log 9). -/
opaque Config.alignTraps : Word → Dword → Dword → Bool

/-- FREE VALUE. `FRES_EST` before the accuracy bound is imposed (45_float_arith.md R578, log 13). -/
opaque Config.fresEst : Dword → Dword

/-- FREE VALUE. `FRSQRTE_EST` before the accuracy bound is imposed (45_float_arith.md R579, log 13). -/
opaque Config.frsqrteEst : Dword → Dword

/-- FREE VALUE. Whether an implementation with the Floating-Point Assist interrupt asks software to do an operation: by the
instruction word, the contents of the FPRs its fields A, B and C name, and the FPSCR (60_exceptions.md R722, log 27). -/
opaque Config.fpAssist : Word → Dword → Dword → Dword → Word → Bool

end Sys2Proof
end

