-- ==== Sys2Proof/Machine/Bits.lean ====
section
/-! DEFINITION. Bits and slices in the spec's numbering: bit 0 is the most significant (00_scope.md R8, R9). -/

namespace Sys2Proof

/-- `v[i]` of 00_scope.md R9: bit `i` of `v`, counted from the most significant end. -/
def bit {w : Nat} (v : BitVec w) (i : Nat) : Bool := v.getMsbD i

/-- The slice of `n` bits of `v` that starts at bit `i` (00_scope.md R9). -/
def slice {w : Nat} (v : BitVec w) (i n : Nat) : BitVec n := v.extractLsb' (w - i - n) n

/-- The mask with only bit `i` (most significant end) set. -/
def oneBit (w i : Nat) : BitVec w := BitVec.twoPow w (w - 1 - i)

/-- `v` with bit `i` (most significant end) replaced by `b`. -/
def withBit {w : Nat} (v : BitVec w) (i : Nat) (b : Bool) : BitVec w :=
  if b then v ||| oneBit w i else v &&& ~~~ oneBit w i

/-- The mask with bits `i` to `i + n - 1` set. -/
def ones (w i n : Nat) : BitVec w := ((BitVec.allOnes n).setWidth w) <<< (w - i - n)

/-- `v` with the `n` bits starting at bit `i` replaced by `x`. -/
def withSlice {w n : Nat} (v : BitVec w) (i : Nat) (x : BitVec n) : BitVec w :=
  (v &&& ~~~ ones w i n) ||| ((x.setWidth w) <<< (w - i - n))

/-- Bits of `new` where `mask` is 1, of `old` elsewhere. -/
def merge {w : Nat} (mask new old : BitVec w) : BitVec w := (new &&& mask) ||| (old &&& ~~~ mask)

/-- The low-order word of a register, `v[32:63]`. -/
def lowWord (v : Dword) : Word := v.setWidth 32

/-- `zext_32` of 00_scope.md R11. -/
def zext (v : Word) : Dword := v.setWidth 64

/-- One bit as a one-bit vector. -/
def b1 (b : Bool) : BitVec 1 := BitVec.ofBool b

/-- Is the reserved field of an instruction word, given by its first bit and its length, zero (30_encoding.md R183)? -/
def fieldClear (w : Word) (f : Nat × Nat) : Bool := slice w f.1 f.2 == 0#f.2

end Sys2Proof
end

