-- ==== Sys2Proof/Syntax.lean ====
section
/-! DEFINITION. The instructions: one constructor per row of spec/opcode_table.json (224 rows), operands in the
assembler's order, the option bits `[o]`, `[.]`, `[l]`, `[a]` of 30_encoding.md R182 as Booleans after them.
A mnemonic that ends in a dot has `Dot` in its constructor's name. Split fields (`sh`, `mb`, `me`, `spr`, `tbr`)
hold the assembled value (30_encoding.md R176, R180). -/

namespace Sys2Proof

/-- A General Purpose Register number (10_state.md R30). -/
abbrev Gpr := BitVec 5
/-- A Floating-Point Register number (10_state.md R31). -/
abbrev Fpr := BitVec 5
/-- A bit number of the CR, or of the FPSCR in `mtfsb0` and `mtfsb1` (30_encoding.md R179, R185). -/
abbrev CrBit := BitVec 5
/-- A field number of the CR or the FPSCR (30_encoding.md R179). -/
abbrev CrField := BitVec 3
/-- A Special Purpose or Time Base Register number, halves already in order (30_encoding.md R176). -/
abbrev SprNum := BitVec 10

/-- The instructions of the opcode table. -/
inductive Instr where
  -- Branches, system call and Condition Register logic (40_branch.md).
  | b (li : BitVec 24) (aa lk : Bool)
  | bc (bo : BitVec 5) (bi : CrBit) (bd : BitVec 14) (aa lk : Bool)
  | bclr (bo : BitVec 5) (bi : CrBit) (lk : Bool)
  | bcctr (bo : BitVec 5) (bi : CrBit) (lk : Bool)
  | sc
  | crand (bt ba bb : CrBit)
  | cror (bt ba bb : CrBit)
  | crxor (bt ba bb : CrBit)
  | crnand (bt ba bb : CrBit)
  | crnor (bt ba bb : CrBit)
  | creqv (bt ba bb : CrBit)
  | crandc (bt ba bb : CrBit)
  | crorc (bt ba bb : CrBit)
  | mcrf (bf bfa : CrField)
  -- Fixed-point loads (41_fixed_load_store.md).
  | lbz (rt : Gpr) (d : BitVec 16) (ra : Gpr)
  | lbzu (rt : Gpr) (d : BitVec 16) (ra : Gpr)
  | lbzx (rt ra rb : Gpr)
  | lbzux (rt ra rb : Gpr)
  | lhz (rt : Gpr) (d : BitVec 16) (ra : Gpr)
  | lhzu (rt : Gpr) (d : BitVec 16) (ra : Gpr)
  | lhzx (rt ra rb : Gpr)
  | lhzux (rt ra rb : Gpr)
  | lha (rt : Gpr) (d : BitVec 16) (ra : Gpr)
  | lhau (rt : Gpr) (d : BitVec 16) (ra : Gpr)
  | lhax (rt ra rb : Gpr)
  | lhaux (rt ra rb : Gpr)
  | lwz (rt : Gpr) (d : BitVec 16) (ra : Gpr)
  | lwzu (rt : Gpr) (d : BitVec 16) (ra : Gpr)
  | lwzx (rt ra rb : Gpr)
  | lwzux (rt ra rb : Gpr)
  | lwa (rt : Gpr) (ds : BitVec 14) (ra : Gpr)
  | lwax (rt ra rb : Gpr)
  | lwaux (rt ra rb : Gpr)
  | ld (rt : Gpr) (ds : BitVec 14) (ra : Gpr)
  | ldu (rt : Gpr) (ds : BitVec 14) (ra : Gpr)
  | ldx (rt ra rb : Gpr)
  | ldux (rt ra rb : Gpr)
  -- Fixed-point stores.
  | stb (rs : Gpr) (d : BitVec 16) (ra : Gpr)
  | stbu (rs : Gpr) (d : BitVec 16) (ra : Gpr)
  | stbx (rs ra rb : Gpr)
  | stbux (rs ra rb : Gpr)
  | sth (rs : Gpr) (d : BitVec 16) (ra : Gpr)
  | sthu (rs : Gpr) (d : BitVec 16) (ra : Gpr)
  | sthx (rs ra rb : Gpr)
  | sthux (rs ra rb : Gpr)
  | stw (rs : Gpr) (d : BitVec 16) (ra : Gpr)
  | stwu (rs : Gpr) (d : BitVec 16) (ra : Gpr)
  | stwx (rs ra rb : Gpr)
  | stwux (rs ra rb : Gpr)
  | std (rs : Gpr) (ds : BitVec 14) (ra : Gpr)
  | stdu (rs : Gpr) (ds : BitVec 14) (ra : Gpr)
  | stdx (rs ra rb : Gpr)
  | stdux (rs ra rb : Gpr)
  -- Byte-reversal, multiple, string, reservation instructions and sync.
  | lhbrx (rt ra rb : Gpr)
  | lwbrx (rt ra rb : Gpr)
  | sthbrx (rs ra rb : Gpr)
  | stwbrx (rs ra rb : Gpr)
  | lmw (rt : Gpr) (d : BitVec 16) (ra : Gpr)
  | stmw (rs : Gpr) (d : BitVec 16) (ra : Gpr)
  | lswi (rt ra : Gpr) (nb : BitVec 5)
  | lswx (rt ra rb : Gpr)
  | stswi (rs ra : Gpr) (nb : BitVec 5)
  | stswx (rs ra rb : Gpr)
  | lwarx (rt ra rb : Gpr)
  | ldarx (rt ra rb : Gpr)
  | stwcxDot (rs ra rb : Gpr)
  | stdcxDot (rs ra rb : Gpr)
  | sync
  -- Fixed-point arithmetic (42_fixed_arith.md).
  | addi (rt ra : Gpr) (si : BitVec 16)
  | addis (rt ra : Gpr) (si : BitVec 16)
  | add (rt ra rb : Gpr) (oe rc : Bool)
  | subf (rt ra rb : Gpr) (oe rc : Bool)
  | addic (rt ra : Gpr) (si : BitVec 16)
  | addicDot (rt ra : Gpr) (si : BitVec 16)
  | subfic (rt ra : Gpr) (si : BitVec 16)
  | addc (rt ra rb : Gpr) (oe rc : Bool)
  | subfc (rt ra rb : Gpr) (oe rc : Bool)
  | adde (rt ra rb : Gpr) (oe rc : Bool)
  | subfe (rt ra rb : Gpr) (oe rc : Bool)
  | addme (rt ra : Gpr) (oe rc : Bool)
  | subfme (rt ra : Gpr) (oe rc : Bool)
  | addze (rt ra : Gpr) (oe rc : Bool)
  | subfze (rt ra : Gpr) (oe rc : Bool)
  | neg (rt ra : Gpr) (oe rc : Bool)
  | mulli (rt ra : Gpr) (si : BitVec 16)
  | mulld (rt ra rb : Gpr) (oe rc : Bool)
  | mullw (rt ra rb : Gpr) (oe rc : Bool)
  | mulhd (rt ra rb : Gpr) (rc : Bool)
  | mulhw (rt ra rb : Gpr) (rc : Bool)
  | mulhdu (rt ra rb : Gpr) (rc : Bool)
  | mulhwu (rt ra rb : Gpr) (rc : Bool)
  | divd (rt ra rb : Gpr) (oe rc : Bool)
  | divw (rt ra rb : Gpr) (oe rc : Bool)
  | divdu (rt ra rb : Gpr) (oe rc : Bool)
  | divwu (rt ra rb : Gpr) (oe rc : Bool)
  -- Compares and traps.
  | cmpi (bf : CrField) (l : Bool) (ra : Gpr) (si : BitVec 16)
  | cmp (bf : CrField) (l : Bool) (ra rb : Gpr)
  | cmpli (bf : CrField) (l : Bool) (ra : Gpr) (ui : BitVec 16)
  | cmpl (bf : CrField) (l : Bool) (ra rb : Gpr)
  | tdi (cond : BitVec 5) (ra : Gpr) (si : BitVec 16)
  | twi (cond : BitVec 5) (ra : Gpr) (si : BitVec 16)
  | td (cond : BitVec 5) (ra rb : Gpr)
  | tw (cond : BitVec 5) (ra rb : Gpr)
  -- Logical instructions (43_fixed_logical_shift.md).
  | andiDot (ra rs : Gpr) (ui : BitVec 16)
  | andisDot (ra rs : Gpr) (ui : BitVec 16)
  | ori (ra rs : Gpr) (ui : BitVec 16)
  | oris (ra rs : Gpr) (ui : BitVec 16)
  | xori (ra rs : Gpr) (ui : BitVec 16)
  | xoris (ra rs : Gpr) (ui : BitVec 16)
  | and (ra rs rb : Gpr) (rc : Bool)
  | or (ra rs rb : Gpr) (rc : Bool)
  | xor (ra rs rb : Gpr) (rc : Bool)
  | nand (ra rs rb : Gpr) (rc : Bool)
  | nor (ra rs rb : Gpr) (rc : Bool)
  | eqv (ra rs rb : Gpr) (rc : Bool)
  | andc (ra rs rb : Gpr) (rc : Bool)
  | orc (ra rs rb : Gpr) (rc : Bool)
  | extsb (ra rs : Gpr) (rc : Bool)
  | extsh (ra rs : Gpr) (rc : Bool)
  | extsw (ra rs : Gpr) (rc : Bool)
  | cntlzd (ra rs : Gpr) (rc : Bool)
  | cntlzw (ra rs : Gpr) (rc : Bool)
  -- Rotates and shifts.
  | rldicl (ra rs : Gpr) (sh mb : BitVec 6) (rc : Bool)
  | rldicr (ra rs : Gpr) (sh me : BitVec 6) (rc : Bool)
  | rldic (ra rs : Gpr) (sh mb : BitVec 6) (rc : Bool)
  | rlwinm (ra rs : Gpr) (sh mb me : BitVec 5) (rc : Bool)
  | rldcl (ra rs rb : Gpr) (mb : BitVec 6) (rc : Bool)
  | rldcr (ra rs rb : Gpr) (me : BitVec 6) (rc : Bool)
  | rlwnm (ra rs rb : Gpr) (mb me : BitVec 5) (rc : Bool)
  | rldimi (ra rs : Gpr) (sh mb : BitVec 6) (rc : Bool)
  | rlwimi (ra rs : Gpr) (sh mb me : BitVec 5) (rc : Bool)
  | sld (ra rs rb : Gpr) (rc : Bool)
  | slw (ra rs rb : Gpr) (rc : Bool)
  | srd (ra rs rb : Gpr) (rc : Bool)
  | srw (ra rs rb : Gpr) (rc : Bool)
  | sradi (ra rs : Gpr) (sh : BitVec 6) (rc : Bool)
  | srawi (ra rs : Gpr) (sh : BitVec 5) (rc : Bool)
  | srad (ra rs rb : Gpr) (rc : Bool)
  | sraw (ra rs rb : Gpr) (rc : Bool)
  -- Moves to and from special registers and the CR.
  | mtspr (spr : SprNum) (rs : Gpr)
  | mfspr (rt : Gpr) (spr : SprNum)
  | mtcrf (fxm : BitVec 8) (rs : Gpr)
  | mcrxr (bf : CrField)
  | mfcr (rt : Gpr)
  -- Floating-point loads, stores and moves (44_float_load_store_move.md).
  | lfs (frt : Fpr) (d : BitVec 16) (ra : Gpr)
  | lfsx (frt : Fpr) (ra rb : Gpr)
  | lfsu (frt : Fpr) (d : BitVec 16) (ra : Gpr)
  | lfsux (frt : Fpr) (ra rb : Gpr)
  | lfd (frt : Fpr) (d : BitVec 16) (ra : Gpr)
  | lfdx (frt : Fpr) (ra rb : Gpr)
  | lfdu (frt : Fpr) (d : BitVec 16) (ra : Gpr)
  | lfdux (frt : Fpr) (ra rb : Gpr)
  | stfs (frs : Fpr) (d : BitVec 16) (ra : Gpr)
  | stfsx (frs : Fpr) (ra rb : Gpr)
  | stfsu (frs : Fpr) (d : BitVec 16) (ra : Gpr)
  | stfsux (frs : Fpr) (ra rb : Gpr)
  | stfd (frs : Fpr) (d : BitVec 16) (ra : Gpr)
  | stfdx (frs : Fpr) (ra rb : Gpr)
  | stfdu (frs : Fpr) (d : BitVec 16) (ra : Gpr)
  | stfdux (frs : Fpr) (ra rb : Gpr)
  | stfiwx (frs : Fpr) (ra rb : Gpr)
  | fmr (frt frb : Fpr) (rc : Bool)
  | fneg (frt frb : Fpr) (rc : Bool)
  | fabs (frt frb : Fpr) (rc : Bool)
  | fnabs (frt frb : Fpr) (rc : Bool)
  -- Floating-point arithmetic (45_float_arith.md).
  | fadd (frt fra frb : Fpr) (rc : Bool)
  | fadds (frt fra frb : Fpr) (rc : Bool)
  | fsub (frt fra frb : Fpr) (rc : Bool)
  | fsubs (frt fra frb : Fpr) (rc : Bool)
  | fmul (frt fra frc : Fpr) (rc : Bool)
  | fmuls (frt fra frc : Fpr) (rc : Bool)
  | fdiv (frt fra frb : Fpr) (rc : Bool)
  | fdivs (frt fra frb : Fpr) (rc : Bool)
  | fmadd (frt fra frc frb : Fpr) (rc : Bool)
  | fmadds (frt fra frc frb : Fpr) (rc : Bool)
  | fmsub (frt fra frc frb : Fpr) (rc : Bool)
  | fmsubs (frt fra frc frb : Fpr) (rc : Bool)
  | fnmadd (frt fra frc frb : Fpr) (rc : Bool)
  | fnmadds (frt fra frc frb : Fpr) (rc : Bool)
  | fnmsub (frt fra frc frb : Fpr) (rc : Bool)
  | fnmsubs (frt fra frc frb : Fpr) (rc : Bool)
  | fsqrt (frt frb : Fpr) (rc : Bool)
  | fsqrts (frt frb : Fpr) (rc : Bool)
  | fres (frt frb : Fpr) (rc : Bool)
  | frsqrte (frt frb : Fpr) (rc : Bool)
  | fsel (frt fra frc frb : Fpr) (rc : Bool)
  -- Rounding, conversion, comparison and FPSCR instructions (46_float_convert_compare_status.md).
  | frsp (frt frb : Fpr) (rc : Bool)
  | fctid (frt frb : Fpr) (rc : Bool)
  | fctidz (frt frb : Fpr) (rc : Bool)
  | fctiw (frt frb : Fpr) (rc : Bool)
  | fctiwz (frt frb : Fpr) (rc : Bool)
  | fcfid (frt frb : Fpr) (rc : Bool)
  | fcmpu (bf : CrField) (fra frb : Fpr)
  | fcmpo (bf : CrField) (fra frb : Fpr)
  | mffs (frt : Fpr) (rc : Bool)
  | mcrfs (bf bfa : CrField)
  | mtfsfi (bf : CrField) (u : BitVec 4) (rc : Bool)
  | mtfsf (flm : BitVec 8) (frb : Fpr) (rc : Bool)
  | mtfsb0 (bt : CrBit) (rc : Bool)
  | mtfsb1 (bt : CrBit) (rc : Bool)
  -- Storage control and Time Base (47_storage_control.md).
  | icbi (ra rb : Gpr)
  | isync
  | dcbt (ra rb : Gpr)
  | dcbtst (ra rb : Gpr)
  | dcbz (ra rb : Gpr)
  | dcbst (ra rb : Gpr)
  | dcbf (ra rb : Gpr)
  | eieio
  | mftb (rt : Gpr) (tbr : SprNum)
  -- Supervisor instructions and External Control (48_supervisor.md).
  | rfi
  | mtmsr (rs : Gpr)
  | mfmsr (rt : Gpr)
  | mtsr (sr : BitVec 4) (rs : Gpr)
  | mtsrin (rs rb : Gpr)
  | mfsr (rt : Gpr) (sr : BitVec 4)
  | mfsrin (rt rb : Gpr)
  | dcbi (ra rb : Gpr)
  | slbie (rb : Gpr)
  | slbia
  | tlbie (rb : Gpr)
  | tlbia
  | tlbsync
  | eciwx (rt ra rb : Gpr)
  | ecowx (rs ra rb : Gpr)
deriving DecidableEq, Repr

end Sys2Proof
end

