-- ==== Sys2Proof/Machine/Forms.lean ====
section
/-! DEFINITION. What the opcode table and 30_encoding.md say of an instruction apart from its effect: where it exists,
whether it is privileged or floating-point (R197 to R200), and the operand forms that are valid (R211). -/

namespace Sys2Proof

/-- On which implementations an instruction is defined (30_encoding.md R197). -/
inductive Availability where
  | both
  | only64
  | only32
deriving DecidableEq, Repr

/-- The decode-time requirements of an instruction, steps (3) to (6) of 30_encoding.md R200. -/
structure Req where
  avail : Availability := .both
  /-- `false` for an optional instruction the implementation lacks (R198) -/
  present : Bool := true
  /-- privileged (R199) -/
  priv : Bool := false
  /-- floating-point: needs `MSR_FP = 1` (60_exceptions.md R718) -/
  fp : Bool := false
deriving DecidableEq, Repr

/-- Is the SPR number one `mtspr` may write on this implementation (10_state.md R56, 43 R470)? -/
def mtsprDefined (c : Config) (n : SprNum) : Bool :=
  n == 1 || n == 8 || n == 9 || n == 18 || n == 19 || n == 22 || n == 25 || n == 26 || n == 27
    || (272 ≤ n.toNat && n.toNat ≤ 275) || (n == 280 && c.impl64) || (n == 282 && c.hasExternalControl)
    || n == 284 || n == 285 || (528 ≤ n.toNat && n.toNat ≤ 543)
    || (n == 1022 && c.fpecrPresent) || (n == 1023 && c.pirPresent)

/-- Is the SPR number one `mfspr` may read on this implementation (10_state.md R56, 43 R471)? -/
def mfsprDefined (c : Config) (n : SprNum) : Bool :=
  n == 1 || n == 8 || n == 9 || n == 18 || n == 19 || n == 22 || n == 25 || n == 26 || n == 27
    || (272 ≤ n.toNat && n.toNat ≤ 275) || (n == 280 && c.impl64) || (n == 282 && c.hasExternalControl)
    || n == 287 || (528 ≤ n.toNat && n.toNat ≤ 543)
    || (n == 1022 && c.fpecrPresent) || (n == 1023 && c.pirPresent)

/-- A SPR move is privileged when the number has its weight-16 bit set (10_state.md R56); for an undefined number only
where the implementation says so (93 part 1.1). -/
def sprPrivileged (c : Config) (defined : Bool) (n : SprNum) : Bool :=
  n.getLsbD 4 && (defined || c.sprInvalidPrivileged)

/-- The requirements of every row of the opcode table. -/
def Instr.req (c : Config) : Instr → Req
  | .b _ _ _ => {}
  | .bc _ _ _ _ _ => {}
  | .bclr _ _ _ => {}
  | .bcctr _ _ _ => {}
  | .sc => {}
  | .crand _ _ _ => {}
  | .cror _ _ _ => {}
  | .crxor _ _ _ => {}
  | .crnand _ _ _ => {}
  | .crnor _ _ _ => {}
  | .creqv _ _ _ => {}
  | .crandc _ _ _ => {}
  | .crorc _ _ _ => {}
  | .mcrf _ _ => {}
  | .lbz _ _ _ => {}
  | .lbzu _ _ _ => {}
  | .lbzx _ _ _ => {}
  | .lbzux _ _ _ => {}
  | .lhz _ _ _ => {}
  | .lhzu _ _ _ => {}
  | .lhzx _ _ _ => {}
  | .lhzux _ _ _ => {}
  | .lha _ _ _ => {}
  | .lhau _ _ _ => {}
  | .lhax _ _ _ => {}
  | .lhaux _ _ _ => {}
  | .lwz _ _ _ => {}
  | .lwzu _ _ _ => {}
  | .lwzx _ _ _ => {}
  | .lwzux _ _ _ => {}
  | .lwa _ _ _ => { avail := .only64 }
  | .lwax _ _ _ => { avail := .only64 }
  | .lwaux _ _ _ => { avail := .only64 }
  | .ld _ _ _ => { avail := .only64 }
  | .ldu _ _ _ => { avail := .only64 }
  | .ldx _ _ _ => { avail := .only64 }
  | .ldux _ _ _ => { avail := .only64 }
  | .stb _ _ _ => {}
  | .stbu _ _ _ => {}
  | .stbx _ _ _ => {}
  | .stbux _ _ _ => {}
  | .sth _ _ _ => {}
  | .sthu _ _ _ => {}
  | .sthx _ _ _ => {}
  | .sthux _ _ _ => {}
  | .stw _ _ _ => {}
  | .stwu _ _ _ => {}
  | .stwx _ _ _ => {}
  | .stwux _ _ _ => {}
  | .std _ _ _ => { avail := .only64 }
  | .stdu _ _ _ => { avail := .only64 }
  | .stdx _ _ _ => { avail := .only64 }
  | .stdux _ _ _ => { avail := .only64 }
  | .lhbrx _ _ _ => {}
  | .lwbrx _ _ _ => {}
  | .sthbrx _ _ _ => {}
  | .stwbrx _ _ _ => {}
  | .lmw _ _ _ => {}
  | .stmw _ _ _ => {}
  | .lswi _ _ _ => {}
  | .lswx _ _ _ => {}
  | .stswi _ _ _ => {}
  | .stswx _ _ _ => {}
  | .lwarx _ _ _ => {}
  | .ldarx _ _ _ => { avail := .only64 }
  | .stwcxDot _ _ _ => {}
  | .stdcxDot _ _ _ => { avail := .only64 }
  | .sync => {}
  | .addi _ _ _ => {}
  | .addis _ _ _ => {}
  | .add _ _ _ _ _ => {}
  | .subf _ _ _ _ _ => {}
  | .addic _ _ _ => {}
  | .addicDot _ _ _ => {}
  | .subfic _ _ _ => {}
  | .addc _ _ _ _ _ => {}
  | .subfc _ _ _ _ _ => {}
  | .adde _ _ _ _ _ => {}
  | .subfe _ _ _ _ _ => {}
  | .addme _ _ _ _ => {}
  | .subfme _ _ _ _ => {}
  | .addze _ _ _ _ => {}
  | .subfze _ _ _ _ => {}
  | .neg _ _ _ _ => {}
  | .mulli _ _ _ => {}
  | .mulld _ _ _ _ _ => { avail := .only64 }
  | .mullw _ _ _ _ _ => {}
  | .mulhd _ _ _ _ => { avail := .only64 }
  | .mulhw _ _ _ _ => {}
  | .mulhdu _ _ _ _ => { avail := .only64 }
  | .mulhwu _ _ _ _ => {}
  | .divd _ _ _ _ _ => { avail := .only64 }
  | .divw _ _ _ _ _ => {}
  | .divdu _ _ _ _ _ => { avail := .only64 }
  | .divwu _ _ _ _ _ => {}
  | .cmpi _ _ _ _ => {}
  | .cmp _ _ _ _ => {}
  | .cmpli _ _ _ _ => {}
  | .cmpl _ _ _ _ => {}
  | .tdi _ _ _ => { avail := .only64 }
  | .twi _ _ _ => {}
  | .td _ _ _ => { avail := .only64 }
  | .tw _ _ _ => {}
  | .andiDot _ _ _ => {}
  | .andisDot _ _ _ => {}
  | .ori _ _ _ => {}
  | .oris _ _ _ => {}
  | .xori _ _ _ => {}
  | .xoris _ _ _ => {}
  | .and _ _ _ _ => {}
  | .or _ _ _ _ => {}
  | .xor _ _ _ _ => {}
  | .nand _ _ _ _ => {}
  | .nor _ _ _ _ => {}
  | .eqv _ _ _ _ => {}
  | .andc _ _ _ _ => {}
  | .orc _ _ _ _ => {}
  | .extsb _ _ _ => {}
  | .extsh _ _ _ => {}
  | .extsw _ _ _ => { avail := .only64 }
  | .cntlzd _ _ _ => { avail := .only64 }
  | .cntlzw _ _ _ => {}
  | .rldicl _ _ _ _ _ => { avail := .only64 }
  | .rldicr _ _ _ _ _ => { avail := .only64 }
  | .rldic _ _ _ _ _ => { avail := .only64 }
  | .rlwinm _ _ _ _ _ _ => {}
  | .rldcl _ _ _ _ _ => { avail := .only64 }
  | .rldcr _ _ _ _ _ => { avail := .only64 }
  | .rlwnm _ _ _ _ _ _ => {}
  | .rldimi _ _ _ _ _ => { avail := .only64 }
  | .rlwimi _ _ _ _ _ _ => {}
  | .sld _ _ _ _ => { avail := .only64 }
  | .slw _ _ _ _ => {}
  | .srd _ _ _ _ => { avail := .only64 }
  | .srw _ _ _ _ => {}
  | .sradi _ _ _ _ => { avail := .only64 }
  | .srawi _ _ _ _ => {}
  | .srad _ _ _ _ => { avail := .only64 }
  | .sraw _ _ _ _ => {}
  | .mtspr spr _ => { priv := sprPrivileged c (mtsprDefined c spr) spr }
  | .mfspr _ spr => { priv := sprPrivileged c (mfsprDefined c spr) spr }
  | .mtcrf _ _ => {}
  | .mcrxr _ => {}
  | .mfcr _ => {}
  | .lfs _ _ _ => { fp := true }
  | .lfsx _ _ _ => { fp := true }
  | .lfsu _ _ _ => { fp := true }
  | .lfsux _ _ _ => { fp := true }
  | .lfd _ _ _ => { fp := true }
  | .lfdx _ _ _ => { fp := true }
  | .lfdu _ _ _ => { fp := true }
  | .lfdux _ _ _ => { fp := true }
  | .stfs _ _ _ => { fp := true }
  | .stfsx _ _ _ => { fp := true }
  | .stfsu _ _ _ => { fp := true }
  | .stfsux _ _ _ => { fp := true }
  | .stfd _ _ _ => { fp := true }
  | .stfdx _ _ _ => { fp := true }
  | .stfdu _ _ _ => { fp := true }
  | .stfdux _ _ _ => { fp := true }
  | .stfiwx _ _ _ => { present := c.hasFpGraphics, fp := true }
  | .fmr _ _ _ => { fp := true }
  | .fneg _ _ _ => { fp := true }
  | .fabs _ _ _ => { fp := true }
  | .fnabs _ _ _ => { fp := true }
  | .fadd _ _ _ _ => { fp := true }
  | .fadds _ _ _ _ => { fp := true }
  | .fsub _ _ _ _ => { fp := true }
  | .fsubs _ _ _ _ => { fp := true }
  | .fmul _ _ _ _ => { fp := true }
  | .fmuls _ _ _ _ => { fp := true }
  | .fdiv _ _ _ _ => { fp := true }
  | .fdivs _ _ _ _ => { fp := true }
  | .fmadd _ _ _ _ _ => { fp := true }
  | .fmadds _ _ _ _ _ => { fp := true }
  | .fmsub _ _ _ _ _ => { fp := true }
  | .fmsubs _ _ _ _ _ => { fp := true }
  | .fnmadd _ _ _ _ _ => { fp := true }
  | .fnmadds _ _ _ _ _ => { fp := true }
  | .fnmsub _ _ _ _ _ => { fp := true }
  | .fnmsubs _ _ _ _ _ => { fp := true }
  | .fsqrt _ _ _ => { present := c.hasFpGp, fp := true }
  | .fsqrts _ _ _ => { present := c.hasFpGp, fp := true }
  | .fres _ _ _ => { present := c.hasFpGraphics, fp := true }
  | .frsqrte _ _ _ => { present := c.hasFpGraphics, fp := true }
  | .fsel _ _ _ _ _ => { present := c.hasFpGraphics, fp := true }
  | .frsp _ _ _ => { fp := true }
  | .fctid _ _ _ => { avail := .only64, fp := true }
  | .fctidz _ _ _ => { avail := .only64, fp := true }
  | .fctiw _ _ _ => { fp := true }
  | .fctiwz _ _ _ => { fp := true }
  | .fcfid _ _ _ => { avail := .only64, fp := true }
  | .fcmpu _ _ _ => { fp := true }
  | .fcmpo _ _ _ => { fp := true }
  | .mffs _ _ => { fp := true }
  | .mcrfs _ _ => { fp := true }
  | .mtfsfi _ _ _ => { fp := true }
  | .mtfsf _ _ _ => { fp := true }
  | .mtfsb0 _ _ => { fp := true }
  | .mtfsb1 _ _ => { fp := true }
  | .icbi _ _ => {}
  | .isync => {}
  | .dcbt _ _ => {}
  | .dcbtst _ _ => {}
  | .dcbz _ _ => {}
  | .dcbst _ _ => {}
  | .dcbf _ _ => {}
  | .eieio => {}
  | .mftb _ _ => {}
  | .rfi => { priv := true }
  | .mtmsr _ => { priv := true }
  | .mfmsr _ => { priv := true }
  | .mtsr _ _ => { avail := .only32, priv := true }
  | .mtsrin _ _ => { avail := .only32, priv := true }
  | .mfsr _ _ => { avail := .only32, priv := true }
  | .mfsrin _ _ => { avail := .only32, priv := true }
  | .dcbi _ _ => { priv := true }
  | .slbie _ => { avail := .only64, present := c.hasSlbie, priv := true }
  | .slbia => { avail := .only64, present := c.hasSlbia, priv := true }
  | .tlbie _ => { priv := true }
  | .tlbia => { present := c.hasTlbia, priv := true }
  | .tlbsync => { present := c.hasTlbsync, priv := true }
  | .eciwx _ _ _ => { present := c.hasExternalControl }
  | .ecowx _ _ _ => { present := c.hasExternalControl }

/-- The `z` bits of a BO field are 0 (30_encoding.md R184, R211 b): BO[3] in `001zy` and `011zy`, BO[1] in `1z00y`
and `1z01y`, BO[1], BO[3] and BO[4] in `1z1zz`. -/
def boValid (bo : BitVec 5) : Bool :=
  if bit bo 0 then
    !bit bo 1 && (!bit bo 2 || (!bit bo 3 && !bit bo 4))
  else
    !bit bo 2 || !bit bo 3

/-- Register `r` lies among the `k` registers that start at `first`, wrapping from 31 to 0. -/
def inWrappedRange (first : Gpr) (k : Nat) (r : Gpr) : Bool := (r - first).toNat < k

/-- The byte count of `lswi` and `stswi`: 0 means 32 (30_encoding.md R179). -/
def nbBytes (nb : BitVec 5) : Nat := if nb = 0 then 32 else nb.toNat

/-- The number of registers that `n` bytes fill, four bytes to a register (41 R330). -/
def regsFor (n : Nat) : Nat := (n + 3) / 4

/-- Update forms of fixed-point loads: RA is neither 0 nor RT (30_encoding.md R211 e). -/
def loadUpdateValid (rt ra : Gpr) : Bool := ra != 0 && ra != rt

/-- Update forms of stores and floating-point loads: RA is not 0 (30_encoding.md R211 e). -/
def updateValid (ra : Gpr) : Bool := ra != 0

/-- The operand restrictions that the word alone decides (30_encoding.md R211 b, c, e, f, g, j). -/
def Instr.formValid : Instr → Bool
  | .b _ _ _ => true
  | .bc bo _ _ _ _ => boValid bo
  | .bclr bo _ _ => boValid bo
  | .bcctr bo _ _ => boValid bo && bit bo 2
  | .sc => true
  | .crand _ _ _ => true
  | .cror _ _ _ => true
  | .crxor _ _ _ => true
  | .crnand _ _ _ => true
  | .crnor _ _ _ => true
  | .creqv _ _ _ => true
  | .crandc _ _ _ => true
  | .crorc _ _ _ => true
  | .mcrf _ _ => true
  | .lbz _ _ _ => true
  | .lbzu rt _ ra => loadUpdateValid rt ra
  | .lbzx _ _ _ => true
  | .lbzux rt ra _ => loadUpdateValid rt ra
  | .lhz _ _ _ => true
  | .lhzu rt _ ra => loadUpdateValid rt ra
  | .lhzx _ _ _ => true
  | .lhzux rt ra _ => loadUpdateValid rt ra
  | .lha _ _ _ => true
  | .lhau rt _ ra => loadUpdateValid rt ra
  | .lhax _ _ _ => true
  | .lhaux rt ra _ => loadUpdateValid rt ra
  | .lwz _ _ _ => true
  | .lwzu rt _ ra => loadUpdateValid rt ra
  | .lwzx _ _ _ => true
  | .lwzux rt ra _ => loadUpdateValid rt ra
  | .lwa _ _ _ => true
  | .lwax _ _ _ => true
  | .lwaux rt ra _ => loadUpdateValid rt ra
  | .ld _ _ _ => true
  | .ldu rt _ ra => loadUpdateValid rt ra
  | .ldx _ _ _ => true
  | .ldux rt ra _ => loadUpdateValid rt ra
  | .stb _ _ _ => true
  | .stbu _ _ ra => updateValid ra
  | .stbx _ _ _ => true
  | .stbux _ ra _ => updateValid ra
  | .sth _ _ _ => true
  | .sthu _ _ ra => updateValid ra
  | .sthx _ _ _ => true
  | .sthux _ ra _ => updateValid ra
  | .stw _ _ _ => true
  | .stwu _ _ ra => updateValid ra
  | .stwx _ _ _ => true
  | .stwux _ ra _ => updateValid ra
  | .std _ _ _ => true
  | .stdu _ _ ra => updateValid ra
  | .stdx _ _ _ => true
  | .stdux _ ra _ => updateValid ra
  | .lhbrx _ _ _ => true
  | .lwbrx _ _ _ => true
  | .sthbrx _ _ _ => true
  | .stwbrx _ _ _ => true
  | .lmw rt _ ra => ra.toNat < rt.toNat
  | .stmw _ _ _ => true
  | .lswi rt ra nb => !inWrappedRange rt (regsFor (nbBytes nb)) ra
  | .lswx rt ra rb => ra != rt && rb != rt
  | .stswi _ _ _ => true
  | .stswx _ _ _ => true
  | .lwarx _ _ _ => true
  | .ldarx _ _ _ => true
  | .stwcxDot _ _ _ => true
  | .stdcxDot _ _ _ => true
  | .sync => true
  | .addi _ _ _ => true
  | .addis _ _ _ => true
  | .add _ _ _ _ _ => true
  | .subf _ _ _ _ _ => true
  | .addic _ _ _ => true
  | .addicDot _ _ _ => true
  | .subfic _ _ _ => true
  | .addc _ _ _ _ _ => true
  | .subfc _ _ _ _ _ => true
  | .adde _ _ _ _ _ => true
  | .subfe _ _ _ _ _ => true
  | .addme _ _ _ _ => true
  | .subfme _ _ _ _ => true
  | .addze _ _ _ _ => true
  | .subfze _ _ _ _ => true
  | .neg _ _ _ _ => true
  | .mulli _ _ _ => true
  | .mulld _ _ _ _ _ => true
  | .mullw _ _ _ _ _ => true
  | .mulhd _ _ _ _ => true
  | .mulhw _ _ _ _ => true
  | .mulhdu _ _ _ _ => true
  | .mulhwu _ _ _ _ => true
  | .divd _ _ _ _ _ => true
  | .divw _ _ _ _ _ => true
  | .divdu _ _ _ _ _ => true
  | .divwu _ _ _ _ _ => true
  | .cmpi _ _ _ _ => true
  | .cmp _ _ _ _ => true
  | .cmpli _ _ _ _ => true
  | .cmpl _ _ _ _ => true
  | .tdi _ _ _ => true
  | .twi _ _ _ => true
  | .td _ _ _ => true
  | .tw _ _ _ => true
  | .andiDot _ _ _ => true
  | .andisDot _ _ _ => true
  | .ori _ _ _ => true
  | .oris _ _ _ => true
  | .xori _ _ _ => true
  | .xoris _ _ _ => true
  | .and _ _ _ _ => true
  | .or _ _ _ _ => true
  | .xor _ _ _ _ => true
  | .nand _ _ _ _ => true
  | .nor _ _ _ _ => true
  | .eqv _ _ _ _ => true
  | .andc _ _ _ _ => true
  | .orc _ _ _ _ => true
  | .extsb _ _ _ => true
  | .extsh _ _ _ => true
  | .extsw _ _ _ => true
  | .cntlzd _ _ _ => true
  | .cntlzw _ _ _ => true
  | .rldicl _ _ _ _ _ => true
  | .rldicr _ _ _ _ _ => true
  | .rldic _ _ _ _ _ => true
  | .rlwinm _ _ _ _ _ _ => true
  | .rldcl _ _ _ _ _ => true
  | .rldcr _ _ _ _ _ => true
  | .rlwnm _ _ _ _ _ _ => true
  | .rldimi _ _ _ _ _ => true
  | .rlwimi _ _ _ _ _ _ => true
  | .sld _ _ _ _ => true
  | .slw _ _ _ _ => true
  | .srd _ _ _ _ => true
  | .srw _ _ _ _ => true
  | .sradi _ _ _ _ => true
  | .srawi _ _ _ _ => true
  | .srad _ _ _ _ => true
  | .sraw _ _ _ _ => true
  | .mtspr _ _ => true
  | .mfspr _ _ => true
  | .mtcrf _ _ => true
  | .mcrxr _ => true
  | .mfcr _ => true
  | .lfs _ _ _ => true
  | .lfsx _ _ _ => true
  | .lfsu _ _ ra => updateValid ra
  | .lfsux _ ra _ => updateValid ra
  | .lfd _ _ _ => true
  | .lfdx _ _ _ => true
  | .lfdu _ _ ra => updateValid ra
  | .lfdux _ ra _ => updateValid ra
  | .stfs _ _ _ => true
  | .stfsx _ _ _ => true
  | .stfsu _ _ ra => updateValid ra
  | .stfsux _ ra _ => updateValid ra
  | .stfd _ _ _ => true
  | .stfdx _ _ _ => true
  | .stfdu _ _ ra => updateValid ra
  | .stfdux _ ra _ => updateValid ra
  | .stfiwx _ _ _ => true
  | .fmr _ _ _ => true
  | .fneg _ _ _ => true
  | .fabs _ _ _ => true
  | .fnabs _ _ _ => true
  | .fadd _ _ _ _ => true
  | .fadds _ _ _ _ => true
  | .fsub _ _ _ _ => true
  | .fsubs _ _ _ _ => true
  | .fmul _ _ _ _ => true
  | .fmuls _ _ _ _ => true
  | .fdiv _ _ _ _ => true
  | .fdivs _ _ _ _ => true
  | .fmadd _ _ _ _ _ => true
  | .fmadds _ _ _ _ _ => true
  | .fmsub _ _ _ _ _ => true
  | .fmsubs _ _ _ _ _ => true
  | .fnmadd _ _ _ _ _ => true
  | .fnmadds _ _ _ _ _ => true
  | .fnmsub _ _ _ _ _ => true
  | .fnmsubs _ _ _ _ _ => true
  | .fsqrt _ _ _ => true
  | .fsqrts _ _ _ => true
  | .fres _ _ _ => true
  | .frsqrte _ _ _ => true
  | .fsel _ _ _ _ _ => true
  | .frsp _ _ _ => true
  | .fctid _ _ _ => true
  | .fctidz _ _ _ => true
  | .fctiw _ _ _ => true
  | .fctiwz _ _ _ => true
  | .fcfid _ _ _ => true
  | .fcmpu _ _ _ => true
  | .fcmpo _ _ _ => true
  | .mffs _ _ => true
  | .mcrfs _ _ => true
  | .mtfsfi _ _ _ => true
  | .mtfsf _ _ _ => true
  | .mtfsb0 _ _ => true
  | .mtfsb1 _ _ => true
  | .icbi _ _ => true
  | .isync => true
  | .dcbt _ _ => true
  | .dcbtst _ _ => true
  | .dcbz _ _ => true
  | .dcbst _ _ => true
  | .dcbf _ _ => true
  | .eieio => true
  | .mftb _ tbr => tbr == 268 || tbr == 269
  | .rfi => true
  | .mtmsr _ => true
  | .mfmsr _ => true
  | .mtsr _ _ => true
  | .mtsrin _ _ => true
  | .mfsr _ _ => true
  | .mfsrin _ _ => true
  | .dcbi _ _ => true
  | .slbie _ => true
  | .slbia => true
  | .tlbie _ => true
  | .tlbia => true
  | .tlbsync => true
  | .eciwx _ _ _ => true
  | .ecowx _ _ _ => true

/-- The operand restrictions that also depend on the implementation or, for `lswx`, on the byte count `XER[25:31]`
(30_encoding.md R211 f, g, h). -/
def Instr.formValidHere (c : Config) (xer : Word) : Instr → Bool
  | .b _ _ _ => true
  | .bc _ _ _ _ _ => true
  | .bclr _ _ _ => true
  | .bcctr _ _ _ => true
  | .sc => true
  | .crand _ _ _ => true
  | .cror _ _ _ => true
  | .crxor _ _ _ => true
  | .crnand _ _ _ => true
  | .crnor _ _ _ => true
  | .creqv _ _ _ => true
  | .crandc _ _ _ => true
  | .crorc _ _ _ => true
  | .mcrf _ _ => true
  | .lbz _ _ _ => true
  | .lbzu _ _ _ => true
  | .lbzx _ _ _ => true
  | .lbzux _ _ _ => true
  | .lhz _ _ _ => true
  | .lhzu _ _ _ => true
  | .lhzx _ _ _ => true
  | .lhzux _ _ _ => true
  | .lha _ _ _ => true
  | .lhau _ _ _ => true
  | .lhax _ _ _ => true
  | .lhaux _ _ _ => true
  | .lwz _ _ _ => true
  | .lwzu _ _ _ => true
  | .lwzx _ _ _ => true
  | .lwzux _ _ _ => true
  | .lwa _ _ _ => true
  | .lwax _ _ _ => true
  | .lwaux _ _ _ => true
  | .ld _ _ _ => true
  | .ldu _ _ _ => true
  | .ldx _ _ _ => true
  | .ldux _ _ _ => true
  | .stb _ _ _ => true
  | .stbu _ _ _ => true
  | .stbx _ _ _ => true
  | .stbux _ _ _ => true
  | .sth _ _ _ => true
  | .sthu _ _ _ => true
  | .sthx _ _ _ => true
  | .sthux _ _ _ => true
  | .stw _ _ _ => true
  | .stwu _ _ _ => true
  | .stwx _ _ _ => true
  | .stwux _ _ _ => true
  | .std _ _ _ => true
  | .stdu _ _ _ => true
  | .stdx _ _ _ => true
  | .stdux _ _ _ => true
  | .lhbrx _ _ _ => true
  | .lwbrx _ _ _ => true
  | .sthbrx _ _ _ => true
  | .stwbrx _ _ _ => true
  | .lmw _ _ _ => true
  | .stmw _ _ _ => true
  | .lswi _ _ _ => true
  | .lswx rt ra rb => !inWrappedRange rt (regsFor (slice xer 25 7).toNat) ra
      && !inWrappedRange rt (regsFor (slice xer 25 7).toNat) rb
  | .stswi _ _ _ => true
  | .stswx _ _ _ => true
  | .lwarx _ _ _ => true
  | .ldarx _ _ _ => true
  | .stwcxDot _ _ _ => true
  | .stdcxDot _ _ _ => true
  | .sync => true
  | .addi _ _ _ => true
  | .addis _ _ _ => true
  | .add _ _ _ _ _ => true
  | .subf _ _ _ _ _ => true
  | .addic _ _ _ => true
  | .addicDot _ _ _ => true
  | .subfic _ _ _ => true
  | .addc _ _ _ _ _ => true
  | .subfc _ _ _ _ _ => true
  | .adde _ _ _ _ _ => true
  | .subfe _ _ _ _ _ => true
  | .addme _ _ _ _ => true
  | .subfme _ _ _ _ => true
  | .addze _ _ _ _ => true
  | .subfze _ _ _ _ => true
  | .neg _ _ _ _ => true
  | .mulli _ _ _ => true
  | .mulld _ _ _ _ _ => true
  | .mullw _ _ _ _ _ => true
  | .mulhd _ _ _ _ => true
  | .mulhw _ _ _ _ => true
  | .mulhdu _ _ _ _ => true
  | .mulhwu _ _ _ _ => true
  | .divd _ _ _ _ _ => true
  | .divw _ _ _ _ _ => true
  | .divdu _ _ _ _ _ => true
  | .divwu _ _ _ _ _ => true
  | .cmpi _ l _ _ => !l || c.impl64
  | .cmp _ l _ _ => !l || c.impl64
  | .cmpli _ l _ _ => !l || c.impl64
  | .cmpl _ l _ _ => !l || c.impl64
  | .tdi _ _ _ => true
  | .twi _ _ _ => true
  | .td _ _ _ => true
  | .tw _ _ _ => true
  | .andiDot _ _ _ => true
  | .andisDot _ _ _ => true
  | .ori _ _ _ => true
  | .oris _ _ _ => true
  | .xori _ _ _ => true
  | .xoris _ _ _ => true
  | .and _ _ _ _ => true
  | .or _ _ _ _ => true
  | .xor _ _ _ _ => true
  | .nand _ _ _ _ => true
  | .nor _ _ _ _ => true
  | .eqv _ _ _ _ => true
  | .andc _ _ _ _ => true
  | .orc _ _ _ _ => true
  | .extsb _ _ _ => true
  | .extsh _ _ _ => true
  | .extsw _ _ _ => true
  | .cntlzd _ _ _ => true
  | .cntlzw _ _ _ => true
  | .rldicl _ _ _ _ _ => true
  | .rldicr _ _ _ _ _ => true
  | .rldic _ _ _ _ _ => true
  | .rlwinm _ _ _ _ _ _ => true
  | .rldcl _ _ _ _ _ => true
  | .rldcr _ _ _ _ _ => true
  | .rlwnm _ _ _ _ _ _ => true
  | .rldimi _ _ _ _ _ => true
  | .rlwimi _ _ _ _ _ _ => true
  | .sld _ _ _ _ => true
  | .slw _ _ _ _ => true
  | .srd _ _ _ _ => true
  | .srw _ _ _ _ => true
  | .sradi _ _ _ _ => true
  | .srawi _ _ _ _ => true
  | .srad _ _ _ _ => true
  | .sraw _ _ _ _ => true
  | .mtspr spr _ => mtsprDefined c spr
  | .mfspr _ spr => mfsprDefined c spr
  | .mtcrf _ _ => true
  | .mcrxr _ => true
  | .mfcr _ => true
  | .lfs _ _ _ => true
  | .lfsx _ _ _ => true
  | .lfsu _ _ _ => true
  | .lfsux _ _ _ => true
  | .lfd _ _ _ => true
  | .lfdx _ _ _ => true
  | .lfdu _ _ _ => true
  | .lfdux _ _ _ => true
  | .stfs _ _ _ => true
  | .stfsx _ _ _ => true
  | .stfsu _ _ _ => true
  | .stfsux _ _ _ => true
  | .stfd _ _ _ => true
  | .stfdx _ _ _ => true
  | .stfdu _ _ _ => true
  | .stfdux _ _ _ => true
  | .stfiwx _ _ _ => true
  | .fmr _ _ _ => true
  | .fneg _ _ _ => true
  | .fabs _ _ _ => true
  | .fnabs _ _ _ => true
  | .fadd _ _ _ _ => true
  | .fadds _ _ _ _ => true
  | .fsub _ _ _ _ => true
  | .fsubs _ _ _ _ => true
  | .fmul _ _ _ _ => true
  | .fmuls _ _ _ _ => true
  | .fdiv _ _ _ _ => true
  | .fdivs _ _ _ _ => true
  | .fmadd _ _ _ _ _ => true
  | .fmadds _ _ _ _ _ => true
  | .fmsub _ _ _ _ _ => true
  | .fmsubs _ _ _ _ _ => true
  | .fnmadd _ _ _ _ _ => true
  | .fnmadds _ _ _ _ _ => true
  | .fnmsub _ _ _ _ _ => true
  | .fnmsubs _ _ _ _ _ => true
  | .fsqrt _ _ _ => true
  | .fsqrts _ _ _ => true
  | .fres _ _ _ => true
  | .frsqrte _ _ _ => true
  | .fsel _ _ _ _ _ => true
  | .frsp _ _ _ => true
  | .fctid _ _ _ => true
  | .fctidz _ _ _ => true
  | .fctiw _ _ _ => true
  | .fctiwz _ _ _ => true
  | .fcfid _ _ _ => true
  | .fcmpu _ _ _ => true
  | .fcmpo _ _ _ => true
  | .mffs _ _ => true
  | .mcrfs _ _ => true
  | .mtfsfi _ _ _ => true
  | .mtfsf _ _ _ => true
  | .mtfsb0 _ _ => true
  | .mtfsb1 _ _ => true
  | .icbi _ _ => true
  | .isync => true
  | .dcbt _ _ => true
  | .dcbtst _ _ => true
  | .dcbz _ _ => true
  | .dcbst _ _ => true
  | .dcbf _ _ => true
  | .eieio => true
  | .mftb _ _ => true
  | .rfi => true
  | .mtmsr _ => true
  | .mfmsr _ => true
  | .mtsr _ _ => true
  | .mtsrin _ _ => true
  | .mfsr _ _ => true
  | .mfsrin _ _ => true
  | .dcbi _ _ => true
  | .slbie _ => true
  | .slbia => true
  | .tlbie _ => true
  | .tlbia => true
  | .tlbsync => true
  | .eciwx _ _ _ => true
  | .ecowx _ _ _ => true

end Sys2Proof
end

