-- ==== Sys2Proof/WellFormed.lean ====
section
/-! DEFINITION. Which instruction terms are valid forms as far as the word alone decides (30_encoding.md R210, R211).
The restrictions that depend on the implementation or on the XER are `Instr.formValidHere`. -/

namespace Sys2Proof

/-- `i` breaks no restriction on its operand fields (30_encoding.md R211 b, c, e, f, g, j). -/
def Instr.wellFormed (i : Instr) : Bool := i.formValid

end Sys2Proof
end

