-- ==== Sys2Proof/Decode.lean ====
section
/-! DEFINITION. From an instruction word to an instruction and back: the opcode map (30_encoding.md R190 to R196), the
field positions (R162 to R180), the reserved bits (R183), the illegal and reserved classes (R201 to R216), then the
encoder, written form by form from the same layouts. Total on every word and on every list of bytes. -/

namespace Sys2Proof

/-- Why a word is no instruction; either way it raises Program(Illegal) (30_encoding.md R205, R215). -/
inductive Rejection where
  /-- the illegal class (R202 to R204) -/
  | illegal
  /-- the reserved class (R215, R216) -/
  | reservedClass
  /-- fewer than four bytes -/
  | short
deriving DecidableEq, Repr

/-- What a word decodes to. -/
inductive Decoded where
  /-- a row of the table, every reserved bit 0 -/
  | instr (i : Instr)
  /-- a row of the table with a reserved bit set: an invalid form of that row (R183, R211 a) -/
  | reservedBits (i : Instr)
  /-- no row of the table -/
  | rejected (r : Rejection)
deriving DecidableEq, Repr

/-- One row of the opcode map: how its operands are read, and which fields must be 0 (first bit, length). -/
structure OpcodeRow where
  build : Word → Instr
  reserved : List (Nat × Nat) := []
  /-- bit 31 is the constant 1 (R167, R182): with 0 there the word matches no row (R211 i) -/
  mark : Bool := false

/-- Primary opcodes with no extended opcode (30_encoding.md R190). -/
def primaryRows : List (Nat × OpcodeRow) :=
  [(2, { build := fun w => .tdi (slice w 6 5) (slice w 11 5) (slice w 16 16) }),
   (3, { build := fun w => .twi (slice w 6 5) (slice w 11 5) (slice w 16 16) }),
   (7, { build := fun w => .mulli (slice w 6 5) (slice w 11 5) (slice w 16 16) }),
   (8, { build := fun w => .subfic (slice w 6 5) (slice w 11 5) (slice w 16 16) }),
   (10, { build := fun w => .cmpli (slice w 6 3) (bit w 10) (slice w 11 5) (slice w 16 16), reserved := [(9, 1)] }),
   (11, { build := fun w => .cmpi (slice w 6 3) (bit w 10) (slice w 11 5) (slice w 16 16), reserved := [(9, 1)] }),
   (12, { build := fun w => .addic (slice w 6 5) (slice w 11 5) (slice w 16 16) }),
   (13, { build := fun w => .addicDot (slice w 6 5) (slice w 11 5) (slice w 16 16) }),
   (14, { build := fun w => .addi (slice w 6 5) (slice w 11 5) (slice w 16 16) }),
   (15, { build := fun w => .addis (slice w 6 5) (slice w 11 5) (slice w 16 16) }),
   (16, { build := fun w => .bc (slice w 6 5) (slice w 11 5) (slice w 16 14) (bit w 30) (bit w 31) }),
   (18, { build := fun w => .b (slice w 6 24) (bit w 30) (bit w 31) }),
   (20, { build := fun w => .rlwimi (slice w 11 5) (slice w 6 5) (slice w 16 5) (slice w 21 5) (slice w 26 5) (bit w 31) }),
   (21, { build := fun w => .rlwinm (slice w 11 5) (slice w 6 5) (slice w 16 5) (slice w 21 5) (slice w 26 5) (bit w 31) }),
   (23, { build := fun w => .rlwnm (slice w 11 5) (slice w 6 5) (slice w 16 5) (slice w 21 5) (slice w 26 5) (bit w 31) }),
   (24, { build := fun w => .ori (slice w 11 5) (slice w 6 5) (slice w 16 16) }),
   (25, { build := fun w => .oris (slice w 11 5) (slice w 6 5) (slice w 16 16) }),
   (26, { build := fun w => .xori (slice w 11 5) (slice w 6 5) (slice w 16 16) }),
   (27, { build := fun w => .xoris (slice w 11 5) (slice w 6 5) (slice w 16 16) }),
   (28, { build := fun w => .andiDot (slice w 11 5) (slice w 6 5) (slice w 16 16) }),
   (29, { build := fun w => .andisDot (slice w 11 5) (slice w 6 5) (slice w 16 16) }),
   (32, { build := fun w => .lwz (slice w 6 5) (slice w 16 16) (slice w 11 5) }),
   (33, { build := fun w => .lwzu (slice w 6 5) (slice w 16 16) (slice w 11 5) }),
   (34, { build := fun w => .lbz (slice w 6 5) (slice w 16 16) (slice w 11 5) })] ++
  [(35, { build := fun w => .lbzu (slice w 6 5) (slice w 16 16) (slice w 11 5) }),
   (36, { build := fun w => .stw (slice w 6 5) (slice w 16 16) (slice w 11 5) }),
   (37, { build := fun w => .stwu (slice w 6 5) (slice w 16 16) (slice w 11 5) }),
   (38, { build := fun w => .stb (slice w 6 5) (slice w 16 16) (slice w 11 5) }),
   (39, { build := fun w => .stbu (slice w 6 5) (slice w 16 16) (slice w 11 5) }),
   (40, { build := fun w => .lhz (slice w 6 5) (slice w 16 16) (slice w 11 5) }),
   (41, { build := fun w => .lhzu (slice w 6 5) (slice w 16 16) (slice w 11 5) }),
   (42, { build := fun w => .lha (slice w 6 5) (slice w 16 16) (slice w 11 5) }),
   (43, { build := fun w => .lhau (slice w 6 5) (slice w 16 16) (slice w 11 5) }),
   (44, { build := fun w => .sth (slice w 6 5) (slice w 16 16) (slice w 11 5) }),
   (45, { build := fun w => .sthu (slice w 6 5) (slice w 16 16) (slice w 11 5) }),
   (46, { build := fun w => .lmw (slice w 6 5) (slice w 16 16) (slice w 11 5) }),
   (47, { build := fun w => .stmw (slice w 6 5) (slice w 16 16) (slice w 11 5) }),
   (48, { build := fun w => .lfs (slice w 6 5) (slice w 16 16) (slice w 11 5) }),
   (49, { build := fun w => .lfsu (slice w 6 5) (slice w 16 16) (slice w 11 5) }),
   (50, { build := fun w => .lfd (slice w 6 5) (slice w 16 16) (slice w 11 5) }),
   (51, { build := fun w => .lfdu (slice w 6 5) (slice w 16 16) (slice w 11 5) }),
   (52, { build := fun w => .stfs (slice w 6 5) (slice w 16 16) (slice w 11 5) }),
   (53, { build := fun w => .stfsu (slice w 6 5) (slice w 16 16) (slice w 11 5) }),
   (54, { build := fun w => .stfd (slice w 6 5) (slice w 16 16) (slice w 11 5) }),
   (55, { build := fun w => .stfdu (slice w 6 5) (slice w 16 16) (slice w 11 5) })]

/-- Primary opcode 19, ten-bit extended opcode (R191). -/
def rows19 : List (Nat × OpcodeRow) :=
  [(0, { build := fun w => .mcrf (slice w 6 3) (slice w 11 3), reserved := [(9, 2), (14, 2), (16, 5), (31, 1)] }),
   (16, { build := fun w => .bclr (slice w 6 5) (slice w 11 5) (bit w 31), reserved := [(16, 5)] }),
   (33, { build := fun w => .crnor (slice w 6 5) (slice w 11 5) (slice w 16 5), reserved := [(31, 1)] }),
   (50, { build := fun _ => .rfi, reserved := [(6, 3), (9, 2), (11, 3), (14, 2), (16, 5), (31, 1)] }),
   (129, { build := fun w => .crandc (slice w 6 5) (slice w 11 5) (slice w 16 5), reserved := [(31, 1)] }),
   (150, { build := fun _ => .isync, reserved := [(6, 3), (9, 2), (11, 3), (14, 2), (16, 5), (31, 1)] }),
   (193, { build := fun w => .crxor (slice w 6 5) (slice w 11 5) (slice w 16 5), reserved := [(31, 1)] }),
   (225, { build := fun w => .crnand (slice w 6 5) (slice w 11 5) (slice w 16 5), reserved := [(31, 1)] }),
   (257, { build := fun w => .crand (slice w 6 5) (slice w 11 5) (slice w 16 5), reserved := [(31, 1)] }),
   (289, { build := fun w => .creqv (slice w 6 5) (slice w 11 5) (slice w 16 5), reserved := [(31, 1)] }),
   (417, { build := fun w => .crorc (slice w 6 5) (slice w 11 5) (slice w 16 5), reserved := [(31, 1)] }),
   (449, { build := fun w => .cror (slice w 6 5) (slice w 11 5) (slice w 16 5), reserved := [(31, 1)] }),
   (528, { build := fun w => .bcctr (slice w 6 5) (slice w 11 5) (bit w 31), reserved := [(16, 5)] })]

/-- Primary opcode 30, bits 27:29 (R192). -/
def rows30MD : List (Nat × OpcodeRow) :=
  [(0, { build := fun w => .rldicl (slice w 11 5) (slice w 6 5) (slice w 30 1 ++ slice w 16 5) (slice w 26 1 ++ slice w 21 5) (bit w 31) }),
   (1, { build := fun w => .rldicr (slice w 11 5) (slice w 6 5) (slice w 30 1 ++ slice w 16 5) (slice w 26 1 ++ slice w 21 5) (bit w 31) }),
   (2, { build := fun w => .rldic (slice w 11 5) (slice w 6 5) (slice w 30 1 ++ slice w 16 5) (slice w 26 1 ++ slice w 21 5) (bit w 31) }),
   (3, { build := fun w => .rldimi (slice w 11 5) (slice w 6 5) (slice w 30 1 ++ slice w 16 5) (slice w 26 1 ++ slice w 21 5) (bit w 31) })]

/-- Primary opcode 30, bits 27:30 (R192). -/
def rows30MDS : List (Nat × OpcodeRow) :=
  [(8, { build := fun w => .rldcl (slice w 11 5) (slice w 6 5) (slice w 16 5) (slice w 26 1 ++ slice w 21 5) (bit w 31) }),
   (9, { build := fun w => .rldcr (slice w 11 5) (slice w 6 5) (slice w 16 5) (slice w 26 1 ++ slice w 21 5) (bit w 31) })]

/-- Primary opcode 31, X-, XFX- and XS-form, by bits 21:30; `sradi` takes two values (R171, R193). -/
def rows31X : List (Nat × OpcodeRow) :=
  [(0, { build := fun w => .cmp (slice w 6 3) (bit w 10) (slice w 11 5) (slice w 16 5), reserved := [(9, 1), (31, 1)] }),
   (4, { build := fun w => .tw (slice w 6 5) (slice w 11 5) (slice w 16 5), reserved := [(31, 1)] }),
   (19, { build := fun w => .mfcr (slice w 6 5), reserved := [(11, 1), (12, 2), (14, 2), (16, 4), (20, 1), (31, 1)] }),
   (20, { build := fun w => .lwarx (slice w 6 5) (slice w 11 5) (slice w 16 5), reserved := [(31, 1)] }),
   (21, { build := fun w => .ldx (slice w 6 5) (slice w 11 5) (slice w 16 5), reserved := [(31, 1)] }),
   (23, { build := fun w => .lwzx (slice w 6 5) (slice w 11 5) (slice w 16 5), reserved := [(31, 1)] }),
   (24, { build := fun w => .slw (slice w 11 5) (slice w 6 5) (slice w 16 5) (bit w 31) }),
   (26, { build := fun w => .cntlzw (slice w 11 5) (slice w 6 5) (bit w 31), reserved := [(16, 4), (20, 1)] }),
   (27, { build := fun w => .sld (slice w 11 5) (slice w 6 5) (slice w 16 5) (bit w 31) }),
   (28, { build := fun w => .and (slice w 11 5) (slice w 6 5) (slice w 16 5) (bit w 31) }),
   (32, { build := fun w => .cmpl (slice w 6 3) (bit w 10) (slice w 11 5) (slice w 16 5), reserved := [(9, 1), (31, 1)] }),
   (53, { build := fun w => .ldux (slice w 6 5) (slice w 11 5) (slice w 16 5), reserved := [(31, 1)] }),
   (54, { build := fun w => .dcbst (slice w 11 5) (slice w 16 5), reserved := [(6, 3), (9, 2), (31, 1)] }),
   (55, { build := fun w => .lwzux (slice w 6 5) (slice w 11 5) (slice w 16 5), reserved := [(31, 1)] }),
   (58, { build := fun w => .cntlzd (slice w 11 5) (slice w 6 5) (bit w 31), reserved := [(16, 4), (20, 1)] }),
   (60, { build := fun w => .andc (slice w 11 5) (slice w 6 5) (slice w 16 5) (bit w 31) }),
   (68, { build := fun w => .td (slice w 6 5) (slice w 11 5) (slice w 16 5), reserved := [(31, 1)] }),
   (83, { build := fun w => .mfmsr (slice w 6 5), reserved := [(11, 1), (12, 2), (14, 2), (16, 4), (20, 1), (31, 1)] }),
   (84, { build := fun w => .ldarx (slice w 6 5) (slice w 11 5) (slice w 16 5), reserved := [(31, 1)] }),
   (86, { build := fun w => .dcbf (slice w 11 5) (slice w 16 5), reserved := [(6, 3), (9, 2), (31, 1)] }),
   (87, { build := fun w => .lbzx (slice w 6 5) (slice w 11 5) (slice w 16 5), reserved := [(31, 1)] }),
   (119, { build := fun w => .lbzux (slice w 6 5) (slice w 11 5) (slice w 16 5), reserved := [(31, 1)] }),
   (124, { build := fun w => .nor (slice w 11 5) (slice w 6 5) (slice w 16 5) (bit w 31) }),
   (144, { build := fun w => .mtcrf (slice w 12 8) (slice w 6 5), reserved := [(11, 1), (20, 1), (31, 1)] })] ++
  [(146, { build := fun w => .mtmsr (slice w 6 5), reserved := [(11, 1), (12, 2), (14, 2), (16, 4), (20, 1), (31, 1)] }),
   (149, { build := fun w => .stdx (slice w 6 5) (slice w 11 5) (slice w 16 5), reserved := [(31, 1)] }),
   (150, { build := fun w => .stwcxDot (slice w 6 5) (slice w 11 5) (slice w 16 5), mark := true }),
   (151, { build := fun w => .stwx (slice w 6 5) (slice w 11 5) (slice w 16 5), reserved := [(31, 1)] }),
   (181, { build := fun w => .stdux (slice w 6 5) (slice w 11 5) (slice w 16 5), reserved := [(31, 1)] }),
   (183, { build := fun w => .stwux (slice w 6 5) (slice w 11 5) (slice w 16 5), reserved := [(31, 1)] }),
   (210, { build := fun w => .mtsr (slice w 12 4) (slice w 6 5), reserved := [(11, 1), (16, 4), (20, 1), (31, 1)] }),
   (214, { build := fun w => .stdcxDot (slice w 6 5) (slice w 11 5) (slice w 16 5), mark := true }),
   (215, { build := fun w => .stbx (slice w 6 5) (slice w 11 5) (slice w 16 5), reserved := [(31, 1)] }),
   (242, { build := fun w => .mtsrin (slice w 6 5) (slice w 16 5), reserved := [(11, 1), (12, 2), (14, 2), (31, 1)] }),
   (246, { build := fun w => .dcbtst (slice w 11 5) (slice w 16 5), reserved := [(6, 3), (9, 2), (31, 1)] }),
   (247, { build := fun w => .stbux (slice w 6 5) (slice w 11 5) (slice w 16 5), reserved := [(31, 1)] }),
   (278, { build := fun w => .dcbt (slice w 11 5) (slice w 16 5), reserved := [(6, 3), (9, 2), (31, 1)] }),
   (279, { build := fun w => .lhzx (slice w 6 5) (slice w 11 5) (slice w 16 5), reserved := [(31, 1)] }),
   (284, { build := fun w => .eqv (slice w 11 5) (slice w 6 5) (slice w 16 5) (bit w 31) }),
   (306, { build := fun w => .tlbie (slice w 16 5), reserved := [(6, 3), (9, 2), (11, 1), (12, 2), (14, 2), (31, 1)] }),
   (310, { build := fun w => .eciwx (slice w 6 5) (slice w 11 5) (slice w 16 5), reserved := [(31, 1)] }),
   (311, { build := fun w => .lhzux (slice w 6 5) (slice w 11 5) (slice w 16 5), reserved := [(31, 1)] }),
   (316, { build := fun w => .xor (slice w 11 5) (slice w 6 5) (slice w 16 5) (bit w 31) }),
   (339, { build := fun w => .mfspr (slice w 6 5) (slice w 16 5 ++ slice w 11 5), reserved := [(31, 1)] }),
   (341, { build := fun w => .lwax (slice w 6 5) (slice w 11 5) (slice w 16 5), reserved := [(31, 1)] }),
   (343, { build := fun w => .lhax (slice w 6 5) (slice w 11 5) (slice w 16 5), reserved := [(31, 1)] }),
   (370, { build := fun _ => .tlbia, reserved := [(6, 3), (9, 2), (11, 1), (12, 2), (14, 2), (16, 4), (20, 1), (31, 1)] }),
   (371, { build := fun w => .mftb (slice w 6 5) (slice w 16 5 ++ slice w 11 5), reserved := [(31, 1)] })] ++
  [(373, { build := fun w => .lwaux (slice w 6 5) (slice w 11 5) (slice w 16 5), reserved := [(31, 1)] }),
   (375, { build := fun w => .lhaux (slice w 6 5) (slice w 11 5) (slice w 16 5), reserved := [(31, 1)] }),
   (407, { build := fun w => .sthx (slice w 6 5) (slice w 11 5) (slice w 16 5), reserved := [(31, 1)] }),
   (412, { build := fun w => .orc (slice w 11 5) (slice w 6 5) (slice w 16 5) (bit w 31) }),
   (434, { build := fun w => .slbie (slice w 16 5), reserved := [(6, 3), (9, 2), (11, 1), (12, 2), (14, 2), (31, 1)] }),
   (438, { build := fun w => .ecowx (slice w 6 5) (slice w 11 5) (slice w 16 5), reserved := [(31, 1)] }),
   (439, { build := fun w => .sthux (slice w 6 5) (slice w 11 5) (slice w 16 5), reserved := [(31, 1)] }),
   (444, { build := fun w => .or (slice w 11 5) (slice w 6 5) (slice w 16 5) (bit w 31) }),
   (467, { build := fun w => .mtspr (slice w 16 5 ++ slice w 11 5) (slice w 6 5), reserved := [(31, 1)] }),
   (470, { build := fun w => .dcbi (slice w 11 5) (slice w 16 5), reserved := [(6, 3), (9, 2), (31, 1)] }),
   (476, { build := fun w => .nand (slice w 11 5) (slice w 6 5) (slice w 16 5) (bit w 31) }),
   (498, { build := fun _ => .slbia, reserved := [(6, 3), (9, 2), (11, 1), (12, 2), (14, 2), (16, 4), (20, 1), (31, 1)] }),
   (512, { build := fun w => .mcrxr (slice w 6 3), reserved := [(9, 2), (11, 1), (12, 2), (14, 2), (16, 4), (20, 1), (31, 1)] }),
   (533, { build := fun w => .lswx (slice w 6 5) (slice w 11 5) (slice w 16 5), reserved := [(31, 1)] }),
   (534, { build := fun w => .lwbrx (slice w 6 5) (slice w 11 5) (slice w 16 5), reserved := [(31, 1)] }),
   (535, { build := fun w => .lfsx (slice w 6 5) (slice w 11 5) (slice w 16 5), reserved := [(31, 1)] }),
   (536, { build := fun w => .srw (slice w 11 5) (slice w 6 5) (slice w 16 5) (bit w 31) }),
   (539, { build := fun w => .srd (slice w 11 5) (slice w 6 5) (slice w 16 5) (bit w 31) }),
   (566, { build := fun _ => .tlbsync, reserved := [(6, 3), (9, 2), (11, 1), (12, 2), (14, 2), (16, 4), (20, 1), (31, 1)] }),
   (567, { build := fun w => .lfsux (slice w 6 5) (slice w 11 5) (slice w 16 5), reserved := [(31, 1)] }),
   (595, { build := fun w => .mfsr (slice w 6 5) (slice w 12 4), reserved := [(11, 1), (16, 4), (20, 1), (31, 1)] }),
   (597, { build := fun w => .lswi (slice w 6 5) (slice w 11 5) (slice w 16 5), reserved := [(31, 1)] }),
   (598, { build := fun _ => .sync, reserved := [(6, 3), (9, 2), (11, 1), (12, 2), (14, 2), (16, 4), (20, 1), (31, 1)] }),
   (599, { build := fun w => .lfdx (slice w 6 5) (slice w 11 5) (slice w 16 5), reserved := [(31, 1)] })] ++
  [(631, { build := fun w => .lfdux (slice w 6 5) (slice w 11 5) (slice w 16 5), reserved := [(31, 1)] }),
   (659, { build := fun w => .mfsrin (slice w 6 5) (slice w 16 5), reserved := [(11, 1), (12, 2), (14, 2), (31, 1)] }),
   (661, { build := fun w => .stswx (slice w 6 5) (slice w 11 5) (slice w 16 5), reserved := [(31, 1)] }),
   (662, { build := fun w => .stwbrx (slice w 6 5) (slice w 11 5) (slice w 16 5), reserved := [(31, 1)] }),
   (663, { build := fun w => .stfsx (slice w 6 5) (slice w 11 5) (slice w 16 5), reserved := [(31, 1)] }),
   (695, { build := fun w => .stfsux (slice w 6 5) (slice w 11 5) (slice w 16 5), reserved := [(31, 1)] }),
   (725, { build := fun w => .stswi (slice w 6 5) (slice w 11 5) (slice w 16 5), reserved := [(31, 1)] }),
   (727, { build := fun w => .stfdx (slice w 6 5) (slice w 11 5) (slice w 16 5), reserved := [(31, 1)] }),
   (759, { build := fun w => .stfdux (slice w 6 5) (slice w 11 5) (slice w 16 5), reserved := [(31, 1)] }),
   (790, { build := fun w => .lhbrx (slice w 6 5) (slice w 11 5) (slice w 16 5), reserved := [(31, 1)] }),
   (792, { build := fun w => .sraw (slice w 11 5) (slice w 6 5) (slice w 16 5) (bit w 31) }),
   (794, { build := fun w => .srad (slice w 11 5) (slice w 6 5) (slice w 16 5) (bit w 31) }),
   (824, { build := fun w => .srawi (slice w 11 5) (slice w 6 5) (slice w 16 5) (bit w 31) }),
   (826, { build := fun w => .sradi (slice w 11 5) (slice w 6 5) (slice w 30 1 ++ slice w 16 5) (bit w 31) }),
   (827, { build := fun w => .sradi (slice w 11 5) (slice w 6 5) (slice w 30 1 ++ slice w 16 5) (bit w 31) }),
   (854, { build := fun _ => .eieio, reserved := [(6, 3), (9, 2), (11, 1), (12, 2), (14, 2), (16, 4), (20, 1), (31, 1)] }),
   (918, { build := fun w => .sthbrx (slice w 6 5) (slice w 11 5) (slice w 16 5), reserved := [(31, 1)] }),
   (922, { build := fun w => .extsh (slice w 11 5) (slice w 6 5) (bit w 31), reserved := [(16, 4), (20, 1)] }),
   (954, { build := fun w => .extsb (slice w 11 5) (slice w 6 5) (bit w 31), reserved := [(16, 4), (20, 1)] }),
   (982, { build := fun w => .icbi (slice w 11 5) (slice w 16 5), reserved := [(6, 3), (9, 2), (31, 1)] }),
   (983, { build := fun w => .stfiwx (slice w 6 5) (slice w 11 5) (slice w 16 5), reserved := [(31, 1)] }),
   (986, { build := fun w => .extsw (slice w 11 5) (slice w 6 5) (bit w 31), reserved := [(16, 4), (20, 1)] }),
   (1014, { build := fun w => .dcbz (slice w 11 5) (slice w 16 5), reserved := [(6, 3), (9, 2), (31, 1)] })]

/-- Primary opcode 31, XO-form, by bits 22:30 (R173, R193). -/
def rows31XO : List (Nat × OpcodeRow) :=
  [(8, { build := fun w => .subfc (slice w 6 5) (slice w 11 5) (slice w 16 5) (bit w 21) (bit w 31) }),
   (9, { build := fun w => .mulhdu (slice w 6 5) (slice w 11 5) (slice w 16 5) (bit w 31), reserved := [(21, 1)] }),
   (10, { build := fun w => .addc (slice w 6 5) (slice w 11 5) (slice w 16 5) (bit w 21) (bit w 31) }),
   (11, { build := fun w => .mulhwu (slice w 6 5) (slice w 11 5) (slice w 16 5) (bit w 31), reserved := [(21, 1)] }),
   (40, { build := fun w => .subf (slice w 6 5) (slice w 11 5) (slice w 16 5) (bit w 21) (bit w 31) }),
   (73, { build := fun w => .mulhd (slice w 6 5) (slice w 11 5) (slice w 16 5) (bit w 31), reserved := [(21, 1)] }),
   (75, { build := fun w => .mulhw (slice w 6 5) (slice w 11 5) (slice w 16 5) (bit w 31), reserved := [(21, 1)] }),
   (104, { build := fun w => .neg (slice w 6 5) (slice w 11 5) (bit w 21) (bit w 31), reserved := [(16, 5)] }),
   (136, { build := fun w => .subfe (slice w 6 5) (slice w 11 5) (slice w 16 5) (bit w 21) (bit w 31) }),
   (138, { build := fun w => .adde (slice w 6 5) (slice w 11 5) (slice w 16 5) (bit w 21) (bit w 31) }),
   (200, { build := fun w => .subfze (slice w 6 5) (slice w 11 5) (bit w 21) (bit w 31), reserved := [(16, 5)] }),
   (202, { build := fun w => .addze (slice w 6 5) (slice w 11 5) (bit w 21) (bit w 31), reserved := [(16, 5)] }),
   (232, { build := fun w => .subfme (slice w 6 5) (slice w 11 5) (bit w 21) (bit w 31), reserved := [(16, 5)] }),
   (233, { build := fun w => .mulld (slice w 6 5) (slice w 11 5) (slice w 16 5) (bit w 21) (bit w 31) }),
   (234, { build := fun w => .addme (slice w 6 5) (slice w 11 5) (bit w 21) (bit w 31), reserved := [(16, 5)] }),
   (235, { build := fun w => .mullw (slice w 6 5) (slice w 11 5) (slice w 16 5) (bit w 21) (bit w 31) }),
   (266, { build := fun w => .add (slice w 6 5) (slice w 11 5) (slice w 16 5) (bit w 21) (bit w 31) }),
   (457, { build := fun w => .divdu (slice w 6 5) (slice w 11 5) (slice w 16 5) (bit w 21) (bit w 31) }),
   (459, { build := fun w => .divwu (slice w 6 5) (slice w 11 5) (slice w 16 5) (bit w 21) (bit w 31) }),
   (489, { build := fun w => .divd (slice w 6 5) (slice w 11 5) (slice w 16 5) (bit w 21) (bit w 31) }),
   (491, { build := fun w => .divw (slice w 6 5) (slice w 11 5) (slice w 16 5) (bit w 21) (bit w 31) })]

/-- Primary opcode 58, bits 30:31 (R190). -/
def rows58 : List (Nat × OpcodeRow) :=
  [(2, { build := fun w => .lwa (slice w 6 5) (slice w 16 14) (slice w 11 5) }),
   (0, { build := fun w => .ld (slice w 6 5) (slice w 16 14) (slice w 11 5) }),
   (1, { build := fun w => .ldu (slice w 6 5) (slice w 16 14) (slice w 11 5) })]

/-- Primary opcode 62, bits 30:31 (R190). -/
def rows62 : List (Nat × OpcodeRow) :=
  [(0, { build := fun w => .std (slice w 6 5) (slice w 16 14) (slice w 11 5) }),
   (1, { build := fun w => .stdu (slice w 6 5) (slice w 16 14) (slice w 11 5) })]

/-- Primary opcode 59, A-form, bits 26:30 (R195). -/
def rows59 : List (Nat × OpcodeRow) :=
  [(18, { build := fun w => .fdivs (slice w 6 5) (slice w 11 5) (slice w 16 5) (bit w 31), reserved := [(21, 5)] }),
   (20, { build := fun w => .fsubs (slice w 6 5) (slice w 11 5) (slice w 16 5) (bit w 31), reserved := [(21, 5)] }),
   (21, { build := fun w => .fadds (slice w 6 5) (slice w 11 5) (slice w 16 5) (bit w 31), reserved := [(21, 5)] }),
   (22, { build := fun w => .fsqrts (slice w 6 5) (slice w 16 5) (bit w 31), reserved := [(11, 5), (21, 5)] }),
   (24, { build := fun w => .fres (slice w 6 5) (slice w 16 5) (bit w 31), reserved := [(11, 5), (21, 5)] }),
   (25, { build := fun w => .fmuls (slice w 6 5) (slice w 11 5) (slice w 21 5) (bit w 31), reserved := [(16, 5)] }),
   (28, { build := fun w => .fmsubs (slice w 6 5) (slice w 11 5) (slice w 21 5) (slice w 16 5) (bit w 31) }),
   (29, { build := fun w => .fmadds (slice w 6 5) (slice w 11 5) (slice w 21 5) (slice w 16 5) (bit w 31) }),
   (30, { build := fun w => .fnmsubs (slice w 6 5) (slice w 11 5) (slice w 21 5) (slice w 16 5) (bit w 31) }),
   (31, { build := fun w => .fnmadds (slice w 6 5) (slice w 11 5) (slice w 21 5) (slice w 16 5) (bit w 31) })]

/-- Primary opcode 63, A-form, bits 26:30 (R196). -/
def rows63A : List (Nat × OpcodeRow) :=
  [(18, { build := fun w => .fdiv (slice w 6 5) (slice w 11 5) (slice w 16 5) (bit w 31), reserved := [(21, 5)] }),
   (20, { build := fun w => .fsub (slice w 6 5) (slice w 11 5) (slice w 16 5) (bit w 31), reserved := [(21, 5)] }),
   (21, { build := fun w => .fadd (slice w 6 5) (slice w 11 5) (slice w 16 5) (bit w 31), reserved := [(21, 5)] }),
   (22, { build := fun w => .fsqrt (slice w 6 5) (slice w 16 5) (bit w 31), reserved := [(11, 5), (21, 5)] }),
   (23, { build := fun w => .fsel (slice w 6 5) (slice w 11 5) (slice w 21 5) (slice w 16 5) (bit w 31) }),
   (25, { build := fun w => .fmul (slice w 6 5) (slice w 11 5) (slice w 21 5) (bit w 31), reserved := [(16, 5)] }),
   (26, { build := fun w => .frsqrte (slice w 6 5) (slice w 16 5) (bit w 31), reserved := [(11, 5), (21, 5)] }),
   (28, { build := fun w => .fmsub (slice w 6 5) (slice w 11 5) (slice w 21 5) (slice w 16 5) (bit w 31) }),
   (29, { build := fun w => .fmadd (slice w 6 5) (slice w 11 5) (slice w 21 5) (slice w 16 5) (bit w 31) }),
   (30, { build := fun w => .fnmsub (slice w 6 5) (slice w 11 5) (slice w 21 5) (slice w 16 5) (bit w 31) }),
   (31, { build := fun w => .fnmadd (slice w 6 5) (slice w 11 5) (slice w 21 5) (slice w 16 5) (bit w 31) })]

/-- Primary opcode 63, X- and XFL-form, bits 21:30 (R196). -/
def rows63X : List (Nat × OpcodeRow) :=
  [(0, { build := fun w => .fcmpu (slice w 6 3) (slice w 11 5) (slice w 16 5), reserved := [(9, 2), (31, 1)] }),
   (12, { build := fun w => .frsp (slice w 6 5) (slice w 16 5) (bit w 31), reserved := [(11, 1), (12, 2), (14, 2)] }),
   (14, { build := fun w => .fctiw (slice w 6 5) (slice w 16 5) (bit w 31), reserved := [(11, 1), (12, 2), (14, 2)] }),
   (15, { build := fun w => .fctiwz (slice w 6 5) (slice w 16 5) (bit w 31), reserved := [(11, 1), (12, 2), (14, 2)] }),
   (32, { build := fun w => .fcmpo (slice w 6 3) (slice w 11 5) (slice w 16 5), reserved := [(9, 2), (31, 1)] }),
   (38, { build := fun w => .mtfsb1 (slice w 6 5) (bit w 31), reserved := [(11, 1), (12, 2), (14, 2), (16, 4), (20, 1)] }),
   (40, { build := fun w => .fneg (slice w 6 5) (slice w 16 5) (bit w 31), reserved := [(11, 1), (12, 2), (14, 2)] }),
   (64, { build := fun w => .mcrfs (slice w 6 3) (slice w 11 3), reserved := [(9, 2), (14, 2), (16, 4), (20, 1), (31, 1)] }),
   (70, { build := fun w => .mtfsb0 (slice w 6 5) (bit w 31), reserved := [(11, 1), (12, 2), (14, 2), (16, 4), (20, 1)] }),
   (72, { build := fun w => .fmr (slice w 6 5) (slice w 16 5) (bit w 31), reserved := [(11, 1), (12, 2), (14, 2)] }),
   (134, { build := fun w => .mtfsfi (slice w 6 3) (slice w 16 4) (bit w 31), reserved := [(9, 2), (11, 1), (12, 2), (14, 2), (20, 1)] }),
   (136, { build := fun w => .fnabs (slice w 6 5) (slice w 16 5) (bit w 31), reserved := [(11, 1), (12, 2), (14, 2)] }),
   (264, { build := fun w => .fabs (slice w 6 5) (slice w 16 5) (bit w 31), reserved := [(11, 1), (12, 2), (14, 2)] }),
   (583, { build := fun w => .mffs (slice w 6 5) (bit w 31), reserved := [(11, 1), (12, 2), (14, 2), (16, 4), (20, 1)] }),
   (711, { build := fun w => .mtfsf (slice w 7 8) (slice w 16 5) (bit w 31), reserved := [(6, 1), (15, 1)] }),
   (814, { build := fun w => .fctid (slice w 6 5) (slice w 16 5) (bit w 31), reserved := [(11, 1), (12, 2), (14, 2)] }),
   (815, { build := fun w => .fctidz (slice w 6 5) (slice w 16 5) (bit w 31), reserved := [(11, 1), (12, 2), (14, 2)] }),
   (846, { build := fun w => .fcfid (slice w 6 5) (slice w 16 5) (bit w 31), reserved := [(11, 1), (12, 2), (14, 2)] })]

/-- The row of `sc` (R164). -/
def rowSc : OpcodeRow := { build := fun _ => .sc, reserved := [(6, 24), (31, 1)] }

/-- Extended opcodes of primary opcode 31 that Power used and PowerPC put in the reserved class (R216). The source does
not say whether its numbers are the 10-bit or the 9-bit (XO-form) ones; here they are the 10-bit ones, so the twin of an
XO-form opcode with `OE = 1` is of the illegal class (DESIGN CHOICE, safe: both classes take Program(Illegal); log 39). -/
def powerXo31 : List Nat :=
  [360, 531, 118, 502, 630, 331, 363, 264, 277, 29, 541, 627, 107, 488, 818, 537, 153, 217, 184, 248, 216, 152, 952,
   920, 665, 921, 729, 636, 696, 760, 728, 664]

/-- A number read from a slice of the word. -/
def key (w : Word) (i n : Nat) : Nat := (slice w i n).toNat

/-- The row a word falls in, by primary then extended opcode (30_encoding.md R190 to R196). -/
def findRow (w : Word) : Option OpcodeRow :=
  match key w 0 6 with
  | 17 => if bit w 30 then some rowSc else none
  | 19 => rows19.lookup (key w 21 10)
  | 30 =>
    match rows30MD.lookup (key w 27 3) with
    | some r => some r
    | none => rows30MDS.lookup (key w 27 4)
  | 31 =>
    match rows31X.lookup (key w 21 10) with
    | some r => if r.mark && !bit w 31 then none else some r
    | none => rows31XO.lookup (key w 22 9)
  | 58 => rows58.lookup (key w 30 2)
  | 59 => rows59.lookup (key w 26 5)
  | 62 => rows62.lookup (key w 30 2)
  | 63 =>
    match rows63A.lookup (key w 26 5) with
    | some r => some r
    | none => rows63X.lookup (key w 21 10)
  | op => primaryRows.lookup op

/-- The class of a word that matches no row (30_encoding.md R202 to R204, R215, R216). -/
def rejection (w : Word) : Rejection :=
  match key w 0 6 with
  | 0 => if w = 0 then .illegal else .reservedClass
  | 9 => .reservedClass
  | 17 => .reservedClass
  | 22 => .reservedClass
  | 31 => if powerXo31.contains (key w 21 10) then .reservedClass else .illegal
  | _ => .illegal

/-- Decode of one word: steps (1), (2) and the reserved-bit part of step (7) of 30_encoding.md R200. -/
def decode (w : Word) : Decoded :=
  match findRow w with
  | some r => if r.reserved.all (fieldClear w) then .instr (r.build w) else .reservedBits (r.build w)
  | none => .rejected (rejection w)

/-- The word whose four bytes in storage order are given: `b0` holds bits 0:7 (20_memory.md R102). -/
def wordOfBytes (b0 b1 b2 b3 : Byte) : Word := b0 ++ b1 ++ b2 ++ b3

/-- The four bytes of a word, in storage order. -/
def bytesOfWord (w : Word) : List Byte := [slice w 0 8, slice w 8 8, slice w 16 8, slice w 24 8]

/-- Decode from bytes: an instruction is the first four (30_encoding.md R160). -/
def decodeBytes : List Byte → Decoded
  | b0 :: b1 :: b2 :: b3 :: _ => decode (wordOfBytes b0 b1 b2 b3)
  | _ => .rejected .short

/-- The instruction the decoder reads from a word numbered as spec/opcode_table.json numbers it: the word is laid out
in storage and the bytes are decoded. Every instruction has 32 bits, so `nbits` is 32 for every row. -/
def decodeTableWord (_nbits w : Nat) : Option Instr :=
  match decodeBytes (bytesOfWord (BitVec.ofNat 32 w)) with
  | .instr i => some i
  | .reservedBits _ => none
  | .rejected _ => none

/-- I-form (R162). -/
def encI (op : BitVec 6) (li : BitVec 24) (aa lk : Bool) : Word := op ++ li ++ b1 aa ++ b1 lk
/-- B-form (R163). -/
def encB (op : BitVec 6) (bo bi : BitVec 5) (bd : BitVec 14) (aa lk : Bool) : Word := op ++ bo ++ bi ++ bd ++ b1 aa ++ b1 lk
/-- D-form (R165). -/
def encD (op : BitVec 6) (f1 f2 : BitVec 5) (d : BitVec 16) : Word := op ++ f1 ++ f2 ++ d
/-- DS-form (R166). -/
def encDS (op : BitVec 6) (f1 f2 : BitVec 5) (ds : BitVec 14) (xo : BitVec 2) : Word := op ++ f1 ++ f2 ++ ds ++ xo
/-- X-form, XL-form and XFX-form: three five-bit fields, a ten-bit extended opcode, bit 31 (R167 to R169). -/
def encX (op : BitVec 6) (f1 f2 f3 : BitVec 5) (xo : BitVec 10) (last : Bool) : Word :=
  op ++ f1 ++ f2 ++ f3 ++ xo ++ b1 last
/-- XFX-form with an SPR or TBR number, whose halves are exchanged in the word (R169, R176). -/
def encSpr (f1 : BitVec 5) (n : SprNum) (xo : BitVec 10) : Word :=
  encX 31#6 f1 (slice n 5 5) (slice n 0 5) xo false
/-- XFX-form of `mtcrf` (R169). -/
def encMtcrf (rs : BitVec 5) (fxm : BitVec 8) : Word := 31#6 ++ rs ++ 0#1 ++ fxm ++ 0#1 ++ 144#10 ++ 0#1
/-- XFL-form (R170). -/
def encXFL (flm : BitVec 8) (frb : BitVec 5) (rc : Bool) : Word := 63#6 ++ 0#1 ++ flm ++ 0#1 ++ frb ++ 711#10 ++ b1 rc
/-- XS-form (R171, R180). -/
def encXS (rs ra : BitVec 5) (sh : BitVec 6) (rc : Bool) : Word :=
  31#6 ++ rs ++ ra ++ slice sh 1 5 ++ 413#9 ++ slice sh 0 1 ++ b1 rc
/-- XO-form (R173). -/
def encXO (rt ra rb : BitVec 5) (oe : Bool) (xo : BitVec 9) (rc : Bool) : Word :=
  31#6 ++ rt ++ ra ++ rb ++ b1 oe ++ xo ++ b1 rc
/-- A-form (R174): fields in the order of the word. -/
def encA (op : BitVec 6) (frt fra frb frc : BitVec 5) (xo : BitVec 5) (rc : Bool) : Word :=
  op ++ frt ++ fra ++ frb ++ frc ++ xo ++ b1 rc
/-- M-form (R175). -/
def encM (op : BitVec 6) (rs ra f3 mb me : BitVec 5) (rc : Bool) : Word := op ++ rs ++ ra ++ f3 ++ mb ++ me ++ b1 rc
/-- MD-form (R177, R180). -/
def encMD (rs ra : BitVec 5) (sh m : BitVec 6) (xo : BitVec 3) (rc : Bool) : Word :=
  30#6 ++ rs ++ ra ++ slice sh 1 5 ++ slice m 1 5 ++ slice m 0 1 ++ xo ++ slice sh 0 1 ++ b1 rc
/-- MDS-form (R178, R180). -/
def encMDS (rs ra rb : BitVec 5) (m : BitVec 6) (xo : BitVec 4) (rc : Bool) : Word :=
  30#6 ++ rs ++ ra ++ rb ++ slice m 1 5 ++ slice m 0 1 ++ xo ++ b1 rc

/-- A field that starts with a three-bit CR field number (R167, R168). -/
def fieldBf (bf : CrField) : BitVec 5 := bf ++ 0#2
/-- The first field of a fixed-point compare: `BF`, a reserved bit, `L` (R165, R187). -/
def fieldBfL (bf : CrField) (l : Bool) : BitVec 5 := bf ++ 0#1 ++ b1 l

/-- The word of an instruction. -/
def encode : Instr → Word
  | .b li aa lk => encI 18#6 li aa lk
  | .bc bo bi bd aa lk => encB 16#6 bo bi bd aa lk
  | .bclr bo bi lk => encX 19#6 bo bi 0 16#10 lk
  | .bcctr bo bi lk => encX 19#6 bo bi 0 528#10 lk
  | .sc => 0x44000002#32
  | .crand bt ba bb => encX 19#6 bt ba bb 257#10 false
  | .cror bt ba bb => encX 19#6 bt ba bb 449#10 false
  | .crxor bt ba bb => encX 19#6 bt ba bb 193#10 false
  | .crnand bt ba bb => encX 19#6 bt ba bb 225#10 false
  | .crnor bt ba bb => encX 19#6 bt ba bb 33#10 false
  | .creqv bt ba bb => encX 19#6 bt ba bb 289#10 false
  | .crandc bt ba bb => encX 19#6 bt ba bb 129#10 false
  | .crorc bt ba bb => encX 19#6 bt ba bb 417#10 false
  | .mcrf bf bfa => encX 19#6 (fieldBf bf) (fieldBf bfa) 0 0#10 false
  | .lbz rt d ra => encD 34#6 rt ra d
  | .lbzu rt d ra => encD 35#6 rt ra d
  | .lbzx rt ra rb => encX 31#6 rt ra rb 87#10 false
  | .lbzux rt ra rb => encX 31#6 rt ra rb 119#10 false
  | .lhz rt d ra => encD 40#6 rt ra d
  | .lhzu rt d ra => encD 41#6 rt ra d
  | .lhzx rt ra rb => encX 31#6 rt ra rb 279#10 false
  | .lhzux rt ra rb => encX 31#6 rt ra rb 311#10 false
  | .lha rt d ra => encD 42#6 rt ra d
  | .lhau rt d ra => encD 43#6 rt ra d
  | .lhax rt ra rb => encX 31#6 rt ra rb 343#10 false
  | .lhaux rt ra rb => encX 31#6 rt ra rb 375#10 false
  | .lwz rt d ra => encD 32#6 rt ra d
  | .lwzu rt d ra => encD 33#6 rt ra d
  | .lwzx rt ra rb => encX 31#6 rt ra rb 23#10 false
  | .lwzux rt ra rb => encX 31#6 rt ra rb 55#10 false
  | .lwa rt ds ra => encDS 58#6 rt ra ds 2#2
  | .lwax rt ra rb => encX 31#6 rt ra rb 341#10 false
  | .lwaux rt ra rb => encX 31#6 rt ra rb 373#10 false
  | .ld rt ds ra => encDS 58#6 rt ra ds 0#2
  | .ldu rt ds ra => encDS 58#6 rt ra ds 1#2
  | .ldx rt ra rb => encX 31#6 rt ra rb 21#10 false
  | .ldux rt ra rb => encX 31#6 rt ra rb 53#10 false
  | .stb rs d ra => encD 38#6 rs ra d
  | .stbu rs d ra => encD 39#6 rs ra d
  | .stbx rs ra rb => encX 31#6 rs ra rb 215#10 false
  | .stbux rs ra rb => encX 31#6 rs ra rb 247#10 false
  | .sth rs d ra => encD 44#6 rs ra d
  | .sthu rs d ra => encD 45#6 rs ra d
  | .sthx rs ra rb => encX 31#6 rs ra rb 407#10 false
  | .sthux rs ra rb => encX 31#6 rs ra rb 439#10 false
  | .stw rs d ra => encD 36#6 rs ra d
  | .stwu rs d ra => encD 37#6 rs ra d
  | .stwx rs ra rb => encX 31#6 rs ra rb 151#10 false
  | .stwux rs ra rb => encX 31#6 rs ra rb 183#10 false
  | .std rs ds ra => encDS 62#6 rs ra ds 0#2
  | .stdu rs ds ra => encDS 62#6 rs ra ds 1#2
  | .stdx rs ra rb => encX 31#6 rs ra rb 149#10 false
  | .stdux rs ra rb => encX 31#6 rs ra rb 181#10 false
  | .lhbrx rt ra rb => encX 31#6 rt ra rb 790#10 false
  | .lwbrx rt ra rb => encX 31#6 rt ra rb 534#10 false
  | .sthbrx rs ra rb => encX 31#6 rs ra rb 918#10 false
  | .stwbrx rs ra rb => encX 31#6 rs ra rb 662#10 false
  | .lmw rt d ra => encD 46#6 rt ra d
  | .stmw rs d ra => encD 47#6 rs ra d
  | .lswi rt ra nb => encX 31#6 rt ra nb 597#10 false
  | .lswx rt ra rb => encX 31#6 rt ra rb 533#10 false
  | .stswi rs ra nb => encX 31#6 rs ra nb 725#10 false
  | .stswx rs ra rb => encX 31#6 rs ra rb 661#10 false
  | .lwarx rt ra rb => encX 31#6 rt ra rb 20#10 false
  | .ldarx rt ra rb => encX 31#6 rt ra rb 84#10 false
  | .stwcxDot rs ra rb => encX 31#6 rs ra rb 150#10 true
  | .stdcxDot rs ra rb => encX 31#6 rs ra rb 214#10 true
  | .sync => encX 31#6 0 0 0 598#10 false
  | .addi rt ra si => encD 14#6 rt ra si
  | .addis rt ra si => encD 15#6 rt ra si
  | .add rt ra rb oe rc => encXO rt ra rb oe 266#9 rc
  | .subf rt ra rb oe rc => encXO rt ra rb oe 40#9 rc
  | .addic rt ra si => encD 12#6 rt ra si
  | .addicDot rt ra si => encD 13#6 rt ra si
  | .subfic rt ra si => encD 8#6 rt ra si
  | .addc rt ra rb oe rc => encXO rt ra rb oe 10#9 rc
  | .subfc rt ra rb oe rc => encXO rt ra rb oe 8#9 rc
  | .adde rt ra rb oe rc => encXO rt ra rb oe 138#9 rc
  | .subfe rt ra rb oe rc => encXO rt ra rb oe 136#9 rc
  | .addme rt ra oe rc => encXO rt ra 0 oe 234#9 rc
  | .subfme rt ra oe rc => encXO rt ra 0 oe 232#9 rc
  | .addze rt ra oe rc => encXO rt ra 0 oe 202#9 rc
  | .subfze rt ra oe rc => encXO rt ra 0 oe 200#9 rc
  | .neg rt ra oe rc => encXO rt ra 0 oe 104#9 rc
  | .mulli rt ra si => encD 7#6 rt ra si
  | .mulld rt ra rb oe rc => encXO rt ra rb oe 233#9 rc
  | .mullw rt ra rb oe rc => encXO rt ra rb oe 235#9 rc
  | .mulhd rt ra rb rc => encXO rt ra rb false 73#9 rc
  | .mulhw rt ra rb rc => encXO rt ra rb false 75#9 rc
  | .mulhdu rt ra rb rc => encXO rt ra rb false 9#9 rc
  | .mulhwu rt ra rb rc => encXO rt ra rb false 11#9 rc
  | .divd rt ra rb oe rc => encXO rt ra rb oe 489#9 rc
  | .divw rt ra rb oe rc => encXO rt ra rb oe 491#9 rc
  | .divdu rt ra rb oe rc => encXO rt ra rb oe 457#9 rc
  | .divwu rt ra rb oe rc => encXO rt ra rb oe 459#9 rc
  | .cmpi bf l ra si => encD 11#6 (fieldBfL bf l) ra si
  | .cmp bf l ra rb => encX 31#6 (fieldBfL bf l) ra rb 0#10 false
  | .cmpli bf l ra ui => encD 10#6 (fieldBfL bf l) ra ui
  | .cmpl bf l ra rb => encX 31#6 (fieldBfL bf l) ra rb 32#10 false
  | .tdi cond ra si => encD 2#6 cond ra si
  | .twi cond ra si => encD 3#6 cond ra si
  | .td cond ra rb => encX 31#6 cond ra rb 68#10 false
  | .tw cond ra rb => encX 31#6 cond ra rb 4#10 false
  | .andiDot ra rs ui => encD 28#6 rs ra ui
  | .andisDot ra rs ui => encD 29#6 rs ra ui
  | .ori ra rs ui => encD 24#6 rs ra ui
  | .oris ra rs ui => encD 25#6 rs ra ui
  | .xori ra rs ui => encD 26#6 rs ra ui
  | .xoris ra rs ui => encD 27#6 rs ra ui
  | .and ra rs rb rc => encX 31#6 rs ra rb 28#10 rc
  | .or ra rs rb rc => encX 31#6 rs ra rb 444#10 rc
  | .xor ra rs rb rc => encX 31#6 rs ra rb 316#10 rc
  | .nand ra rs rb rc => encX 31#6 rs ra rb 476#10 rc
  | .nor ra rs rb rc => encX 31#6 rs ra rb 124#10 rc
  | .eqv ra rs rb rc => encX 31#6 rs ra rb 284#10 rc
  | .andc ra rs rb rc => encX 31#6 rs ra rb 60#10 rc
  | .orc ra rs rb rc => encX 31#6 rs ra rb 412#10 rc
  | .extsb ra rs rc => encX 31#6 rs ra 0 954#10 rc
  | .extsh ra rs rc => encX 31#6 rs ra 0 922#10 rc
  | .extsw ra rs rc => encX 31#6 rs ra 0 986#10 rc
  | .cntlzd ra rs rc => encX 31#6 rs ra 0 58#10 rc
  | .cntlzw ra rs rc => encX 31#6 rs ra 0 26#10 rc
  | .rldicl ra rs sh mb rc => encMD rs ra sh mb 0#3 rc
  | .rldicr ra rs sh me rc => encMD rs ra sh me 1#3 rc
  | .rldic ra rs sh mb rc => encMD rs ra sh mb 2#3 rc
  | .rlwinm ra rs sh mb me rc => encM 21#6 rs ra sh mb me rc
  | .rldcl ra rs rb mb rc => encMDS rs ra rb mb 8#4 rc
  | .rldcr ra rs rb me rc => encMDS rs ra rb me 9#4 rc
  | .rlwnm ra rs rb mb me rc => encM 23#6 rs ra rb mb me rc
  | .rldimi ra rs sh mb rc => encMD rs ra sh mb 3#3 rc
  | .rlwimi ra rs sh mb me rc => encM 20#6 rs ra sh mb me rc
  | .sld ra rs rb rc => encX 31#6 rs ra rb 27#10 rc
  | .slw ra rs rb rc => encX 31#6 rs ra rb 24#10 rc
  | .srd ra rs rb rc => encX 31#6 rs ra rb 539#10 rc
  | .srw ra rs rb rc => encX 31#6 rs ra rb 536#10 rc
  | .sradi ra rs sh rc => encXS rs ra sh rc
  | .srawi ra rs sh rc => encX 31#6 rs ra sh 824#10 rc
  | .srad ra rs rb rc => encX 31#6 rs ra rb 794#10 rc
  | .sraw ra rs rb rc => encX 31#6 rs ra rb 792#10 rc
  | .mtspr spr rs => encSpr rs spr 467#10
  | .mfspr rt spr => encSpr rt spr 339#10
  | .mtcrf fxm rs => encMtcrf rs fxm
  | .mcrxr bf => encX 31#6 (fieldBf bf) 0 0 512#10 false
  | .mfcr rt => encX 31#6 rt 0 0 19#10 false
  | .lfs frt d ra => encD 48#6 frt ra d
  | .lfsx frt ra rb => encX 31#6 frt ra rb 535#10 false
  | .lfsu frt d ra => encD 49#6 frt ra d
  | .lfsux frt ra rb => encX 31#6 frt ra rb 567#10 false
  | .lfd frt d ra => encD 50#6 frt ra d
  | .lfdx frt ra rb => encX 31#6 frt ra rb 599#10 false
  | .lfdu frt d ra => encD 51#6 frt ra d
  | .lfdux frt ra rb => encX 31#6 frt ra rb 631#10 false
  | .stfs frs d ra => encD 52#6 frs ra d
  | .stfsx frs ra rb => encX 31#6 frs ra rb 663#10 false
  | .stfsu frs d ra => encD 53#6 frs ra d
  | .stfsux frs ra rb => encX 31#6 frs ra rb 695#10 false
  | .stfd frs d ra => encD 54#6 frs ra d
  | .stfdx frs ra rb => encX 31#6 frs ra rb 727#10 false
  | .stfdu frs d ra => encD 55#6 frs ra d
  | .stfdux frs ra rb => encX 31#6 frs ra rb 759#10 false
  | .stfiwx frs ra rb => encX 31#6 frs ra rb 983#10 false
  | .fmr frt frb rc => encX 63#6 frt 0 frb 72#10 rc
  | .fneg frt frb rc => encX 63#6 frt 0 frb 40#10 rc
  | .fabs frt frb rc => encX 63#6 frt 0 frb 264#10 rc
  | .fnabs frt frb rc => encX 63#6 frt 0 frb 136#10 rc
  | .fadd frt fra frb rc => encA 63#6 frt fra frb 0 21#5 rc
  | .fadds frt fra frb rc => encA 59#6 frt fra frb 0 21#5 rc
  | .fsub frt fra frb rc => encA 63#6 frt fra frb 0 20#5 rc
  | .fsubs frt fra frb rc => encA 59#6 frt fra frb 0 20#5 rc
  | .fmul frt fra frc rc => encA 63#6 frt fra 0 frc 25#5 rc
  | .fmuls frt fra frc rc => encA 59#6 frt fra 0 frc 25#5 rc
  | .fdiv frt fra frb rc => encA 63#6 frt fra frb 0 18#5 rc
  | .fdivs frt fra frb rc => encA 59#6 frt fra frb 0 18#5 rc
  | .fmadd frt fra frc frb rc => encA 63#6 frt fra frb frc 29#5 rc
  | .fmadds frt fra frc frb rc => encA 59#6 frt fra frb frc 29#5 rc
  | .fmsub frt fra frc frb rc => encA 63#6 frt fra frb frc 28#5 rc
  | .fmsubs frt fra frc frb rc => encA 59#6 frt fra frb frc 28#5 rc
  | .fnmadd frt fra frc frb rc => encA 63#6 frt fra frb frc 31#5 rc
  | .fnmadds frt fra frc frb rc => encA 59#6 frt fra frb frc 31#5 rc
  | .fnmsub frt fra frc frb rc => encA 63#6 frt fra frb frc 30#5 rc
  | .fnmsubs frt fra frc frb rc => encA 59#6 frt fra frb frc 30#5 rc
  | .fsqrt frt frb rc => encA 63#6 frt 0 frb 0 22#5 rc
  | .fsqrts frt frb rc => encA 59#6 frt 0 frb 0 22#5 rc
  | .fres frt frb rc => encA 59#6 frt 0 frb 0 24#5 rc
  | .frsqrte frt frb rc => encA 63#6 frt 0 frb 0 26#5 rc
  | .fsel frt fra frc frb rc => encA 63#6 frt fra frb frc 23#5 rc
  | .frsp frt frb rc => encX 63#6 frt 0 frb 12#10 rc
  | .fctid frt frb rc => encX 63#6 frt 0 frb 814#10 rc
  | .fctidz frt frb rc => encX 63#6 frt 0 frb 815#10 rc
  | .fctiw frt frb rc => encX 63#6 frt 0 frb 14#10 rc
  | .fctiwz frt frb rc => encX 63#6 frt 0 frb 15#10 rc
  | .fcfid frt frb rc => encX 63#6 frt 0 frb 846#10 rc
  | .fcmpu bf fra frb => encX 63#6 (fieldBf bf) fra frb 0#10 false
  | .fcmpo bf fra frb => encX 63#6 (fieldBf bf) fra frb 32#10 false
  | .mffs frt rc => encX 63#6 frt 0 0 583#10 rc
  | .mcrfs bf bfa => encX 63#6 (fieldBf bf) (fieldBf bfa) 0 64#10 false
  | .mtfsfi bf u rc => encX 63#6 (fieldBf bf) 0 (u ++ 0#1) 134#10 rc
  | .mtfsf flm frb rc => encXFL flm frb rc
  | .mtfsb0 bt rc => encX 63#6 bt 0 0 70#10 rc
  | .mtfsb1 bt rc => encX 63#6 bt 0 0 38#10 rc
  | .icbi ra rb => encX 31#6 0 ra rb 982#10 false
  | .isync => encX 19#6 0 0 0 150#10 false
  | .dcbt ra rb => encX 31#6 0 ra rb 278#10 false
  | .dcbtst ra rb => encX 31#6 0 ra rb 246#10 false
  | .dcbz ra rb => encX 31#6 0 ra rb 1014#10 false
  | .dcbst ra rb => encX 31#6 0 ra rb 54#10 false
  | .dcbf ra rb => encX 31#6 0 ra rb 86#10 false
  | .eieio => encX 31#6 0 0 0 854#10 false
  | .mftb rt tbr => encSpr rt tbr 371#10
  | .rfi => encX 19#6 0 0 0 50#10 false
  | .mtmsr rs => encX 31#6 rs 0 0 146#10 false
  | .mfmsr rt => encX 31#6 rt 0 0 83#10 false
  | .mtsr sr rs => encX 31#6 rs (0#1 ++ sr) 0 210#10 false
  | .mtsrin rs rb => encX 31#6 rs 0 rb 242#10 false
  | .mfsr rt sr => encX 31#6 rt (0#1 ++ sr) 0 595#10 false
  | .mfsrin rt rb => encX 31#6 rt 0 rb 659#10 false
  | .dcbi ra rb => encX 31#6 0 ra rb 470#10 false
  | .slbie rb => encX 31#6 0 0 rb 434#10 false
  | .slbia => encX 31#6 0 0 0 498#10 false
  | .tlbie rb => encX 31#6 0 0 rb 306#10 false
  | .tlbia => encX 31#6 0 0 0 370#10 false
  | .tlbsync => encX 31#6 0 0 0 566#10 false
  | .eciwx rt ra rb => encX 31#6 rt ra rb 310#10 false
  | .ecowx rs ra rb => encX 31#6 rs ra rb 438#10 false

end Sys2Proof
end

