-- ==== Sys2Proof/Machine/State.lean ====
section
/-! DEFINITION. Everything the spec gives the machine (10_state.md), as plain data, and its value after reset.
Registers are held 64 bits wide; a 32-bit implementation uses their low-order half (00_scope.md R6). -/

namespace Sys2Proof.Machine

/-- Storage (20_memory.md R122): the bytes that are not 0, by real address, strictly rising. A byte it does not list
reads 0 (log 4). -/
structure Memory where
  cells : List Host.Cell
deriving DecidableEq, Repr

/-- The interrupt types (60_exceptions.md R701). -/
inductive IntrKind where
  | systemReset
  | machineCheck
  | dataStorage
  | instructionStorage
  | external
  | alignment
  | program
  | fpUnavailable
  | decrementer
  | systemCall
  | trace
  | fpAssist
deriving DecidableEq, Repr

/-- One thing the environment does between two steps (00_scope.md R22; 20_memory.md R147; log 7). -/
inductive EnvEvent where
  /-- so many Time Base ticks (60_exceptions.md R751) -/
  | ticks (n : Nat)
  /-- a System Reset request -/
  | systemReset
  /-- a Machine Check request -/
  | machineCheck
  /-- the level of the External interrupt input changes -/
  | external (level : Bool)
  /-- the reservation is lost for a reason of the implementation's (R147) -/
  | reservationLost
  /-- another processor or mechanism stores these bytes (R147 a, log 32) -/
  | stores (bytes : List Host.Cell)
deriving DecidableEq, Repr

/-- A request sent to the External Control device (48_supervisor.md R687). -/
inductive ExtRequest where
  /-- `eciwx`: a load request for a real address -/
  | load (rid : BitVec 6) (real : Dword)
  /-- `ecowx`: a store request with its word -/
  | store (rid : BitVec 6) (real : Dword) (data : Word)
deriving DecidableEq, Repr

/-- How the model can stop with a fault. -/
inductive Fault where
  /-- A load, store or cache instruction whose translation answers `T = 1` without a fault, or an ordinary fetch from
  such a segment left unreported: the direct-store protocol is not in the spec (20_memory.md R132; log 28). Raised by
  the data-access path only. Safe: the hardware goes on to a device the spec does not describe. -/
  | directStoreAccess
deriving DecidableEq, Repr

/-- How the model can refuse an instruction. -/
inductive Refusal where
  /-- An instruction without a meaning in this model, by its mnemonic. Raised by no instruction of the finished
  model. Safe. -/
  | notModelled (mnemonic : String)
  /-- An invalid form under `INVALID_FORM_POLICY = refuse` (30_encoding.md R212; log 10). Raised by the decode-time
  checks, only in a configuration that selects the policy. Safe. -/
  | invalidForm
  /-- An alteration of a context whose results Appendix L.4 leaves undefined (70_reset_and_hazards.md R808: "the model
  refuses it"; log 30). Raised by `mtmsr`, `mtspr`, `mtsr`, `mtsrin` and `rfi`, unless the configuration executes them. Safe. -/
  | contextAlteration
  /-- `eciwx` or `ecowx` with `MSR_DR = 0`, boundedly undefined (48_supervisor.md R683, R684), under
  `INVALID_FORM_POLICY = refuse` (00_scope.md R19; log 20). Raised by those two only. Safe. -/
  | boundedlyUndefined
deriving DecidableEq, Repr

/-- The state of the machine. -/
structure State where
  /-- GPRs (10_state.md R30) -/
  gpr : Vector Dword 32
  /-- FPRs (R31) -/
  fpr : Vector Dword 32
  /-- the model's own: bit `n` (from the least significant) says that FPR `n` was last written as a single
  (44_float_load_store_move.md R519, log 15) -/
  fprSingle : Word
  /-- Condition Register (R32) -/
  cr : Word
  /-- Link Register (R33) -/
  lr : Dword
  /-- Count Register (R35) -/
  ctr : Dword
  /-- the Current Instruction Address (R34) -/
  pc : Dword
  /-- Fixed-Point Exception Register (R36) -/
  xer : Word
  /-- Floating-Point Status and Control Register (R37) -/
  fpscr : Word
  /-- Machine State Register (R40) -/
  msr : Dword
  /-- Save/Restore Register 0 (R42) -/
  srr0 : Dword
  /-- Save/Restore Register 1 (R43) -/
  srr1 : Dword
  /-- Data Address Register (R44) -/
  dar : Dword
  /-- Data Storage Interrupt Status Register (R45) -/
  dsisr : Word
  /-- SPRG0 to SPRG3 (R46) -/
  sprg : Vector Dword 4
  /-- Decrementer (R47) -/
  dec : Word
  /-- Time Base (R48) -/
  tb : Dword
  /-- Storage Description Register 1 (R50) -/
  sdr1 : Dword
  /-- Address Space Register, 64-bit implementations (R51) -/
  asr : Dword
  /-- External Access Register (R52) -/
  ear : Word
  /-- IBAT0U, IBAT0L, …, IBAT3L (R53) -/
  ibat : Vector Dword 8
  /-- DBAT0U, DBAT0L, …, DBAT3L (R53) -/
  dbat : Vector Dword 8
  /-- Segment Registers, 32-bit implementations (R54) -/
  sr : Vector Word 16
  /-- Processor ID Register (R55, log 31) -/
  pir : Word
  /-- Floating-Point Exception Cause Register (R55, log 31) -/
  fpecr : Word
  /-- the reservation: the real address reserved, if any (R60) -/
  reserve : Option Dword
  /-- `DEC_PENDING` (R61) -/
  decPending : Bool
  /-- `EXT_PENDING` (R61) -/
  extPending : Bool
  /-- `SRESET_REQ` (R61) -/
  sresetReq : Bool
  /-- `MCHECK_REQ` (R61) -/
  mcheckReq : Bool
  /-- `CHECKSTOP` (R61) -/
  checkstop : Bool
  /-- storage (20_memory.md R122) -/
  mem : Memory
  /-- the implementation parameters (00_scope.md R5), changed by no step (log 1) -/
  cfg : Config
  /-- the model's own: how many free values have been drawn (log 5) -/
  draws : Nat
  /-- the model's own: the interrupt taken in the current step, if any (log 26) -/
  lastInterrupt : Option IntrKind
  /-- the model's own: something was executed that the architecture does not define (48_supervisor.md R683 "flags the
  execution"; logs 20, 30) -/
  flagged : Bool
  /-- the model's own: which IBAT registers had a field other than V and the Key bits altered since the last context
  synchronizing operation (70_reset_and_hazards.md R807; log 30) -/
  ibatAltered : Vector Bool 8
  /-- the model's own: what the environment will do, one list of events after each step (log 7) -/
  env : List (List EnvEvent)
  /-- the model's own: the words the External Control device will answer (`ExtIn`, log 20) -/
  extIn : List Word
  /-- the model's own: the requests sent to the External Control device, oldest first (`ExtOut`, log 20) -/
  extOut : List ExtRequest
deriving DecidableEq, Repr

/-- The machine of configuration `c` right after power-on reset (10_state.md R63, 70_reset_and_hazards.md R791):
`MSR_RESET` and the System Reset vector; every register the spec leaves unspecified is 0 (log 2). In 32-bit mode the
vector address is taken modulo 2^32 (10_state.md R34). -/
def State.resetWith (c : Config) : State :=
  let vector := (if c.msrReset.getMsbD 57 then c.ipBase1 else c.ipBase0) + 0x100
  { gpr := Vector.replicate 32 0, fpr := Vector.replicate 32 0, fprSingle := 0, cr := 0, lr := 0, ctr := 0,
    pc := if c.impl64 && c.msrReset.getMsbD 0 then vector else vector &&& 0xFFFFFFFF,
    xer := 0, fpscr := 0, msr := c.msrReset, srr0 := 0, srr1 := 0, dar := 0, dsisr := 0,
    sprg := Vector.replicate 4 0, dec := 0, tb := 0, sdr1 := 0, asr := 0, ear := 0,
    ibat := Vector.replicate 8 0, dbat := Vector.replicate 8 0, sr := Vector.replicate 16 0, pir := 0, fpecr := 0,
    reserve := none, decPending := false, extPending := false, sresetReq := false, mcheckReq := false,
    checkstop := false, mem := { cells := [] }, cfg := c, draws := 0, lastInterrupt := none, flagged := false,
    ibatAltered := Vector.replicate 8 false,
    env := [], extIn := [], extOut := [] }

/-- The machine of the reference configuration right after power-on reset: `MSR` has only `IP` set, `pc` is
`0xFFF0_0100` (70_reset_and_hazards.md R791). -/
def State.reset : State := State.resetWith Config.reference

end Sys2Proof.Machine
end

