-- ==== Sys2Proof/Machine/Memory.lean ====
section
/-! DEFINITION. Storage as a total map from real addresses to bytes (20_memory.md R122), kept in one canonical form, and
the wide values built from bytes in storage order (R100, R101 step 6). -/

namespace Sys2Proof.Machine

/-- What an address that is not listed reads as (log 4). -/
def unlistedByte : Byte := 0

/-- The byte a list of cells holds at address `a`. -/
def readCells : List Host.Cell → Nat → Byte
  | [], _ => unlistedByte
  | c :: rest, a => if a = c.1 then c.2 else readCells rest a

/-- A list of rising cells with the byte at `a` set to `v`; a byte equal to what an unlisted address reads as is not
listed. -/
def writeCells : List Host.Cell → Nat → Byte → List Host.Cell
  | [], a, v => if v = unlistedByte then [] else [(a, v)]
  | c :: rest, a, v =>
    if a < c.1 then (if v = unlistedByte then c :: rest else (a, v) :: c :: rest)
    else if a = c.1 then (if v = unlistedByte then rest else (a, v) :: rest)
    else c :: writeCells rest a v

/-- The canonical form: addresses strictly rising and above `low` where one is given, no cell equal to what an unlisted
address reads as, every address a real address. -/
def wfCells : Option Nat → List Host.Cell → Bool
  | _, [] => true
  | low, c :: rest =>
    (match low with | none => true | some l => decide (l < c.1)) && decide (c.1 < 2 ^ 64) && c.2 != unlistedByte
      && wfCells (some c.1) rest

/-- The canonical form of a storage. -/
def Memory.wf (m : Memory) : Bool := wfCells none m.cells

/-- `byte[a]` of a real address. -/
def Memory.read (m : Memory) (a : Dword) : Byte := readCells m.cells a.toNat

/-- `byte[a] <- v`. -/
def Memory.write (m : Memory) (a : Dword) (v : Byte) : Memory := { cells := writeCells m.cells a.toNat v }

/-- The bytes at a list of real addresses. -/
def Memory.readAll (m : Memory) (reals : List Dword) : List Byte := reals.map m.read

/-- Store bytes at a list of real addresses, one after the other. -/
def Memory.writeAll (m : Memory) : List Dword → List Byte → Memory
  | a :: as, v :: vs => (m.write a v).writeAll as vs
  | _, _ => m

/-- The value of bytes, most significant first, zero-extended to a doubleword (20_memory.md R101 step 6). -/
def valueOfBytes (bs : List Byte) : Dword := bs.foldl (fun v b => (v <<< 8) ||| b.setWidth 64) 0

/-- The low-order `n` bytes of a value, most significant first. -/
def bytesOfValue (n : Nat) (v : Dword) : List Byte := (List.range n).map fun j => slice v (64 - 8 * n + 8 * j) 8

end Sys2Proof.Machine
end

