-- ==== Sys2Proof/Machine/Ops.lean ====
section
/-! DEFINITION. The named operations every meaning is built from: modes and registers, free values, the decode-time
checks, taking an interrupt and returning from one, address translation and the data-access path. -/

namespace Sys2Proof.Machine

/-- What a meaning answers. -/
abbrev Result := Host.Outcome State Fault Refusal

/-! ## MSR bits (10_state.md R40) -/

/-- 64-bit mode -/
def msrSF : Nat := 0
/-- power management -/
def msrPOW : Nat := 45
/-- the LE value interrupts set -/
def msrILE : Nat := 47
/-- External and Decrementer interrupts enabled -/
def msrEE : Nat := 48
/-- problem state -/
def msrPR : Nat := 49
/-- floating-point available -/
def msrFP : Nat := 50
/-- Machine Check enabled -/
def msrME : Nat := 51
/-- floating-point exception mode, first bit -/
def msrFE0 : Nat := 52
/-- single-step trace -/
def msrSE : Nat := 53
/-- branch trace -/
def msrBE : Nat := 54
/-- floating-point exception mode, second bit -/
def msrFE1 : Nat := 55
/-- interrupt prefix -/
def msrIP : Nat := 57
/-- instruction relocate -/
def msrIR : Nat := 58
/-- data relocate -/
def msrDR : Nat := 59
/-- recoverable interrupt -/
def msrRI : Nat := 62
/-- Little-Endian mode -/
def msrLE : Nat := 63

/-- One bit of the MSR. -/
def State.msrBit (s : State) (i : Nat) : Bool := bit s.msr i

/-- `mode64` of 00_scope.md R6. -/
def State.mode64 (s : State) : Bool := s.cfg.impl64 && s.msrBit msrSF

/-- The value a register of this implementation holds: on a 32-bit implementation bits 0:31 are absent, they read as 0
and writes to them are dropped (00_scope.md R6). -/
def State.narrow (s : State) (v : Dword) : Dword := if s.cfg.impl64 then v else zext (lowWord v)

/-- `iea` of 00_scope.md R15. -/
def State.iea (s : State) (v : Dword) : Dword := if s.mode64 then v else zext (lowWord v)

/-- An address as `pc` holds it: truncated by the mode, low-order two bits 0 (10_state.md R34). -/
def State.codeAddress (s : State) (v : Dword) : Dword := s.iea v &&& ~~~ 3#64

/-! ## Registers -/

/-- `x[r]` (00_scope.md R12). -/
def State.x (s : State) (r : Gpr) : Dword := s.narrow (s.gpr[r.toNat]'(by have := r.isLt; omega))

/-- `x[r] <- v`. -/
def State.setX (s : State) (r : Gpr) (v : Dword) : State :=
  { s with gpr := s.gpr.set r.toNat (s.narrow v) (by have := r.isLt; omega) }

/-- `ra0(RA)` of 00_scope.md R10. -/
def State.ra0 (s : State) (ra : Gpr) : Dword := if ra = 0 then 0 else s.x ra

/-- `f[r]` (00_scope.md R12). -/
def State.f (s : State) (r : Fpr) : Dword := s.fpr[r.toNat]'(by have := r.isLt; omega)

/-- Was FPR `r` last written as a single (44 R519)? -/
def State.fSingle (s : State) (r : Fpr) : Bool := s.fprSingle.getLsbD r.toNat

/-- `f[r] <- v`; `single` says whether the value was written as a single (44 R519, log 15). -/
def State.setF (s : State) (r : Fpr) (v : Dword) (single : Bool) : State :=
  { s with
    fpr := s.fpr.set r.toNat v (by have := r.isLt; omega)
    fprSingle := withBit s.fprSingle (31 - r.toNat) single }

/-- Bit `i` of the CR. -/
def State.crBit (s : State) (i : CrBit) : Bool := bit s.cr i.toNat

/-- CR field `n`. -/
def State.crField (s : State) (n : CrField) : BitVec 4 := slice s.cr (4 * n.toNat) 4

/-- CR field `n` replaced. -/
def State.setCrField (s : State) (n : CrField) (v : BitVec 4) : State := { s with cr := withSlice s.cr (4 * n.toNat) v }

/-- `XER_SO` (10_state.md R36). -/
def State.so (s : State) : Bool := bit s.xer 0
/-- `XER_OV`. -/
def State.ov (s : State) : Bool := bit s.xer 1
/-- `XER_CA`. -/
def State.ca (s : State) : Bool := bit s.xer 2

/-- The address of the following instruction, `iea(pc + 4)` (10_state.md R34). -/
def State.nextPc (s : State) : Dword := s.codeAddress (s.pc + 4)

/-- Go on at the following instruction. -/
def State.advance (s : State) : State := { s with pc := s.nextPc }

/-- Go on at `target`. -/
def State.goTo (s : State) (target : Dword) : State := { s with pc := s.codeAddress target }

/-- An instruction that completes in sequence. -/
def completed (s : State) : Result := .next s.advance

/-! ## Free values (00_scope.md R19, log 5) -/

/-- The `k`-th undefined value an instruction draws. -/
def State.free (s : State) (k : Nat) : Dword := Config.freeWord (s.draws + k)

/-- After drawing `k` values. -/
def State.drawn (s : State) (k : Nat) : State := { s with draws := s.draws + k }

/-- What a floating-point exception that occurred leaves in the FPECR, where the implementation has it: the reason, in a
layout that Book IV gives, hence a free value (10_state.md R55, log 31). -/
def State.withFpReason (s : State) (occurred : Bool) : State :=
  { s with
    fpecr := if s.cfg.fpecrPresent && occurred then lowWord (s.free 0) else s.fpecr
    draws := s.draws + 1 }

/-! ## Interrupts (60_exceptions.md) -/

/-- The kinds of Program interrupt (R717). -/
inductive ProgramKind where
  /-- a floating-point enabled exception at the instruction that caused it -/
  | fpEnabled
  /-- a floating-point enabled exception that an MSR change unmasked: SRR0 is past the cause -/
  | fpEnabledLate
  | illegal
  | privileged
  | trap
deriving DecidableEq, Repr

/-- What causes an interrupt, with what its registers receive. -/
inductive Cause where
  | systemReset
  | machineCheck
  /-- DSISR, and the DAR where it is defined (R713; undefined for `EAR_E = 0`, 48 R683) -/
  | dataStorage (dsisr : Word) (dar : Option Dword)
  /-- the SRR1 status bits (R714) -/
  | instructionStorage (status : Dword)
  | external
  /-- DSISR and DAR (R716) -/
  | alignment (dsisr : Word) (dar : Dword)
  | program (kind : ProgramKind)
  | fpUnavailable
  | decrementer
  | systemCall
  | trace
  | fpAssist
deriving DecidableEq, Repr

/-- The type of the interrupt (R701). -/
def Cause.kind : Cause → IntrKind
  | .systemReset => .systemReset
  | .machineCheck => .machineCheck
  | .dataStorage _ _ => .dataStorage
  | .instructionStorage _ => .instructionStorage
  | .external => .external
  | .alignment _ _ => .alignment
  | .program _ => .program
  | .fpUnavailable => .fpUnavailable
  | .decrementer => .decrementer
  | .systemCall => .systemCall
  | .trace => .trace
  | .fpAssist => .fpAssist

/-- The vector offset of a type (R701, 20_memory.md R120). -/
def vectorOffset : IntrKind → Dword
  | .systemReset => 0x100
  | .machineCheck => 0x200
  | .dataStorage => 0x300
  | .instructionStorage => 0x400
  | .external => 0x500
  | .alignment => 0x600
  | .program => 0x700
  | .fpUnavailable => 0x800
  | .decrementer => 0x900
  | .systemCall => 0xC00
  | .trace => 0xD00
  | .fpAssist => 0xE00

/-- `IP_BASE(MSR_IP)` (20_memory.md R121). -/
def State.vectorBase (s : State) : Dword := if s.msrBit msrIP then s.cfg.ipBase1 else s.cfg.ipBase0

/-- SRR1 bits 33:36 and 42:47, which hold interrupt status and not MSR bits (R702). -/
def srr1StatusMask : Dword := 0x783F0000

/-- The SRR1 status bits of a Program interrupt (R717). -/
def programStatus : ProgramKind → Dword
  | .fpEnabled => 0x00100000
  | .fpEnabledLate => 0x00110000
  | .illegal => 0x00080000
  | .privileged => 0x00040000
  | .trap => 0x00020000

/-- SRR0 (R704): the following instruction for System Call, `pc` for every other type. -/
def Cause.srr0 (c : Cause) (s : State) : Dword :=
  match c with
  | .systemCall => s.nextPc
  | _ => s.codeAddress s.pc

/-- SRR1 (R702, R705). The bits the spec calls undefined are free values (log 16). -/
def Cause.srr1 (c : Cause) (s : State) : Dword :=
  s.narrow <|
    match c with
    | .instructionStorage status => merge srr1StatusMask status s.msr
    | .program k => merge srr1StatusMask (programStatus k) s.msr
    | .systemCall => merge 0xFFFF0000 (s.free 0) s.msr
    | .machineCheck => withBit (s.free 0) msrRI (s.msrBit msrRI)
    | .trace => merge srr1StatusMask (s.free 0) s.msr
    | .fpAssist => merge srr1StatusMask (s.free 0) s.msr
    | _ => merge srr1StatusMask 0 s.msr

/-- `InterruptMSR` (R703). -/
def interruptMsr (k : IntrKind) (s : State) : Dword :=
  (if s.cfg.impl64 then oneBit 64 msrSF else 0)
    ||| (s.msr &&& (oneBit 64 msrIP ||| oneBit 64 msrILE))
    ||| (if s.msrBit msrILE then oneBit 64 msrLE else 0)
    ||| (if k = .machineCheck then 0 else s.msr &&& oneBit 64 msrME)

/-- The DSISR after an interrupt: written by Data Storage and Alignment only (R713, R716). -/
def Cause.dsisr (c : Cause) (s : State) : Word :=
  match c with
  | .dataStorage d _ => d
  | .alignment d _ => d
  | _ => s.dsisr

/-- The DAR after an interrupt: written by Data Storage and Alignment only (R713, R716). A Machine Check "may also set it"
(10_state.md R44, Book IV): here it never does (DESIGN CHOICE, unsafe: log 42). -/
def Cause.dar (c : Cause) (s : State) : Dword :=
  match c with
  | .dataStorage _ (some a) => s.narrow a
  | .dataStorage _ none => s.narrow (s.free 0)
  | .alignment _ a => s.narrow a
  | _ => s.dar

/-- Is it the interrupt of a floating-point exception (R717, R722)? -/
def Cause.floating (c : Cause) : Bool :=
  match c with
  | .program .fpEnabled | .program .fpEnabledLate | .fpAssist => true
  | _ => false

/-- The FPECR after an interrupt: an implementation that has it says there why a floating-point exception occurred (log 31). -/
def Cause.fpecr (c : Cause) (s : State) : Word :=
  if s.cfg.fpecrPresent && c.floating then lowWord (s.free 1) else s.fpecr

/-- Is the interrupt context synchronizing (70_reset_and_hazards.md R802)? System Reset and Machine Check are where they
are recoverable, which the model reads off `MSR_RI`, the SRR1 bit 62 of both (R710, R711; log 30). -/
def Cause.synchronizes (c : Cause) (s : State) : Bool :=
  match c with
  | .systemReset | .machineCheck => s.msrBit msrRI
  | _ => true

/-- The record of altered IBAT registers where none is altered since the last context synchronizing operation (log 30). -/
def noneAltered : Vector Bool 8 := Vector.replicate 8 false

/-- `TakeInterrupt` (R702): the ONE operation that enters an interrupt. The request that a System Reset, Machine Check or
Decrementer interrupt answers is withdrawn (R710, R711, R719); the External level stays (R715). -/
def takeInterrupt (c : Cause) (s : State) : State :=
  { s with
    srr0 := c.srr0 s
    srr1 := c.srr1 s
    msr := interruptMsr c.kind s
    dsisr := c.dsisr s
    dar := c.dar s
    fpecr := c.fpecr s
    pc := s.narrow (s.vectorBase + vectorOffset c.kind) &&& ~~~ 3#64
    sresetReq := s.sresetReq && c.kind != .systemReset
    mcheckReq := s.mcheckReq && c.kind != .machineCheck
    decPending := s.decPending && c.kind != .decrementer
    lastInterrupt := some c.kind
    ibatAltered := if c.synchronizes s then noneAltered else s.ibatAltered
    draws := s.draws + 2 }

/-- An instruction that ends in an interrupt. -/
def interrupt (c : Cause) (s : State) : Result := .next (takeInterrupt c s)

/-- The MSR bits that are defined (10_state.md R40); SF exists on 64-bit implementations only. -/
def msrDefined (c : Config) : Dword := (if c.impl64 then oneBit 64 msrSF else 0) ||| 0x5FF73

/-- A value as the MSR stores it: defined bits, and the reserved bits the implementation copies (10_state.md R58). -/
def msrStored (c : Config) (v : Dword) : Dword :=
  v &&& (msrDefined c ||| (if c.impl64 then c.msrCopy else zext (lowWord c.msrCopy)))

/-- `rfi` (48_supervisor.md R670): the saved MSR bits come back, the others stay, and execution goes on at SRR0, taken in
the mode of the new MSR. It is context synchronizing (70_reset_and_hazards.md R802). -/
def returnFromInterrupt (s : State) : State :=
  let s' := { s with
    msr := msrStored s.cfg (merge s.cfg.rfiMask (s.narrow s.srr1) s.msr)
    ibatAltered := noneAltered }
  s'.goTo (s.narrow s.srr0)

/-! ## The decode-time checks (30_encoding.md R200, D15) -/

/-- What the checks before execution decide. -/
inductive Admission where
  | execute
  | raise (c : Cause)
  | invalidForm
deriving DecidableEq, Repr

/-- Does the implementation have the instruction (steps 3 and 4)? -/
def implemented (r : Req) (c : Config) : Bool :=
  r.present &&
    match r.avail with
    | .both => true
    | .only64 => c.impl64
    | .only32 => !c.impl64

/-- Steps (3) to (6): existence, privilege, floating-point availability. -/
def admissionBeforeForm (i : Instr) (s : State) : Option Cause :=
  let r := i.req s.cfg
  if !implemented r s.cfg then some (.program .illegal)
  else if r.priv && s.msrBit msrPR then some (.program .privileged)
  else if r.fp && !s.msrBit msrFP then some .fpUnavailable
  else none

/-- Steps (3) to (7) for a word whose reserved bits are 0. -/
def admission (i : Instr) (s : State) : Admission :=
  match admissionBeforeForm i s with
  | some c => .raise c
  | none => if i.formValid && i.formValidHere s.cfg s.xer then .execute else .invalidForm

/-- `INVALID_FORM_POLICY` (R212). -/
def invalidForm (s : State) : Result :=
  match s.cfg.invalidForm with
  | .illegal => interrupt (.program .illegal) s
  | .refuse => .refused .invalidForm

/-- Run `body` if the checks let instruction `i` execute; otherwise what they say. -/
def admitted (i : Instr) (s : State) (body : Result) : Result :=
  match admission i s with
  | .execute => body
  | .raise c => interrupt c s
  | .invalidForm => invalidForm s

/-- A word of instruction `i` with a reserved bit set: steps (3) to (6), then the invalid-form policy (R183). -/
def reservedBitsForm (i : Instr) (s : State) : Result :=
  match admissionBeforeForm i s with
  | some c => interrupt c s
  | none => invalidForm s

/-! ## Address translation (20_memory.md R130 to R133, log 8) -/

/-- Has the part of the state a condition names the content it asks for? -/
def State.meets (s : State) : TranslationCondition → Bool
  | .sdr1 v => s.narrow s.sdr1 == v
  | .asr v => s.narrow s.asr == v
  | .ibat n v => s.narrow s.ibat[n] == v
  | .dbat n v => s.narrow s.dbat[n] == v
  | .sr n v => s.sr[n] == v
  | .storage real v => s.mem.read real == v

/-- The first line of the table for a page that applies in a state, if there is one. -/
def findTranslation (s : State) (l : List TranslationEntry) (page : BitVec 52) (kind : AccessKind) (priv : Bool) :
    Option TranslationResult :=
  match l with
  | [] => none
  | e :: rest =>
    if e.page = page ∧ e.kind = kind ∧ e.privileged = priv ∧ e.conditions.all s.meets = true then some e.result
    else findTranslation s rest page kind priv

/-- Is translation on for this kind of access? -/
def State.relocates (s : State) : AccessKind → Bool
  | .ifetch => s.msrBit msrIR
  | .load => s.msrBit msrDR
  | .store => s.msrBit msrDR

/-- `Translate` (R130): the real address of an address that the Endian modification has already been applied to, with
its attributes. With translation off, and for a page without a line that applies, the address itself.
The source lets an implementation modify SRR0 and SRR1 on a translated access (10_state.md R42, 60_exceptions.md R706);
this model never does (DESIGN CHOICE, unsafe: log 38). -/
def translate (s : State) (kind : AccessKind) (a : Dword) : Except TranslationFault (Dword × StorageAttrs) :=
  if s.relocates kind then
    match findTranslation s s.cfg.xlate (slice a 0 52) kind (!s.msrBit msrPR) with
    | none => .ok (a, {})
    | some (.ok page attrs) => .ok (page ++ slice a 52 12, attrs)
    | some (.fault causes) => .error causes
  else .ok (a, {})

/-! ## The data-access path (20_memory.md R101 to R112) -/

/-- The kinds of data access the alignment and storage-class rules tell apart (R112, 60_exceptions.md R713, R716). -/
inductive AccessClass where
  /-- fixed-point elementary load or store -/
  | fixed
  | float
  /-- `lwarx`, `ldarx`, `stwcx.`, `stdcx.` -/
  | reserve
  /-- `lmw`, `stmw` -/
  | multiple
  /-- the Move Assist instructions -/
  | string
  /-- `eciwx`, `ecowx` -/
  | external
deriving DecidableEq, Repr

/-- The byte addresses `EA`, `EA + 1`, … of an operand, each truncated by the mode (R101 step 2, log 29). -/
def operandBytes (s : State) (ea : Dword) (n : Nat) : List Dword :=
  (List.range n).map fun k => s.iea (ea + BitVec.ofNat 64 k)

/-- The address presented to storage for one byte: in Little-Endian mode byte `k` from the least significant end lies at
`(EA + k) XOR 7` (R103, R106). -/
def storageAddress (s : State) (a : Dword) : Dword := if s.msrBit msrLE then a ^^^ 7 else a

/-- The attributes of the page of a byte. A byte whose translation faults has none that R130 gives: such a byte counts as
outside every direct-store segment and BAT area, not Write Through and not Caching Inhibited (DESIGN CHOICE, unsafe:
log 35). -/
def attrsOf (s : State) (kind : AccessKind) (a : Dword) : StorageAttrs :=
  match translate s kind (storageAddress s a) with
  | .ok (_, attrs) => attrs
  | .error _ => {}

/-- Does an access in a case of R112 trap under the implementation's choice for that case? `ea` is the mode-truncated
address. -/
def choiceTraps (c : AlignChoice) (i : Instr) (ea : Dword) (s : State) : Bool :=
  match c with
  | .perform => false
  | .trap => true
  | .byAccess => Config.alignTraps (encode i) ea s.msr

/-- A misaligned scalar in Little-Endian mode, by policy (R106); the multiple and string instructions always trap there
(R107). `eciwx` and `ecowx` are not under this policy: R103's list of classes omits them, although R111 counts their
operands as words; in Little-Endian mode a misaligned one sends `EA XOR 4` unless `AlignPolicy.external` traps it (DESIGN
CHOICE, unsafe: log 9). -/
def littleTraps (i : Instr) (s : State) (cls : AccessClass) (ea : Dword) (n : Nat) : Bool :=
  match cls with
  | .multiple => true
  | .string => true
  | .external => false
  | _ =>
    ea.toNat % n != 0 &&
      match s.cfg.align.little with
      | .trap => true
      | .trapCrossing => decide (8 < ea.toNat % 8 + n)
      | .perform => false
      | .byAccess => choiceTraps .byAccess i ea s

/-- Are two bytes in one protection domain: a 4K page, an area that one BAT maps, or a direct-store segment (R112)? Segments
are taken as areas of 256 MB, and each 4K page whose translation faults as a domain of its own (DESIGN CHOICE, unsafe:
log 35). -/
def sameDomain (s : State) (kind : AccessKind) (a b : Dword) : Bool :=
  let u := attrsOf s kind a
  let v := attrsOf s kind b
  slice a 0 52 == slice b 0 52
    || (u.block.isSome && u.block == v.block)
    || (u.block.isNone && v.block.isNone && u.directStore && v.directStore && slice a 0 36 == slice b 0 36)

/-- Does an operand leave the protection domain of its first byte (R112 e)? -/
def crossesDomain (s : State) (kind : AccessKind) (ea : Dword) (n : Nat) : Bool :=
  (operandBytes s ea n).any fun a => !sameDomain s kind ea a

/-- Does an operand cross a boundary between segments of 256 MB, or between BAT areas (R112 f, log 35)? -/
def crossesArea (s : State) (kind : AccessKind) (ea : Dword) (n : Nat) : Bool :=
  (operandBytes s ea n).any fun a =>
    slice a 0 36 != slice ea 0 36 || (attrsOf s kind a).block != (attrsOf s kind ea).block

/-- `ALIGN_POLICY` (R112): does this operand of instruction `i` take the Alignment interrupt? `ea` is the mode-truncated
address. -/
def alignmentTraps (i : Instr) (s : State) (cls : AccessClass) (kind : AccessKind) (ea : Dword) (n : Nat) : Bool :=
  let policy := s.cfg.align
  let traps (c : AlignChoice) : Bool := choiceTraps c i ea s
  (s.msrBit msrLE && littleTraps i s cls ea n)
    || (match cls with
        | .fixed => n == 8 && ea.toNat % 4 != 0 && traps policy.double
        | .float =>
          (ea.toNat % 4 != 0 && traps policy.float)
            || (traps policy.floatDirect && (operandBytes s ea n).any fun a => (attrsOf s kind a).directStore)
        | .reserve => ea.toNat % n != 0 && traps policy.reserve
        | .multiple => ea.toNat % 4 != 0 && traps policy.multiple
        | .string => false
        | .external => ea.toNat % 4 != 0 && traps policy.external)
    || (match cls with
        | .multiple => traps policy.multipleCrossing && s.msrBit msrDR && crossesArea s kind ea n
        | .external => false
        | _ => traps policy.crossing && s.msrBit msrDR && crossesDomain s kind ea n)

/-- The form of an instruction word as the Alignment interrupt's DSISR distinguishes it (60_exceptions.md R716). -/
inductive DsisrForm where
  | d
  | ds
  | x
deriving DecidableEq, Repr

/-- Primary opcode 31 is X-form, 58 and 62 are DS-form, the other storage instructions are D-form. -/
def dsisrForm (w : Word) : DsisrForm :=
  if slice w 0 6 = 31#6 then .x else if slice w 0 6 = 58#6 ∨ slice w 0 6 = 62#6 then .ds else .d

/-- What DSISR bits 22:31 hold after an Alignment interrupt (60_exceptions.md R716). -/
inductive DsisrRegs where
  /-- update forms: RT and RA -/
  | update
  /-- `lmw`, `lswi`, `lswx`: RT, and RA or any register outside the range loaded (first register, count) -/
  | outside (first : Gpr) (count : Nat)
  /-- `dcbz`: both undefined -/
  | zeroBlock
  /-- any other: RT, the rest undefined -/
  | other
deriving DecidableEq, Repr

/-- DSISR bits 12:21, which identify the instruction of the word `w` (60_exceptions.md R716). -/
def dsisrCode (impl64 : Bool) (w : Word) : BitVec 10 :=
  let hi : BitVec 2 := if dsisrForm w = .ds ∧ impl64 then slice w 30 2 else 0
  let b15 : BitVec 2 := if dsisrForm w = .x then slice w 29 2 else 0
  let b17 : BitVec 1 := if dsisrForm w = .x then slice w 25 1 else slice w 5 1
  let b18 : BitVec 4 := if dsisrForm w = .x then slice w 21 4 else slice w 1 4
  hi ++ 0#1 ++ b15 ++ b17 ++ b18

/-- DSISR after an Alignment interrupt by the word `w` (60_exceptions.md R716); undefined bits come from `free`. -/
def alignmentDsisr (impl64 : Bool) (w : Word) (regs : DsisrRegs) (free : Dword) : Word :=
  let rt : BitVec 5 := if regs = .zeroBlock then slice free 54 5 else slice w 6 5
  let ra : BitVec 5 :=
    match regs with
    | .update => slice w 11 5
    | .outside first count =>
      if inWrappedRange first count (slice free 59 5) then slice w 11 5 else slice free 59 5
    | .zeroBlock => slice free 59 5
    | .other => slice free 59 5
  0#12 ++ dsisrCode impl64 w ++ rt ++ ra

/-- The elementary load or store that does the same in the other form, D or DS for X and X for D or DS, with the same RT and
RA (60_exceptions.md R716, its list of pairs). -/
def alternateForm (i : Instr) : Option Instr :=
  match i with
  | .lbz rt _ ra => some (.lbzx rt ra 0)
  | .lbzx rt ra _ => some (.lbz rt 0 ra)
  | .lbzu rt _ ra => some (.lbzux rt ra 0)
  | .lbzux rt ra _ => some (.lbzu rt 0 ra)
  | .lhz rt _ ra => some (.lhzx rt ra 0)
  | .lhzx rt ra _ => some (.lhz rt 0 ra)
  | .lhzu rt _ ra => some (.lhzux rt ra 0)
  | .lhzux rt ra _ => some (.lhzu rt 0 ra)
  | .lha rt _ ra => some (.lhax rt ra 0)
  | .lhax rt ra _ => some (.lha rt 0 ra)
  | .lhau rt _ ra => some (.lhaux rt ra 0)
  | .lhaux rt ra _ => some (.lhau rt 0 ra)
  | .lwz rt _ ra => some (.lwzx rt ra 0)
  | .lwzx rt ra _ => some (.lwz rt 0 ra)
  | .lwzu rt _ ra => some (.lwzux rt ra 0)
  | .lwzux rt ra _ => some (.lwzu rt 0 ra)
  | .lwa rt _ ra => some (.lwax rt ra 0)
  | .lwax rt ra _ => some (.lwa rt 0 ra)
  | .ld rt _ ra => some (.ldx rt ra 0)
  | .ldx rt ra _ => some (.ld rt 0 ra)
  | .ldu rt _ ra => some (.ldux rt ra 0)
  | .ldux rt ra _ => some (.ldu rt 0 ra)
  | .stb rt _ ra => some (.stbx rt ra 0)
  | .stbx rt ra _ => some (.stb rt 0 ra)
  | .stbu rt _ ra => some (.stbux rt ra 0)
  | .stbux rt ra _ => some (.stbu rt 0 ra)
  | .sth rt _ ra => some (.sthx rt ra 0)
  | .sthx rt ra _ => some (.sth rt 0 ra)
  | .sthu rt _ ra => some (.sthux rt ra 0)
  | .sthux rt ra _ => some (.sthu rt 0 ra)
  | .stw rt _ ra => some (.stwx rt ra 0)
  | .stwx rt ra _ => some (.stw rt 0 ra)
  | .stwu rt _ ra => some (.stwux rt ra 0)
  | .stwux rt ra _ => some (.stwu rt 0 ra)
  | .std rt _ ra => some (.stdx rt ra 0)
  | .stdx rt ra _ => some (.std rt 0 ra)
  | .stdu rt _ ra => some (.stdux rt ra 0)
  | .stdux rt ra _ => some (.stdu rt 0 ra)
  | .lfs rt _ ra => some (.lfsx rt ra 0)
  | .lfsx rt ra _ => some (.lfs rt 0 ra)
  | .lfsu rt _ ra => some (.lfsux rt ra 0)
  | .lfsux rt ra _ => some (.lfsu rt 0 ra)
  | .lfd rt _ ra => some (.lfdx rt ra 0)
  | .lfdx rt ra _ => some (.lfd rt 0 ra)
  | .lfdu rt _ ra => some (.lfdux rt ra 0)
  | .lfdux rt ra _ => some (.lfdu rt 0 ra)
  | .stfs rt _ ra => some (.stfsx rt ra 0)
  | .stfsx rt ra _ => some (.stfs rt 0 ra)
  | .stfsu rt _ ra => some (.stfsux rt ra 0)
  | .stfsux rt ra _ => some (.stfsu rt 0 ra)
  | .stfd rt _ ra => some (.stfdx rt ra 0)
  | .stfdx rt ra _ => some (.stfd rt 0 ra)
  | .stfdu rt _ ra => some (.stfdux rt ra 0)
  | .stfdux rt ra _ => some (.stfdu rt 0 ra)
  | _ => none

/-- The instruction an Alignment interrupt of `i` reports: its own form, or the alternate one where the implementation
takes that (60_exceptions.md R716, log 41). -/
def reportedForm (c : Config) (i : Instr) : Instr :=
  match alternateForm i with
  | some j => if c.alternateDsisr.contains (dsisrCode c.impl64 (encode i)) then j else i
  | none => i

/-- The Alignment interrupt of instruction `i` at effective address `ea` (60_exceptions.md R716). -/
def alignmentCause (i : Instr) (regs : DsisrRegs) (ea : Dword) (s : State) : Cause :=
  .alignment (alignmentDsisr s.cfg.impl64 (encode (reportedForm s.cfg i)) regs (s.free 0)) (s.iea ea)

/-- DSISR bit 6: the access is a store (60_exceptions.md R713). -/
def dsisrStore (kind : AccessKind) : Word := if kind = .store then oneBit 32 6 else 0

/-- DSISR after a failed data-side translation (20_memory.md R131, 60_exceptions.md R713). -/
def dataFaultDsisr (kind : AccessKind) (f : TranslationFault) : Word :=
  (if f.directStoreError then oneBit 32 0 else 0) ||| (if f.notFound then oneBit 32 1 else 0)
    ||| (if f.protection then oneBit 32 4 else 0) ||| (if f.notSupported then oneBit 32 5 else 0)
    ||| dsisrStore kind ||| (if f.segmentMiss then oneBit 32 10 else 0)

/-- What ends a data access before its transfer. -/
inductive Stop where
  | interrupt (c : Cause)
  | fault (f : Fault)
deriving DecidableEq, Repr

/-- The outcome of an instruction whose data access was stopped. -/
def Stop.outcome (e : Stop) (s : State) : Result :=
  match e with
  | .interrupt c => Machine.interrupt c s
  | .fault f => .fault f

/-- The real address of one byte of an operand, or what stops the access (20_memory.md R131, R132). -/
def byteReal (s : State) (cls : AccessClass) (kind : AccessKind) (a : Dword) : Except Stop Dword :=
  match translate s kind (storageAddress s a) with
  | .error f => .error (.interrupt (.dataStorage (dataFaultDsisr kind f) (some a)))
  | .ok (real, attrs) =>
    match cls with
    | .reserve =>
      if attrs.directStore || attrs.writeThrough then
        .error (.interrupt (.dataStorage (oneBit 32 5 ||| dsisrStore kind) (some a)))
      else .ok real
    | .external =>
      if attrs.directStore then .error (.interrupt (.dataStorage (oneBit 32 5 ||| dsisrStore kind) (some a)))
      else .ok real
    | _ => if attrs.directStore then .error (.fault .directStoreAccess) else .ok real

/-- The real addresses of the bytes of an operand in rising order of effective address; the first byte that fails stops
the access, with its address in the DAR (D25, log 23). -/
def bytesReal (s : State) (cls : AccessClass) (kind : AccessKind) : List Dword → Except Stop (List Dword)
  | [] => .ok []
  | a :: as =>
    match byteReal s cls kind a with
    | .error e => .error e
    | .ok r =>
      match bytesReal s cls kind as with
      | .error e => .error e
      | .ok rs => .ok (r :: rs)

/-- The whole check of a data access (R101 steps 2 to 5): Alignment first, then Data Storage for the whole operand
(60_exceptions.md R782 step 9, R770; D27). The real addresses come most significant byte first. -/
def accessReals (i : Instr) (regs : DsisrRegs) (cls : AccessClass) (kind : AccessKind) (ea : Dword) (n : Nat)
    (s : State) : Except Stop (List Dword) :=
  if alignmentTraps i s cls kind (s.iea ea) n then .error (.interrupt (alignmentCause i regs ea s))
  else
    match bytesReal s cls kind (operandBytes s ea n) with
    | .error e => .error e
    | .ok rs => .ok (if s.msrBit msrLE then rs.reverse else rs)

/-- `MemRead(EA, n)` (00_scope.md R13), then `body` with the value, zero-extended. -/
def memRead (i : Instr) (regs : DsisrRegs) (cls : AccessClass) (ea : Dword) (n : Nat) (s : State)
    (body : Dword → Result) : Result :=
  match accessReals i regs cls .load ea n s with
  | .error e => e.outcome s
  | .ok rs => body (valueOfBytes (s.mem.readAll rs))

/-- `s` with the low-order `rs.length` bytes of `v` stored at the real addresses `rs`. -/
def State.stored (s : State) (rs : List Dword) (v : Dword) : State :=
  { s with mem := s.mem.writeAll rs (bytesOfValue rs.length v) }

/-- `MemWrite(EA, n, v)` (00_scope.md R13), then `body` in the state after the store. The processor's own store keeps its
reservation (20_memory.md R147). -/
def memWrite (i : Instr) (regs : DsisrRegs) (cls : AccessClass) (ea : Dword) (n : Nat) (v : Dword) (s : State)
    (body : State → Result) : Result :=
  match accessReals i regs cls .store ea n s with
  | .error e => e.outcome s
  | .ok rs => body (s.stored rs v)

end Sys2Proof.Machine
end

