-- ==== Sys2Proof/Machine/Operands.lean ====
section
/-! DEFINITION. The operand forms: immediates (30_encoding.md R181), effective addresses (41_fixed_load_store.md R280),
branch displacements (30_encoding.md R172), and the sequences of bytes and registers of the multiple and string
instructions (41 R328 to R333). -/

namespace Sys2Proof.Machine

/-- `sext_16` of a D or SI field. -/
def simm (v : BitVec 16) : Dword := v.signExtend 64

/-- `zext_16` of a UI field. -/
def uimm (v : BitVec 16) : Dword := v.setWidth 64

/-- `sext_32(SI || 0^16)` of `addis`. -/
def simmShifted (v : BitVec 16) : Dword := (v ++ 0#16 : Word).signExtend 64

/-- `0^32 || UI || 0^16` of the shifted logical immediates. -/
def uimmShifted (v : BitVec 16) : Dword := (v ++ 0#16 : Word).setWidth 64

/-- `sext_16(DS || 0b00)` of the DS-form. -/
def dsImm (v : BitVec 14) : Dword := (v ++ 0#2 : BitVec 16).signExtend 64

/-- `sext_26(LI || 0b00)` of the I-form. -/
def liImm (v : BitVec 24) : Dword := (v ++ 0#2 : BitVec 26).signExtend 64

/-- `sext_16(BD || 0b00)` of the B-form. -/
def bdImm (v : BitVec 14) : Dword := (v ++ 0#2 : BitVec 16).signExtend 64

/-- D-form effective address, `ra0(RA) + sext_16(D)`. -/
def eaD (s : State) (ra : Gpr) (d : BitVec 16) : Dword := s.ra0 ra + simm d

/-- D-form with update: the base is always the register. -/
def eaDU (s : State) (ra : Gpr) (d : BitVec 16) : Dword := s.x ra + simm d

/-- DS-form effective address. -/
def eaDS (s : State) (ra : Gpr) (ds : BitVec 14) : Dword := s.ra0 ra + dsImm ds

/-- DS-form with update. -/
def eaDSU (s : State) (ra : Gpr) (ds : BitVec 14) : Dword := s.x ra + dsImm ds

/-- X-form effective address, `ra0(RA) + x[RB]`. -/
def eaX (s : State) (ra rb : Gpr) : Dword := s.ra0 ra + s.x rb

/-- X-form with update. -/
def eaXU (s : State) (ra rb : Gpr) : Dword := s.x ra + s.x rb

/-- Sign-extension of the low-order halfword of a loaded value. -/
def sextHalf (v : Dword) : Dword := (v.setWidth 16).signExtend 64

/-- Sign-extension of the low-order word of a value. -/
def sextWord (v : Dword) : Dword := (lowWord v).signExtend 64

/-- The low-order `n` bytes of a value in reverse order (41 R324 to R327). -/
def reverseBytes (n : Nat) (v : Dword) : Dword := valueOfBytes (bytesOfValue n v).reverse

/-- Values written to consecutive registers from `r`, wrapping from GPR 31 to GPR 0. -/
def State.setXs (s : State) (r : Gpr) : List Dword → State
  | [] => s
  | v :: vs => (s.setX r v).setXs (r + 1) vs

/-- The words that bytes fill from the left, the last one padded with zero bytes (41 R330). -/
def wordsOfBytes : List Byte → List Dword
  | a :: b :: c :: d :: rest => valueOfBytes [a, b, c, d] :: wordsOfBytes rest
  | [a, b, c] => [valueOfBytes [a, b, c, 0]]
  | [a, b] => [valueOfBytes [a, b, 0, 0]]
  | [a] => [valueOfBytes [a, 0, 0, 0]]
  | [] => []

/-- The bytes of the low-order words of `k` consecutive registers from `r`, wrapping (41 R329, R332). -/
def registerBytes (s : State) (r : Gpr) : Nat → List Byte
  | 0 => []
  | k + 1 => bytesOfValue 4 (s.x r) ++ registerBytes s (r + 1) k

/-- The byte count of `lswx` and `stswx`, `XER[25:31]` (10_state.md R36). -/
def State.xerCount (s : State) : Nat := (slice s.xer 25 7).toNat

end Sys2Proof.Machine
end

