-- ==== Sys2Proof/Machine/Flags.lean ====
section
/-! DEFINITION. Flag computations of the fixed-point instructions: CR0 recording, overflow and carry
(42_fixed_arith.md R370 to R372), comparison results (R400 to R403) and trap conditions (R404). -/

namespace Sys2Proof.Machine

/-- The value a status bit looks at: the whole register in 64-bit mode, the low-order word otherwise, signed (R370). -/
def State.statusValue (s : State) (r : Dword) : Int := if s.mode64 then r.toInt else (lowWord r).toInt

/-- A four-bit CR field. -/
def crBits (lt gt eq so : Bool) : BitVec 4 := b1 lt ++ b1 gt ++ b1 eq ++ b1 so

/-- CR0 for the result `r` (R370); `XER_SO` is the one after the instruction's own update. -/
def State.cr0Of (s : State) (r : Dword) : BitVec 4 :=
  crBits (decide (s.statusValue r < 0)) (decide (0 < s.statusValue r)) (decide (s.statusValue r = 0)) s.so

/-- Record the result `r` in CR0 if `rc`. -/
def State.record (s : State) (rc : Bool) (r : Dword) : State := if rc then s.setCrField 0 (s.cr0Of r) else s

/-- Record in CR0 with LT, GT and EQ undefined, taken from `v`; SO is copied (R370, log 14). -/
def State.recordFree (s : State) (rc : Bool) (v : Dword) : State :=
  if rc then s.setCrField 0 (slice v 0 3 ++ b1 s.so) else s

/-- Overflow of `a + b + c` (R371): equal signs at the mode's top bit, and a sum of the other sign. -/
def State.addOverflow (s : State) (a b : Dword) (c : Bool) : Bool :=
  let m := if s.mode64 then 0 else 32
  bit a m == bit b m && bit (a + b + (b1 c).setWidth 64) m != bit a m

/-- Carry out of `a + b + c` (R372): out of bit 0 in 64-bit mode, out of bit 32 otherwise. -/
def State.addCarry (s : State) (a b : Dword) (c : Bool) : Bool :=
  if s.mode64 then decide (2 ^ 64 ≤ a.toNat + b.toNat + c.toNat)
  else decide (2 ^ 32 ≤ (lowWord a).toNat + (lowWord b).toNat + c.toNat)

/-- `XER_CA <- ca`. -/
def State.setCa (s : State) (ca : Bool) : State := { s with xer := withBit s.xer 2 ca }

/-- `XER_OV <- ov; XER_SO <- XER_SO | ov` if `oe` (R371). -/
def State.setOv (s : State) (oe ov : Bool) : State :=
  if oe then { s with xer := withBit (withBit s.xer 1 ov) 0 (s.so || ov) } else s

/-- Three comparison bits and `XER_SO` (R400). -/
def State.compareBits (s : State) (lt gt : Bool) : BitVec 4 := crBits lt gt (!lt && !gt) s.so

/-- Signed comparison into CR field `bf`. -/
def State.compareSigned (s : State) (bf : CrField) (a b : Dword) : State :=
  s.setCrField bf (s.compareBits (decide (a.toInt < b.toInt)) (decide (b.toInt < a.toInt)))

/-- Unsigned comparison into CR field `bf`. -/
def State.compareUnsigned (s : State) (bf : CrField) (a b : Dword) : State :=
  s.setCrField bf (s.compareBits (decide (a.toNat < b.toNat)) (decide (b.toNat < a.toNat)))

/-- `Trap(TO, a, b, W)` (R404). -/
def trapTaken {w : Nat} (cond : BitVec 5) (a b : BitVec w) : Bool :=
  (bit cond 0 && decide (a.toInt < b.toInt)) || (bit cond 1 && decide (b.toInt < a.toInt))
    || (bit cond 2 && a == b) || (bit cond 3 && decide (a.toNat < b.toNat))
    || (bit cond 4 && decide (b.toNat < a.toNat))

end Sys2Proof.Machine
end

