-- ==== Sys2Proof/Machine/Arith.lean ====
section
/-! DEFINITION. Fixed-point arithmetic, compares and traps (42_fixed_arith.md). -/

namespace Sys2Proof.Machine

/-- `x[RT] <- a + b + c` with the flags the instruction asks for: CA if `carry`, OV and SO if `oe`, CR0 if `rc`
(R370 to R372). -/
def sumInto (rt : Gpr) (a b : Dword) (c carry oe rc : Bool) (s : State) : Result :=
  let r := a + b + (b1 c).setWidth 64
  let s1 := if carry then (s.setX rt r).setCa (s.addCarry a b c) else s.setX rt r
  completed ((s1.setOv oe (s.addOverflow a b c)).record rc r)

/-- `x[RT] <- r` with an overflow of the instruction's own, and CR0 if `rc`. -/
def resultInto (rt : Gpr) (r : Dword) (oe ov rc : Bool) (s : State) : Result :=
  completed (((s.setX rt r).setOv oe ov).record rc r)

/-- A word result whose high-order half is undefined on a 64-bit implementation: bits 0:31 of RT are a free value, and so
are LT, GT and EQ in 64-bit mode (R393, R397; log 14). On a 32-bit implementation the register is the word. -/
def wordInto (rt : Gpr) (w : Word) (oe ov rc : Bool) (s : State) : Result :=
  let r : Dword := slice (s.free 0) 0 32 ++ w
  let s1 := (s.setX rt r).setOv oe ov
  completed ((if s.mode64 then s1.recordFree rc (s.free 1) else s1.record rc r).drawn 2)

/-- A result the spec leaves undefined altogether: RT is a free value, and so are LT, GT and EQ (R396 to R399). -/
def undefinedInto (rt : Gpr) (oe rc : Bool) (s : State) : Result :=
  completed ((((s.setX rt (s.free 0)).setOv oe true).recordFree rc (s.free 1)).drawn 2)

/-- The signed quotient of `a` by `b`, truncated toward zero. -/
def quotSigned {w : Nat} (a b : BitVec w) : BitVec w := BitVec.ofInt w (a.toInt.tdiv b.toInt)

/-- The unsigned quotient. -/
def quotUnsigned {w : Nat} (a b : BitVec w) : BitVec w := BitVec.ofNat w (a.toNat / b.toNat)

/-- Does the signed quotient have no value: a zero divisor, or the most negative number by -1 (R396, R397)? -/
def quotUndefined {w : Nat} (a b : BitVec w) : Bool := b == 0 || (a == BitVec.intMin w && b == BitVec.allOnes w)

/-- Does a signed product fit in `w` bits? -/
def fitsSigned (w : Nat) (p : Int) : Bool := decide (-(2 ^ (w - 1) : Int) ≤ p ∧ p < 2 ^ (w - 1))

/-- A compare: the operands as words or doublewords by `L` (R400 to R403). -/
def compareSignedBy (bf : CrField) (l : Bool) (a b : Dword) (s : State) : Result :=
  completed (if l then s.compareSigned bf a b else s.compareSigned bf (sextWord a) (sextWord b))

/-- A logical compare. -/
def compareUnsignedBy (bf : CrField) (l : Bool) (a b : Dword) (s : State) : Result :=
  completed (if l then s.compareUnsigned bf a b else s.compareUnsigned bf (zext (lowWord a)) (zext (lowWord b)))

/-- A trap instruction (R404). -/
def trapIf (taken : Bool) (s : State) : Result := if taken then interrupt (.program .trap) s else completed s

/-- `addi` (42 R373): `x[RT] <- ra0(RA) + SI`. -/
def execAddi (rt ra : Gpr) (si : BitVec 16) (s : State) : Result :=
  admitted (.addi rt ra si) s <|
    completed (s.setX rt (s.ra0 ra + simm si))

/-- `addis` (42 R374): `x[RT] <- ra0(RA) + (SI || 0^16)`. -/
def execAddis (rt ra : Gpr) (si : BitVec 16) (s : State) : Result :=
  admitted (.addis rt ra si) s <|
    completed (s.setX rt (s.ra0 ra + simmShifted si))

/-- `add` (42 R375): `x[RT] <- x[RA] + x[RB]`. -/
def execAdd (rt ra rb : Gpr) (oe rc : Bool) (s : State) : Result :=
  admitted (.add rt ra rb oe rc) s <|
    sumInto rt (s.x ra) (s.x rb) false false oe rc s

/-- `subf` (42 R376): `x[RT] <- ¬x[RA] + x[RB] + 1`. -/
def execSubf (rt ra rb : Gpr) (oe rc : Bool) (s : State) : Result :=
  admitted (.subf rt ra rb oe rc) s <|
    sumInto rt (~~~ s.x ra) (s.x rb) true false oe rc s

/-- `addic` (42 R377): `x[RT] <- x[RA] + SI` with carry. -/
def execAddic (rt ra : Gpr) (si : BitVec 16) (s : State) : Result :=
  admitted (.addic rt ra si) s <|
    sumInto rt (s.x ra) (simm si) false true false false s

/-- `addic.` (42 R378): `x[RT] <- x[RA] + SI` with carry and CR0. -/
def execAddicDot (rt ra : Gpr) (si : BitVec 16) (s : State) : Result :=
  admitted (.addicDot rt ra si) s <|
    sumInto rt (s.x ra) (simm si) false true false true s

/-- `subfic` (42 R379): `x[RT] <- ¬x[RA] + SI + 1` with carry. -/
def execSubfic (rt ra : Gpr) (si : BitVec 16) (s : State) : Result :=
  admitted (.subfic rt ra si) s <|
    sumInto rt (~~~ s.x ra) (simm si) true true false false s

/-- `addc` (42 R380): `x[RT] <- x[RA] + x[RB]` with carry. -/
def execAddc (rt ra rb : Gpr) (oe rc : Bool) (s : State) : Result :=
  admitted (.addc rt ra rb oe rc) s <|
    sumInto rt (s.x ra) (s.x rb) false true oe rc s

/-- `subfc` (42 R381): `x[RT] <- ¬x[RA] + x[RB] + 1` with carry. -/
def execSubfc (rt ra rb : Gpr) (oe rc : Bool) (s : State) : Result :=
  admitted (.subfc rt ra rb oe rc) s <|
    sumInto rt (~~~ s.x ra) (s.x rb) true true oe rc s

/-- `adde` (42 R382): `x[RT] <- x[RA] + x[RB] + CA` with carry. -/
def execAdde (rt ra rb : Gpr) (oe rc : Bool) (s : State) : Result :=
  admitted (.adde rt ra rb oe rc) s <|
    sumInto rt (s.x ra) (s.x rb) s.ca true oe rc s

/-- `subfe` (42 R383): `x[RT] <- ¬x[RA] + x[RB] + CA` with carry. -/
def execSubfe (rt ra rb : Gpr) (oe rc : Bool) (s : State) : Result :=
  admitted (.subfe rt ra rb oe rc) s <|
    sumInto rt (~~~ s.x ra) (s.x rb) s.ca true oe rc s

/-- `addme` (42 R384): `x[RT] <- x[RA] + CA - 1` with carry. -/
def execAddme (rt ra : Gpr) (oe rc : Bool) (s : State) : Result :=
  admitted (.addme rt ra oe rc) s <|
    sumInto rt (s.x ra) (BitVec.allOnes 64) s.ca true oe rc s

/-- `subfme` (42 R385): `x[RT] <- ¬x[RA] + CA - 1` with carry. -/
def execSubfme (rt ra : Gpr) (oe rc : Bool) (s : State) : Result :=
  admitted (.subfme rt ra oe rc) s <|
    sumInto rt (~~~ s.x ra) (BitVec.allOnes 64) s.ca true oe rc s

/-- `addze` (42 R386): `x[RT] <- x[RA] + CA` with carry. -/
def execAddze (rt ra : Gpr) (oe rc : Bool) (s : State) : Result :=
  admitted (.addze rt ra oe rc) s <|
    sumInto rt (s.x ra) 0 s.ca true oe rc s

/-- `subfze` (42 R387): `x[RT] <- ¬x[RA] + CA` with carry. -/
def execSubfze (rt ra : Gpr) (oe rc : Bool) (s : State) : Result :=
  admitted (.subfze rt ra oe rc) s <|
    sumInto rt (~~~ s.x ra) 0 s.ca true oe rc s

/-- `neg` (42 R388): `x[RT] <- ¬x[RA] + 1`. -/
def execNeg (rt ra : Gpr) (oe rc : Bool) (s : State) : Result :=
  admitted (.neg rt ra oe rc) s <|
    sumInto rt (~~~ s.x ra) 0 true false oe rc s

/-- `mulli` (42 R389): the low-order doubleword of `x[RA] × SI`. -/
def execMulli (rt ra : Gpr) (si : BitVec 16) (s : State) : Result :=
  admitted (.mulli rt ra si) s <|
    completed (s.setX rt (s.x ra * simm si))

/-- `mulld` (42 R390): the low-order doubleword of the signed product. -/
def execMulld (rt ra rb : Gpr) (oe rc : Bool) (s : State) : Result :=
  admitted (.mulld rt ra rb oe rc) s <|
    resultInto rt (s.x ra * s.x rb) oe (!fitsSigned 64 ((s.x ra).toInt * (s.x rb).toInt)) rc s

/-- `mullw` (42 R391): the signed product of the low-order words. -/
def execMullw (rt ra rb : Gpr) (oe rc : Bool) (s : State) : Result :=
  admitted (.mullw rt ra rb oe rc) s <|
    resultInto rt (sextWord (s.x ra) * sextWord (s.x rb)) oe
      (!fitsSigned 32 ((lowWord (s.x ra)).toInt * (lowWord (s.x rb)).toInt)) rc s

/-- `mulhd` (42 R392): the high-order doubleword of the signed product. -/
def execMulhd (rt ra rb : Gpr) (rc : Bool) (s : State) : Result :=
  admitted (.mulhd rt ra rb rc) s <|
    resultInto rt (BitVec.ofInt 64 ((s.x ra).toInt * (s.x rb).toInt / 2 ^ 64)) false false rc s

/-- `mulhw` (42 R393): the high-order word of the signed product of words. -/
def execMulhw (rt ra rb : Gpr) (rc : Bool) (s : State) : Result :=
  admitted (.mulhw rt ra rb rc) s <|
    wordInto rt (BitVec.ofInt 32 ((lowWord (s.x ra)).toInt * (lowWord (s.x rb)).toInt / 2 ^ 32)) false false rc s

/-- `mulhdu` (42 R394): the high-order doubleword of the unsigned product. -/
def execMulhdu (rt ra rb : Gpr) (rc : Bool) (s : State) : Result :=
  admitted (.mulhdu rt ra rb rc) s <|
    resultInto rt (BitVec.ofNat 64 ((s.x ra).toNat * (s.x rb).toNat / 2 ^ 64)) false false rc s

/-- `mulhwu` (42 R395): the high-order word of the unsigned product of words. -/
def execMulhwu (rt ra rb : Gpr) (rc : Bool) (s : State) : Result :=
  admitted (.mulhwu rt ra rb rc) s <|
    wordInto rt (BitVec.ofNat 32 ((lowWord (s.x ra)).toNat * (lowWord (s.x rb)).toNat / 2 ^ 32)) false false rc s

/-- `divd` (42 R396): the signed quotient. -/
def execDivd (rt ra rb : Gpr) (oe rc : Bool) (s : State) : Result :=
  admitted (.divd rt ra rb oe rc) s <|
    if quotUndefined (s.x ra) (s.x rb) then undefinedInto rt oe rc s
    else resultInto rt (quotSigned (s.x ra) (s.x rb)) oe false rc s

/-- `divw` (42 R397): the signed quotient of words. -/
def execDivw (rt ra rb : Gpr) (oe rc : Bool) (s : State) : Result :=
  admitted (.divw rt ra rb oe rc) s <|
    if quotUndefined (lowWord (s.x ra)) (lowWord (s.x rb)) then undefinedInto rt oe rc s
    else wordInto rt (quotSigned (lowWord (s.x ra)) (lowWord (s.x rb))) oe false rc s

/-- `divdu` (42 R398): the unsigned quotient. -/
def execDivdu (rt ra rb : Gpr) (oe rc : Bool) (s : State) : Result :=
  admitted (.divdu rt ra rb oe rc) s <|
    if s.x rb = 0 then undefinedInto rt oe rc s
    else resultInto rt (quotUnsigned (s.x ra) (s.x rb)) oe false rc s

/-- `divwu` (42 R399): the unsigned quotient of words. -/
def execDivwu (rt ra rb : Gpr) (oe rc : Bool) (s : State) : Result :=
  admitted (.divwu rt ra rb oe rc) s <|
    if lowWord (s.x rb) = 0 then undefinedInto rt oe rc s
    else wordInto rt (quotUnsigned (lowWord (s.x ra)) (lowWord (s.x rb))) oe false rc s

/-- `cmpi` (42 R400): compare with SI, signed. -/
def execCmpi (bf : CrField) (l : Bool) (ra : Gpr) (si : BitVec 16) (s : State) : Result :=
  admitted (.cmpi bf l ra si) s <|
    compareSignedBy bf l (s.x ra) (simm si) s

/-- `cmp` (42 R401): compare two registers, signed. -/
def execCmp (bf : CrField) (l : Bool) (ra rb : Gpr) (s : State) : Result :=
  admitted (.cmp bf l ra rb) s <|
    compareSignedBy bf l (s.x ra) (s.x rb) s

/-- `cmpli` (42 R402): compare with UI, unsigned. -/
def execCmpli (bf : CrField) (l : Bool) (ra : Gpr) (ui : BitVec 16) (s : State) : Result :=
  admitted (.cmpli bf l ra ui) s <|
    compareUnsignedBy bf l (s.x ra) (uimm ui) s

/-- `cmpl` (42 R403): compare two registers, unsigned. -/
def execCmpl (bf : CrField) (l : Bool) (ra rb : Gpr) (s : State) : Result :=
  admitted (.cmpl bf l ra rb) s <|
    compareUnsignedBy bf l (s.x ra) (s.x rb) s

/-- `tdi` (42 R405): trap on a doubleword and SI. -/
def execTdi (cond : BitVec 5) (ra : Gpr) (si : BitVec 16) (s : State) : Result :=
  admitted (.tdi cond ra si) s <|
    trapIf (trapTaken cond (s.x ra) (simm si)) s

/-- `twi` (42 R406): trap on a word and SI. -/
def execTwi (cond : BitVec 5) (ra : Gpr) (si : BitVec 16) (s : State) : Result :=
  admitted (.twi cond ra si) s <|
    trapIf (trapTaken cond (lowWord (s.x ra)) (lowWord (simm si))) s

/-- `td` (42 R407): trap on two doublewords. -/
def execTd (cond : BitVec 5) (ra rb : Gpr) (s : State) : Result :=
  admitted (.td cond ra rb) s <|
    trapIf (trapTaken cond (s.x ra) (s.x rb)) s

/-- `tw` (42 R408): trap on two words. -/
def execTw (cond : BitVec 5) (ra rb : Gpr) (s : State) : Result :=
  admitted (.tw cond ra rb) s <|
    trapIf (trapTaken cond (lowWord (s.x ra)) (lowWord (s.x rb))) s

end Sys2Proof.Machine
end

