-- ==== Sys2Proof/Machine/Branch.lean ====
section
/-! DEFINITION. Branches, System Call and the Condition Register instructions (40_branch.md). -/

namespace Sys2Proof.Machine

/-- The conditional-branch test (40_branch.md R251): the CTR after it, and whether the branch is taken. -/
def branchTest (s : State) (bo : BitVec 5) (bi : CrBit) : Dword × Bool :=
  let ctr := if bit bo 2 then s.narrow s.ctr else s.narrow (s.narrow s.ctr - 1)
  let tested := if s.mode64 then ctr else zext (lowWord ctr)
  let ctrOk := bit bo 2 || ((tested != 0) != bit bo 3)
  let condOk := bit bo 0 || s.crBit bi == bit bo 1
  (ctr, ctrOk && condOk)

/-- `LR <- iea(pc + 4)` if `LK = 1` (R250). -/
def State.link (s : State) (lk : Bool) : State := if lk then { s with lr := s.nextPc } else s

/-- A relative or absolute branch target (R252, R253). -/
def branchTarget (s : State) (aa : Bool) (d : Dword) : Dword := if aa then d else s.pc + d

/-- An unconditional or conditional branch: the link, then the target or the next instruction (R250). -/
def branchTo (s : State) (lk taken : Bool) (target : Dword) : Result :=
  let s' := s.link lk
  .next (if taken then s'.goTo target else s'.advance)

/-- A branch that tests and may decrement CTR (R251). -/
def branchConditional (s : State) (bo : BitVec 5) (bi : CrBit) (lk : Bool) (target : Dword) : Result :=
  branchTo { s with ctr := if bit bo 2 then s.ctr else (branchTest s bo bi).1 } lk (branchTest s bo bi).2 target

/-- A Condition Register logical instruction: one bit computed from two (R257 to R264). -/
def crLogic (s : State) (op : Bool → Bool → Bool) (bt ba bb : CrBit) : Result :=
  completed { s with cr := withBit s.cr bt.toNat (op (s.crBit ba) (s.crBit bb)) }

/-- `b` (40 R252): branch to `pc + LI` or `LI`. -/
def execB (li : BitVec 24) (aa lk : Bool) (s : State) : Result :=
  admitted (.b li aa lk) s <|
    branchTo s lk true (branchTarget s aa (liImm li))

/-- `bc` (40 R253): branch on CTR and a CR bit to `pc + BD` or `BD`. -/
def execBc (bo : BitVec 5) (bi : CrBit) (bd : BitVec 14) (aa lk : Bool) (s : State) : Result :=
  admitted (.bc bo bi bd aa lk) s <|
    branchConditional s bo bi lk (branchTarget s aa (bdImm bd))

/-- `bclr` (40 R254): branch on CTR and a CR bit to the old LR. -/
def execBclr (bo : BitVec 5) (bi : CrBit) (lk : Bool) (s : State) : Result :=
  admitted (.bclr bo bi lk) s <|
    branchConditional s bo bi lk (s.narrow s.lr)

/-- `bcctr` (40 R255): branch on a CR bit to CTR, which does not change. -/
def execBcctr (bo : BitVec 5) (bi : CrBit) (lk : Bool) (s : State) : Result :=
  admitted (.bcctr bo bi lk) s <|
    branchTo s lk (bit bo 0 || s.crBit bi == bit bo 1) (s.narrow s.ctr)

/-- `sc` (40 R256): take the System Call interrupt (60_exceptions.md R720). -/
def execSc (s : State) : Result :=
  admitted .sc s <|
    interrupt .systemCall s

/-- `crand` (40 R257): CR bit BT becomes the AND of bits BA and BB. -/
def execCrand (bt ba bb : CrBit) (s : State) : Result :=
  admitted (.crand bt ba bb) s <|
    crLogic s (fun a b => a && b) bt ba bb

/-- `cror` (40 R258): CR bit BT becomes the OR of bits BA and BB. -/
def execCror (bt ba bb : CrBit) (s : State) : Result :=
  admitted (.cror bt ba bb) s <|
    crLogic s (fun a b => a || b) bt ba bb

/-- `crxor` (40 R259): CR bit BT becomes the XOR of bits BA and BB. -/
def execCrxor (bt ba bb : CrBit) (s : State) : Result :=
  admitted (.crxor bt ba bb) s <|
    crLogic s (fun a b => a != b) bt ba bb

/-- `crnand` (40 R260): CR bit BT becomes the NAND of bits BA and BB. -/
def execCrnand (bt ba bb : CrBit) (s : State) : Result :=
  admitted (.crnand bt ba bb) s <|
    crLogic s (fun a b => !(a && b)) bt ba bb

/-- `crnor` (40 R261): CR bit BT becomes the NOR of bits BA and BB. -/
def execCrnor (bt ba bb : CrBit) (s : State) : Result :=
  admitted (.crnor bt ba bb) s <|
    crLogic s (fun a b => !(a || b)) bt ba bb

/-- `creqv` (40 R262): CR bit BT becomes the equivalence of bits BA and BB. -/
def execCreqv (bt ba bb : CrBit) (s : State) : Result :=
  admitted (.creqv bt ba bb) s <|
    crLogic s (fun a b => a == b) bt ba bb

/-- `crandc` (40 R263): CR bit BT becomes the AND with complement of bits BA and BB. -/
def execCrandc (bt ba bb : CrBit) (s : State) : Result :=
  admitted (.crandc bt ba bb) s <|
    crLogic s (fun a b => a && !b) bt ba bb

/-- `crorc` (40 R264): CR bit BT becomes the OR with complement of bits BA and BB. -/
def execCrorc (bt ba bb : CrBit) (s : State) : Result :=
  admitted (.crorc bt ba bb) s <|
    crLogic s (fun a b => a || !b) bt ba bb

/-- `mcrf` (40 R265): CR field BF becomes a copy of field BFA. -/
def execMcrf (bf bfa : CrField) (s : State) : Result :=
  admitted (.mcrf bf bfa) s <|
    completed (s.setCrField bf (s.crField bfa))

end Sys2Proof.Machine
end

