-- ==== Sys2Proof/Machine/FloatModel.lean ====
section
/-! DEFINITION. The floating-point model (45_float_arith.md R550 to R559): the formats, exact values, rounding, the
FPSCR, and the common procedure `FPArith` of R558. Exact values are integers times powers of two, so nothing is
approximated before the one rounding. -/

namespace Sys2Proof.Machine

/-! ## The FPSCR (10_state.md R37 to R39) -/

/-- overflow -/
def fpOX : Word := oneBit 32 3
/-- underflow -/
def fpUX : Word := oneBit 32 4
/-- zero divide -/
def fpZX : Word := oneBit 32 5
/-- inexact -/
def fpXX : Word := oneBit 32 6
/-- signalling NaN -/
def fpVXSNAN : Word := oneBit 32 7
/-- infinity minus infinity -/
def fpVXISI : Word := oneBit 32 8
/-- infinity divided by infinity -/
def fpVXIDI : Word := oneBit 32 9
/-- zero divided by zero -/
def fpVXZDZ : Word := oneBit 32 10
/-- infinity times zero -/
def fpVXIMZ : Word := oneBit 32 11
/-- invalid compare -/
def fpVXVC : Word := oneBit 32 12
/-- square root of a negative operand -/
def fpVXSQRT : Word := oneBit 32 22
/-- invalid integer convert -/
def fpVXCVI : Word := oneBit 32 23

/-- The exception bits 3:12 and 21:23 (R38). -/
def fpExceptionBits : Word := 0x1FF80700

/-- The nine VX bits 7:12 and 21:23. -/
def fpInvalidBits : Word := 0x01F80700

/-- The FPSCR with its reserved bit as the implementation has it (R58; 46 R602; log 11) and its summary bits VX and FEX
recomputed (R38). -/
def fpscrSummed (c : Config) (v : Word) : Word :=
  let vx := v &&& fpInvalidBits != 0
  let fex := (vx && bit v 24) || (bit v 3 && bit v 25) || (bit v 4 && bit v 26) || (bit v 5 && bit v 27)
    || (bit v 6 && bit v 28)
  withBit (withBit (withBit v 20 (c.fpscrCopy && bit v 20)) 2 vx) 1 fex

/-- The FPSCR after the exceptions `exc` are recorded: sticky, with FX set if one of them went from 0 to 1 (R38). -/
def fpscrRaised (v exc : Word) : Word := withBit (v ||| exc) 0 (bit v 0 || exc &&& ~~~ v != 0)

/-- FR and FI replaced. -/
def fpscrRounded (v : Word) (fr fi : Bool) : Word := withBit (withBit v 13 fr) 14 fi

/-- FPRF replaced, if there is a new class. -/
def fpscrClassed (v : Word) (fprf : Option (BitVec 5)) : Word :=
  match fprf with
  | some c => withSlice v 15 c
  | none => v

/-- `FPSCR_VE`. -/
def fpVE (v : Word) : Bool := bit v 24
/-- `FPSCR_OE`. -/
def fpOE (v : Word) : Bool := bit v 25
/-- `FPSCR_UE`. -/
def fpUE (v : Word) : Bool := bit v 26
/-- `FPSCR_ZE`. -/
def fpZE (v : Word) : Bool := bit v 27
/-- `FPSCR_RN`. -/
def fpRN (v : Word) : BitVec 2 := slice v 30 2

/-- The state with a new FPSCR, its summary bits recomputed. -/
def State.withFpscr (s : State) (v : Word) : State := { s with fpscr := fpscrSummed s.cfg v }

/-- `CR[4:7] <- FPSCR[0:3]` if `rc` (45 R559). -/
def State.recordFp (s : State) (rc : Bool) : State := if rc then s.setCrField 1 (slice s.fpscr 0 4) else s

/-- `(MSR_FE0 | MSR_FE1) & FPSCR_FEX` (45 R556). -/
def State.fpEnabledException (s : State) : Bool := (s.msrBit msrFE0 || s.msrBit msrFE1) && bit s.fpscr 1

/-- Steps 5 and 6 of R558: CR1, then the Program interrupt or the next instruction. -/
def fpFinish (rc : Bool) (s : State) : Result :=
  let s' := s.recordFp rc
  if s'.fpEnabledException then interrupt (.program .fpEnabled) s' else completed s'

/-! ## Formats and values (R550, R551) -/

/-- The value of a 64-bit pattern. A finite non-zero value is `mag * 2^exp`, negative if `neg`. -/
inductive FpValue where
  | nan (signalling : Bool)
  | inf (neg : Bool)
  | zero (neg : Bool)
  | finite (neg : Bool) (mag : Nat) (exp : Int)
deriving DecidableEq, Repr

/-- The biased exponent field. -/
def fpExponent (d : Dword) : Nat := (slice d 1 11).toNat

/-- The fraction field. -/
def fpFraction (d : Dword) : Nat := (slice d 12 52).toNat

/-- The class and value of a double (R550). -/
def fpValue (d : Dword) : FpValue :=
  let e := fpExponent d
  let f := fpFraction d
  if e = 2047 then (if f = 0 then .inf (bit d 0) else .nan (!bit d 12))
  else if e = 0 then (if f = 0 then .zero (bit d 0) else .finite (bit d 0) f (-1074))
  else .finite (bit d 0) (2 ^ 52 + f) ((e : Int) - 1075)

/-- Is the value a NaN? -/
def FpValue.isNan : FpValue → Bool
  | .nan _ => true
  | _ => false

/-- Is the value a signalling NaN? -/
def FpValue.isSnan : FpValue → Bool
  | .nan q => q
  | _ => false

/-- Is the value an infinity? -/
def FpValue.isInf : FpValue → Bool
  | .inf _ => true
  | _ => false

/-- Is the value a zero? -/
def FpValue.isZero : FpValue → Bool
  | .zero _ => true
  | _ => false

/-- The value with the opposite sign. -/
def FpValue.negated : FpValue → FpValue
  | .nan q => .nan q
  | .inf s => .inf (!s)
  | .zero s => .zero (!s)
  | .finite s m e => .finite (!s) m e

/-- A target precision (R553): significant bits, smallest exponent, largest exponent, and the bias adjust `β` of R555. -/
structure Precision where
  bits : Nat
  emin : Int
  emax : Int
  adjust : Int
  /-- the largest finite magnitude, in double format -/
  max : Dword
deriving DecidableEq, Repr

/-- Double precision. -/
def Precision.double : Precision :=
  { bits := 53, emin := -1022, emax := 1023, adjust := 1536, max := 0x7FEFFFFFFFFFFFFF }

/-- Single precision. -/
def Precision.single : Precision :=
  { bits := 24, emin := -126, emax := 127, adjust := 192, max := 0x47EFFFFFE0000000 }

/-- A double pattern from its sign and its lower 63 bits. -/
def fpSigned (neg : Bool) (d : Dword) : Dword := withBit d 0 neg

/-- An infinity. -/
def fpInf (neg : Bool) : Dword := fpSigned neg 0x7FF0000000000000

/-- The generated QNaN (R557). -/
def fpQnan : Dword := 0x7FF8000000000000

/-- The double pattern of `mag * 2^exp`; exact whenever the value has a double representation. -/
def fpPack (neg : Bool) (mag : Nat) (exp : Int) : Dword :=
  if mag = 0 then fpSigned neg 0
  else
    let top := exp + mag.log2
    if top < -1022 then fpSigned neg (BitVec.ofNat 64 (mag * 2 ^ (exp + 1074).toNat))
    else
      let frac := if 52 ≤ mag.log2 then mag / 2 ^ (mag.log2 - 52) else mag * 2 ^ (52 - mag.log2)
      fpSigned neg (BitVec.ofNat 64 ((top + 1022).toNat * 2 ^ 52 + frac))

/-- FPRF codes of R39: a normalized number. -/
def fprfNormal (neg : Bool) : BitVec 5 := if neg then 0b01000 else 0b00100

/-- FPRF of a finite value of magnitude `mag * 2^exp`, taken with respect to the precision (R552). -/
def fprfFinite (p : Precision) (neg : Bool) (mag : Nat) (exp : Int) : BitVec 5 :=
  if mag = 0 then (if neg then 0b10010 else 0b00010)
  else if exp + mag.log2 < p.emin then (if neg then 0b11000 else 0b10100)
  else fprfNormal neg

/-- FPRF of an infinity. -/
def fprfInf (neg : Bool) : BitVec 5 := if neg then 0b01001 else 0b00101

/-- FPRF of a QNaN. -/
def fprfQnan : BitVec 5 := 0b10001

/-! ## Rounding (R553) -/

/-- A rounded magnitude `mag * 2^exp` with FR and FI. -/
structure Rounded where
  mag : Nat
  exp : Int
  fr : Bool
  fi : Bool
deriving DecidableEq, Repr

/-- Does rounding go up, with `odd` the last kept bit, the part dropped `rest` of a unit of `unit` (R553, 46 R600)? -/
def roundsUp (rn : BitVec 2) (neg odd : Bool) (rest unit : Nat) : Bool :=
  rest != 0 &&
    if rn = 0 then decide (unit < 2 * rest) || (decide (2 * rest = unit) && odd)
    else if rn = 1 then false
    else if rn = 2 then !neg
    else neg

/-- The magnitude `mag * 2^exp` rounded to a multiple of `2^ulp`. -/
def roundAt (rn : BitVec 2) (neg : Bool) (mag : Nat) (exp ulp : Int) : Rounded :=
  if ulp ≤ exp then { mag := mag * 2 ^ (exp - ulp).toNat, exp := ulp, fr := false, fi := false }
  else
    let unit := 2 ^ (ulp - exp).toNat
    let low := mag / unit
    let rest := mag % unit
    let up := roundsUp rn neg (low % 2 == 1) rest unit
    { mag := if up then low + 1 else low, exp := ulp, fr := up, fi := rest != 0 }

/-- `Round` with unbounded exponent range. -/
def roundUnbounded (p : Precision) (rn : BitVec 2) (neg : Bool) (mag : Nat) (exp : Int) : Rounded :=
  roundAt rn neg mag exp (exp + mag.log2 - p.bits + 1)

/-- `Round` with `E' = max(E, Emin)`: a tiny value is denormalized before it is rounded. -/
def roundBounded (p : Precision) (rn : BitVec 2) (neg : Bool) (mag : Nat) (exp : Int) : Rounded :=
  roundAt rn neg mag exp (max (exp + mag.log2) p.emin - p.bits + 1)

/-- Where an exact value lies (steps 3a to 3c of R558). -/
inductive FpRange where
  | overflow
  | tiny
  | inRange
deriving DecidableEq, Repr

/-- Overflow is decided after, tininess before rounding (R554). -/
def fpRange (p : Precision) (rn : BitVec 2) (neg : Bool) (mag : Nat) (exp : Int) : FpRange :=
  let r := roundUnbounded p rn neg mag exp
  if p.emax < r.exp + r.mag.log2 then .overflow else if exp + mag.log2 < p.emin then .tiny else .inRange

/-! ## Results -/

/-- What an instruction delivers: FRT (none: not written), FPRF (none: not changed), the exceptions it raises, FR, FI. -/
structure FpResult where
  value : Option Dword
  fprf : Option (BitVec 5)
  exceptions : Word
  fr : Bool
  fi : Bool
deriving DecidableEq, Repr

/-- An exact special result without exception: `FR` and `FI` are 0 (steps 1c and 1e). -/
def fpExactResult (d : Dword) (fprf : BitVec 5) : FpResult :=
  { value := some d, fprf := some fprf, exceptions := 0, fr := false, fi := false }

/-- Invalid Operation (R555 a): the QNaN `d`, or no result if `VE = 1`. -/
def fpInvalid (fpscr exc : Word) (d : Dword) : FpResult :=
  if fpVE fpscr then { value := none, fprf := none, exceptions := exc, fr := false, fi := false }
  else { value := some d, fprf := some fprfQnan, exceptions := exc, fr := false, fi := false }

/-- Zero Divide (R555 b): an infinity, or no result if `ZE = 1`. -/
def fpZeroDivide (fpscr : Word) (neg : Bool) : FpResult :=
  if fpZE fpscr then { value := none, fprf := none, exceptions := fpZX, fr := false, fi := false }
  else { value := some (fpInf neg), fprf := some (fprfInf neg), exceptions := fpZX, fr := false, fi := false }

/-- `XX` if the result is inexact. -/
def fpInexact (fi : Bool) : Word := if fi then fpXX else 0

/-- Disabled overflow (R555 c): whether the result is an infinity, by rounding mode and sign. -/
def overflowsToInf (rn : BitVec 2) (neg : Bool) : Bool :=
  if rn = 0 then true else if rn = 1 then false else if rn = 2 then !neg else neg

/-- Step 3 of R558: the exact value `mag * 2^exp`, `mag > 0`, rounded and delivered. `neg` is the sign of the exact
value, `flip` inverts the delivered sign (the negative multiply-add instructions), `free` is the FR a disabled overflow
leaves undefined. -/
def fpDeliver (p : Precision) (fpscr : Word) (free flip neg : Bool) (mag : Nat) (exp : Int) : FpResult :=
  let rn := fpRN fpscr
  let out := neg != flip
  let r := roundUnbounded p rn neg mag exp
  let d := roundBounded p rn neg mag exp
  match fpRange p rn neg mag exp with
  | .overflow =>
    if fpOE fpscr then
      { value := some (fpPack out r.mag (r.exp - p.adjust)), fprf := some (fprfNormal out),
        exceptions := fpOX ||| fpInexact r.fi, fr := r.fr, fi := r.fi }
    else if overflowsToInf rn neg then
      { value := some (fpInf out), fprf := some (fprfInf out), exceptions := fpOX ||| fpXX, fr := free, fi := true }
    else
      { value := some (fpSigned out p.max), fprf := some (fprfNormal out), exceptions := fpOX ||| fpXX,
        fr := free, fi := true }
  | .tiny =>
    if fpUE fpscr then
      { value := some (fpPack out r.mag (r.exp + p.adjust)), fprf := some (fprfNormal out),
        exceptions := fpUX ||| fpInexact r.fi, fr := r.fr, fi := r.fi }
    else
      { value := some (fpPack out d.mag d.exp), fprf := some (fprfFinite p out d.mag d.exp),
        exceptions := (if d.fi then fpUX else 0) ||| fpInexact d.fi, fr := d.fr, fi := d.fi }
  | .inRange =>
    { value := some (fpPack out r.mag r.exp), fprf := some (fprfFinite p out r.mag r.exp),
      exceptions := fpInexact r.fi, fr := r.fr, fi := r.fi }

/-! ## Exact operations -/

/-- What an operation on operands that are no NaN gives before rounding. A `finite` magnitude may carry a lowest sticky
bit that stands for the part below it: it lies more than two bits below every rounding position. -/
inductive FpExact where
  | invalid (vx : Word)
  | zeroDivide (neg : Bool)
  | inf (neg : Bool)
  | zero (neg : Bool)
  | finite (neg : Bool) (mag : Nat) (exp : Int)
deriving DecidableEq, Repr

/-- A value as an exact result. -/
def FpValue.exact : FpValue → FpExact
  | .nan _ => .invalid 0
  | .inf n => .inf n
  | .zero n => .zero n
  | .finite n m e => .finite n m e

/-- The sign of an exact zero sum of operands of opposite sign (R558 step 1e). -/
def zeroSumNegative (rn : BitVec 2) : Bool := rn == 3

/-- The exact sum of two finite non-zero values. -/
def addFinite (rn : BitVec 2) (sa : Bool) (ma : Nat) (ea : Int) (sb : Bool) (mb : Nat) (eb : Int) : FpExact :=
  let e := min ea eb
  let a := ma * 2 ^ (ea - e).toNat
  let b := mb * 2 ^ (eb - e).toNat
  if sa = sb then .finite sa (a + b) e
  else if a = b then .zero (zeroSumNegative rn)
  else if a < b then .finite sb (b - a) e
  else .finite sa (a - b) e

/-- The exact sum (R560). -/
def fpAdd (rn : BitVec 2) (a b : FpValue) : FpExact :=
  match a, b with
  | .nan _, _ => .invalid 0
  | _, .nan _ => .invalid 0
  | .inf x, .inf y => if x = y then .inf x else .invalid fpVXISI
  | .inf x, _ => .inf x
  | _, .inf y => .inf y
  | .zero x, .zero y => .zero (if x = y then x else zeroSumNegative rn)
  | .zero _, v => v.exact
  | v, .zero _ => v.exact
  | .finite sa ma ea, .finite sb mb eb => addFinite rn sa ma ea sb mb eb

/-- The product as a value (R564); `nan` where it is invalid. -/
def productOf (a b : FpValue) : FpValue :=
  match a, b with
  | .nan q, _ => .nan q
  | _, .nan q => .nan q
  | .inf _, .zero _ => .nan false
  | .zero _, .inf _ => .nan false
  | .inf x, .inf y => .inf (x != y)
  | .inf x, .finite y _ _ => .inf (x != y)
  | .finite x _ _, .inf y => .inf (x != y)
  | .zero x, .zero y => .zero (x != y)
  | .zero x, .finite y _ _ => .zero (x != y)
  | .finite x _ _, .zero y => .zero (x != y)
  | .finite x ma ea, .finite y mb eb => .finite (x != y) (ma * mb) (ea + eb)

/-- Is a product infinity times zero? -/
def timesInvalid (a b : FpValue) : Bool := (a.isInf && b.isZero) || (a.isZero && b.isInf)

/-- The exact product (R564). -/
def fpMul (a b : FpValue) : FpExact := if timesInvalid a b then .invalid fpVXIMZ else (productOf a b).exact

/-- The exact `a * c + b` (R568): the product is not rounded. -/
def fpMulAdd (rn : BitVec 2) (a c b : FpValue) : FpExact :=
  if timesInvalid a c then .invalid fpVXIMZ else fpAdd rn (productOf a c) b

/-- A magnitude with a sticky bit below it. -/
def withSticky (neg : Bool) (mag : Nat) (exp : Int) (rest : Bool) : FpExact :=
  .finite neg (2 * mag + rest.toNat) (exp - 1)

/-- The exact quotient of two finite non-zero values, to 128 binary places and a sticky bit. -/
def divFinite (neg : Bool) (ma : Nat) (ea : Int) (mb : Nat) (eb : Int) : FpExact :=
  withSticky neg (ma * 2 ^ 128 / mb) (ea - eb - 128) (ma * 2 ^ 128 % mb != 0)

/-- The exact quotient (R566). -/
def fpDiv (a b : FpValue) : FpExact :=
  match a, b with
  | .nan _, _ => .invalid 0
  | _, .nan _ => .invalid 0
  | .inf _, .inf _ => .invalid fpVXIDI
  | .zero _, .zero _ => .invalid fpVXZDZ
  | .inf x, .zero y => .inf (x != y)
  | .inf x, .finite y _ _ => .inf (x != y)
  | .zero x, .inf y => .zero (x != y)
  | .finite x _ _, .inf y => .zero (x != y)
  | .finite x _ _, .zero y => .zeroDivide (x != y)
  | .zero x, .finite y _ _ => .zero (x != y)
  | .finite x ma ea, .finite y mb eb => divFinite (x != y) ma ea mb eb

/-- The largest `r + t` with `t < 2^k` and `(r + t)^2 ≤ n`, bit by bit. -/
def sqrtFrom (n : Nat) : Nat → Nat → Nat
  | 0, r => r
  | k + 1, r => if (r + 2 ^ k) * (r + 2 ^ k) ≤ n then sqrtFrom n k (r + 2 ^ k) else sqrtFrom n k r

/-- The integer square root of a number below `2^260`. -/
def isqrt (n : Nat) : Nat := sqrtFrom n 130 0

/-- A finite value with an even exponent. -/
def evenExponent (mag : Nat) (exp : Int) : Nat × Int := if exp % 2 = 0 then (mag, exp) else (2 * mag, exp - 1)

/-- The exact square root of a positive finite value, to 64 binary places and a sticky bit. -/
def sqrtFinite (mag : Nat) (exp : Int) : FpExact :=
  let v := evenExponent mag exp
  let n := v.1 * 2 ^ 128
  withSticky false (isqrt n) (v.2 / 2 - 64) (isqrt n * isqrt n != n)

/-- The exact square root (R576). -/
def fpSqrt (a : FpValue) : FpExact :=
  match a with
  | .nan _ => .invalid 0
  | .inf true => .invalid fpVXSQRT
  | .inf false => .inf false
  | .zero x => .zero x
  | .finite true _ _ => .invalid fpVXSQRT
  | .finite false m e => sqrtFinite m e

/-! ## The common procedure (R557, R558) -/

/-- The NaN result (R557): the first NaN among the operands in the order FRA, FRB, FRC, made quiet; else the generated
QNaN. -/
def nanResult : List Dword → Dword
  | [] => fpQnan
  | d :: ds => if (fpValue d).isNan then withBit d 12 true else nanResult ds

/-- `VXSNAN` if an operand is an SNaN. -/
def snanException (ds : List Dword) : Word := if ds.any fun d => (fpValue d).isSnan then fpVXSNAN else 0

/-- The flip of a sign that is not a NaN's. -/
def fpFlipped (flip : Bool) : FpExact → FpExact
  | .inf n => .inf (n != flip)
  | .zero n => .zero (n != flip)
  | e => e

/-- Steps 1 to 3 of `FPArith` (R558) for operands `ds` in the order FRA, FRB, FRC, whose exact result is `exact` when
none of them is a NaN; `imz` says that the factors are an infinity and a zero. -/
def fpArith (p : Precision) (fpscr : Word) (free flip : Bool) (ds : List Dword) (imz : Bool) (exact : FpExact) :
    FpResult :=
  if ds.any fun d => (fpValue d).isNan then
    let vx := snanException ds ||| (if imz then fpVXIMZ else 0)
    if vx = 0 then fpExactResult (nanResult ds) fprfQnan else fpInvalid fpscr vx (nanResult ds)
  else
    match fpFlipped flip exact with
    | .invalid vx => fpInvalid fpscr vx fpQnan
    | .zeroDivide n => fpZeroDivide fpscr n
    | .inf n => fpExactResult (fpInf n) (fprfInf n)
    | .zero n => fpExactResult (fpSigned n 0) (fprfFinite p n 0 0)
    | .finite n m e => fpDeliver p fpscr free flip n m e

/-- Is a double pattern representable in single format (R551)? -/
def singleRepresentable (d : Dword) : Bool :=
  match fpValue d with
  | .nan _ => slice d 35 29 == 0
  | .inf _ => true
  | .zero _ => true
  | .finite _ m e =>
    let top := e + m.log2
    decide (top ≤ 127) && decide (-149 ≤ top) &&
      decide (m % 2 ^ ((max top (-126)) - 23 - e).toNat = 0)

/-! ## Delivering a result -/

/-- FRT and the FPSCR after a result; step 4 of R558. `single`: the value is written as a single (44 R519). -/
def State.withFpResult (s : State) (frt : Fpr) (single : Bool) (r : FpResult) : State :=
  let s' :=
    match r.value with
    | some d => s.setF frt d single
    | none => s
  s'.withFpscr (fpscrClassed (fpscrRounded (fpscrRaised s.fpscr r.exceptions) r.fr r.fi) r.fprf)

/-- The status bits a single arithmetic instruction leaves undefined when an operand is not a single: FX, the
exception bits, FR, FI and FPRF (R551, log 33). -/
def fpStatusBits : Word := 0x9FFFF700

/-- Steps 3 and 4 of R558 for a result that may have used the free bit: FRT, the FPSCR, and the FPECR where an exception
occurred. -/
def State.delivering (s : State) (frt : Fpr) (single : Bool) (r : FpResult) : State :=
  ((s.withFpResult frt single r).drawn 1).withFpReason (r.exceptions != 0)

/-- An arithmetic instruction with a double result: deliver `r`, which may have used the free bit. -/
def fpDouble (frt : Fpr) (rc : Bool) (r : FpResult) (s : State) : Result :=
  fpFinish rc (s.delivering frt false r)

/-- An arithmetic instruction with a single result: as `fpDouble` where every operand is representable in single
format; else FRT and the status bits are free values (R551), and so is the FPECR. -/
def fpSingle (frt : Fpr) (rc : Bool) (ds : List Dword) (r : FpResult) (s : State) : Result :=
  if ds.all singleRepresentable then fpFinish rc (s.delivering frt true r)
  else
    fpFinish rc
      (((s.setF frt (s.free 0) true).withFpscr (merge fpStatusBits (lowWord (s.free 1)) s.fpscr)).drawn 2
        |>.withFpReason true)

/-- The free bit an arithmetic instruction may deliver in FR. -/
def State.freeFr (s : State) : Bool := bit (s.free 0) 0

end Sys2Proof.Machine
end

