-- ==== Sys2Proof/Machine/FloatLoadStore.lean ====
section
/-! DEFINITION. Floating-point loads, stores and moves (44_float_load_store_move.md). -/

namespace Sys2Proof.Machine

/-- Round-off free widening of a single-format word to double format (R501 `DOUBLE`). -/
def doubleOf (w : Word) : Dword :=
  let e := slice w 1 8
  let f := slice w 9 23
  if e = 0#8 ∧ f ≠ 0#23 then fpPack (bit w 0) f.toNat (-149)
  else
    let x := if e = 0#8 ∨ e = 255#8 then bit w 1 else !bit w 1
    slice w 0 2 ++ b1 x ++ b1 x ++ b1 x ++ slice w 2 30 ++ 0#29

/-- The single-format word an FPR is stored as (R501 `SINGLE`); `free` where the spec leaves the word undefined
(log 14). -/
def singleOf (free : Word) (d : Dword) : Word :=
  let e := fpExponent d
  if 896 < e ∨ slice d 1 63 = 0#63 then slice d 0 2 ++ slice d 5 30
  else if 874 ≤ e then
    b1 (bit d 0) ++ 0#8 ++ BitVec.ofNat 23 ((2 ^ 52 + fpFraction d) / 2 ^ (897 - e) / 2 ^ 29)
  else free

/-- `lfs` and its forms (R503). -/
def loadSingle (i : Instr) (frt : Fpr) (ea : Dword) (s : State) : Result :=
  memRead i .other .float ea 4 s fun v => completed (s.setF frt (doubleOf (lowWord v)) true)

/-- `lfsu` and `lfsux` (R505): then `x[RA] <- EA`. -/
def loadSingleUpdate (i : Instr) (frt : Fpr) (ra : Gpr) (ea : Dword) (s : State) : Result :=
  memRead i .update .float ea 4 s fun v => completed ((s.setF frt (doubleOf (lowWord v)) true).setX ra ea)

/-- `lfd` and its forms (R507). -/
def loadDouble (i : Instr) (frt : Fpr) (ea : Dword) (s : State) : Result :=
  memRead i .other .float ea 8 s fun v => completed (s.setF frt v false)

/-- `lfdu` and `lfdux` (R509): then `x[RA] <- EA`. -/
def loadDoubleUpdate (i : Instr) (frt : Fpr) (ra : Gpr) (ea : Dword) (s : State) : Result :=
  memRead i .update .float ea 8 s fun v => completed ((s.setF frt v false).setX ra ea)

/-- The word `stfs` stores. -/
def State.singleWord (s : State) (frs : Fpr) : Dword := zext (singleOf (lowWord (s.free 0)) (s.f frs))

/-- `stfs` and its forms (R511). -/
def storeSingle (i : Instr) (frs : Fpr) (ea : Dword) (s : State) : Result :=
  memWrite i .other .float ea 4 (s.singleWord frs) s fun s' => completed (s'.drawn 1)

/-- `stfsu` and `stfsux` (R513): then `x[RA] <- EA`. -/
def storeSingleUpdate (i : Instr) (frs : Fpr) (ra : Gpr) (ea : Dword) (s : State) : Result :=
  memWrite i .update .float ea 4 (s.singleWord frs) s fun s' => completed ((s'.setX ra ea).drawn 1)

/-- `stfd` and its forms (R515). -/
def storeDouble (i : Instr) (frs : Fpr) (ea : Dword) (s : State) : Result :=
  memWrite i .other .float ea 8 (s.f frs) s fun s' => completed s'

/-- `stfdu` and `stfdux` (R517): then `x[RA] <- EA`. -/
def storeDoubleUpdate (i : Instr) (frs : Fpr) (ra : Gpr) (ea : Dword) (s : State) : Result :=
  memWrite i .update .float ea 8 (s.f frs) s fun s' => completed (s'.setX ra ea)

/-- The word `stfiwx` stores: undefined if the FPR was last written as a single (R519, log 15). -/
def State.integerWord (s : State) (frs : Fpr) : Dword := if s.fSingle frs then s.free 0 else s.f frs

/-- `stfiwx` (R519). -/
def storeInteger (i : Instr) (frs : Fpr) (ea : Dword) (s : State) : Result :=
  memWrite i .other .float ea 4 (s.integerWord frs) s fun s' => completed (s'.drawn 1)

/-- A floating-point move (R520 to R523): the pattern, the provenance of FRB, and CR1. The FPSCR does not change. -/
def moveFp (frt frb : Fpr) (rc : Bool) (d : Dword) (s : State) : Result :=
  completed ((s.setF frt d (s.fSingle frb)).recordFp rc)

/-- `lfs` (44 R503): load a single, converted to double format. -/
def execLfs (frt : Fpr) (d : BitVec 16) (ra : Gpr) (s : State) : Result :=
  admitted (.lfs frt d ra) s <|
    loadSingle (.lfs frt d ra) frt (eaD s ra d) s

/-- `lfsx` (44 R504): load a single, converted to double format. -/
def execLfsx (frt : Fpr) (ra rb : Gpr) (s : State) : Result :=
  admitted (.lfsx frt ra rb) s <|
    loadSingle (.lfsx frt ra rb) frt (eaX s ra rb) s

/-- `lfsu` (44 R505): load a single, converted to double format; RA receives the address. -/
def execLfsu (frt : Fpr) (d : BitVec 16) (ra : Gpr) (s : State) : Result :=
  admitted (.lfsu frt d ra) s <|
    loadSingleUpdate (.lfsu frt d ra) frt ra (eaDU s ra d) s

/-- `lfsux` (44 R506): load a single, converted to double format; RA receives the address. -/
def execLfsux (frt : Fpr) (ra rb : Gpr) (s : State) : Result :=
  admitted (.lfsux frt ra rb) s <|
    loadSingleUpdate (.lfsux frt ra rb) frt ra (eaXU s ra rb) s

/-- `lfd` (44 R507): load a double. -/
def execLfd (frt : Fpr) (d : BitVec 16) (ra : Gpr) (s : State) : Result :=
  admitted (.lfd frt d ra) s <|
    loadDouble (.lfd frt d ra) frt (eaD s ra d) s

/-- `lfdx` (44 R508): load a double. -/
def execLfdx (frt : Fpr) (ra rb : Gpr) (s : State) : Result :=
  admitted (.lfdx frt ra rb) s <|
    loadDouble (.lfdx frt ra rb) frt (eaX s ra rb) s

/-- `lfdu` (44 R509): load a double; RA receives the address. -/
def execLfdu (frt : Fpr) (d : BitVec 16) (ra : Gpr) (s : State) : Result :=
  admitted (.lfdu frt d ra) s <|
    loadDoubleUpdate (.lfdu frt d ra) frt ra (eaDU s ra d) s

/-- `lfdux` (44 R510): load a double; RA receives the address. -/
def execLfdux (frt : Fpr) (ra rb : Gpr) (s : State) : Result :=
  admitted (.lfdux frt ra rb) s <|
    loadDoubleUpdate (.lfdux frt ra rb) frt ra (eaXU s ra rb) s

/-- `stfs` (44 R511): store FRS converted to single format. -/
def execStfs (frs : Fpr) (d : BitVec 16) (ra : Gpr) (s : State) : Result :=
  admitted (.stfs frs d ra) s <|
    storeSingle (.stfs frs d ra) frs (eaD s ra d) s

/-- `stfsx` (44 R512): store FRS converted to single format. -/
def execStfsx (frs : Fpr) (ra rb : Gpr) (s : State) : Result :=
  admitted (.stfsx frs ra rb) s <|
    storeSingle (.stfsx frs ra rb) frs (eaX s ra rb) s

/-- `stfsu` (44 R513): store FRS converted to single format; RA receives the address. -/
def execStfsu (frs : Fpr) (d : BitVec 16) (ra : Gpr) (s : State) : Result :=
  admitted (.stfsu frs d ra) s <|
    storeSingleUpdate (.stfsu frs d ra) frs ra (eaDU s ra d) s

/-- `stfsux` (44 R514): store FRS converted to single format; RA receives the address. -/
def execStfsux (frs : Fpr) (ra rb : Gpr) (s : State) : Result :=
  admitted (.stfsux frs ra rb) s <|
    storeSingleUpdate (.stfsux frs ra rb) frs ra (eaXU s ra rb) s

/-- `stfd` (44 R515): store FRS. -/
def execStfd (frs : Fpr) (d : BitVec 16) (ra : Gpr) (s : State) : Result :=
  admitted (.stfd frs d ra) s <|
    storeDouble (.stfd frs d ra) frs (eaD s ra d) s

/-- `stfdx` (44 R516): store FRS. -/
def execStfdx (frs : Fpr) (ra rb : Gpr) (s : State) : Result :=
  admitted (.stfdx frs ra rb) s <|
    storeDouble (.stfdx frs ra rb) frs (eaX s ra rb) s

/-- `stfdu` (44 R517): store FRS; RA receives the address. -/
def execStfdu (frs : Fpr) (d : BitVec 16) (ra : Gpr) (s : State) : Result :=
  admitted (.stfdu frs d ra) s <|
    storeDoubleUpdate (.stfdu frs d ra) frs ra (eaDU s ra d) s

/-- `stfdux` (44 R518): store FRS; RA receives the address. -/
def execStfdux (frs : Fpr) (ra rb : Gpr) (s : State) : Result :=
  admitted (.stfdux frs ra rb) s <|
    storeDoubleUpdate (.stfdux frs ra rb) frs ra (eaXU s ra rb) s

/-- `stfiwx` (44 R519): store the low-order word of FRS without conversion. -/
def execStfiwx (frs : Fpr) (ra rb : Gpr) (s : State) : Result :=
  admitted (.stfiwx frs ra rb) s <|
    storeInteger (.stfiwx frs ra rb) frs (eaX s ra rb) s

/-- `fmr` (44 R520): copy. -/
def execFmr (frt frb : Fpr) (rc : Bool) (s : State) : Result :=
  admitted (.fmr frt frb rc) s <|
    moveFp frt frb rc (s.f frb) s

/-- `fneg` (44 R521): copy with the sign inverted. -/
def execFneg (frt frb : Fpr) (rc : Bool) (s : State) : Result :=
  admitted (.fneg frt frb rc) s <|
    moveFp frt frb rc (withBit (s.f frb) 0 (!bit (s.f frb) 0)) s

/-- `fabs` (44 R522): copy with sign 0. -/
def execFabs (frt frb : Fpr) (rc : Bool) (s : State) : Result :=
  admitted (.fabs frt frb rc) s <|
    moveFp frt frb rc (withBit (s.f frb) 0 false) s

/-- `fnabs` (44 R523): copy with sign 1. -/
def execFnabs (frt frb : Fpr) (rc : Bool) (s : State) : Result :=
  admitted (.fnabs frt frb rc) s <|
    moveFp frt frb rc (withBit (s.f frb) 0 true) s

end Sys2Proof.Machine
end

