-- ==== Sys2Proof/Machine/FloatArith.lean ====
section
/-! DEFINITION. Floating-point arithmetic (45_float_arith.md R560 to R580). -/

namespace Sys2Proof.Machine

/-- `a + b`, `a - b`, `a * b` or `a / b`: which exact operation a two-operand instruction does. -/
inductive FpOp2 where
  | add
  | sub
  | mul
  | div
deriving DecidableEq, Repr

/-- The exact result of a two-operand operation. -/
def FpOp2.exact (op : FpOp2) (rn : BitVec 2) (a b : FpValue) : FpExact :=
  match op with
  | .add => fpAdd rn a b
  | .sub => fpAdd rn a b.negated
  | .mul => fpMul a b
  | .div => fpDiv a b

/-- `FPArith` for a two-operand operation (R560 to R567). -/
def arith2 (p : Precision) (op : FpOp2) (fpscr : Word) (free : Bool) (a b : Dword) : FpResult :=
  fpArith p fpscr free false [a, b] (op == .mul && timesInvalid (fpValue a) (fpValue b))
    (op.exact (fpRN fpscr) (fpValue a) (fpValue b))

/-- `FPArith` for a multiply-add (R568 to R575): `minus` subtracts FRB, `flip` inverts the rounded result. -/
def arith3 (p : Precision) (minus flip : Bool) (fpscr : Word) (free : Bool) (a c b : Dword) : FpResult :=
  fpArith p fpscr free flip [a, b, c] (timesInvalid (fpValue a) (fpValue c))
    (fpMulAdd (fpRN fpscr) (fpValue a) (fpValue c) (if minus then (fpValue b).negated else fpValue b))

/-- `FPArith` for the square root (R576). -/
def arithSqrt (p : Precision) (fpscr : Word) (free : Bool) (b : Dword) : FpResult :=
  fpArith p fpscr free false [b] false (fpSqrt (fpValue b))

/-- Is `lo * u ≤ den * v ≤ hi * u` for `v / u = mag * 2^exp`? -/
def scaledBetween (lo hi den mag : Nat) (exp : Int) : Bool :=
  decide (lo * 2 ^ (-exp).toNat ≤ den * mag * 2 ^ exp.toNat)
    && decide (den * mag * 2 ^ exp.toNat ≤ hi * 2 ^ (-exp).toNat)

/-- Is `c * x` within one part in 256 of 1 (R578)? -/
def fresAccurate (c x : FpValue) : Bool :=
  match c, x with
  | .finite nc mc ec, .finite nx mx ex => nc == nx && scaledBetween 255 257 256 (mc * mx) (ec + ex)
  | _, _ => false

/-- The result of `fres` for a finite non-zero operand whose reciprocal `exact`, correctly rounded, is delivered as `r`,
with the implementation's estimate `c` in its place where it is admissible (R578, log 13): accurate, 24 significant
bits, and representable in single format unless an enabled overflow or underflow adjusts the exponent. -/
def fresEstimated (fpscr : Word) (exact : FpExact) (c x : Dword) (r : FpResult) : FpResult :=
  match exact, fpValue c with
  | .finite n m e, .finite _ mc ec =>
    let q := fpRange .single (fpRN fpscr) n m e
    let adjust : Int :=
      if q = .overflow then -Precision.single.adjust
      else if q = .tiny ∧ fpUE fpscr then Precision.single.adjust else 0
    if !fresAccurate (fpValue c) (fpValue x) || (q == .overflow && !fpOE fpscr) || slice c 35 29 != 0
        || (adjust == 0 && !singleRepresentable c) then r
    else
      { r with
        value := some (fpPack n mc (ec + adjust))
        fprf := some (if adjust = 0 then fprfFinite .single n mc ec else fprfNormal n) }
  | _, _ => r

/-- `fres` (R578): specials and exceptions as the division `1 / x`, but never Inexact; FR and FI are free. -/
def arithRes (fpscr : Word) (freeFr freeFi : Bool) (b : Dword) : FpResult :=
  let exact := fpDiv (.finite false 1 0) (fpValue b)
  let r := fpArith .single fpscr freeFr false [b] false exact
  let r' := fresEstimated fpscr exact (Config.fresEst b) b r
  { r' with exceptions := r'.exceptions &&& ~~~ fpXX, fr := freeFr, fi := freeFi }

/-- Is `c` within one part in 32 of `1 / √x` (R579)? -/
def frsqrteAccurate (c x : FpValue) : Bool :=
  match c, x with
  | .finite false mc ec, .finite false mx ex => scaledBetween 961 1089 1024 (mc * mc * mx) (2 * ec + ex)
  | _, _ => false

/-- The exact reciprocal square root of a positive finite value: 128 binary places of `√(1 / mag)` and a sticky bit. -/
def rsqrtFinite (mag : Nat) (exp : Int) : FpExact :=
  let v := evenExponent mag exp
  let n := 2 ^ 256 / v.1
  withSticky false (isqrt n) (-(v.2 / 2) - 128) (isqrt n * isqrt n * v.1 != 2 ^ 256)

/-- The exact reciprocal square root (R579). -/
def fpRsqrt (a : FpValue) : FpExact :=
  match a with
  | .nan _ => .invalid 0
  | .inf true => .invalid fpVXSQRT
  | .inf false => .zero false
  | .zero n => .zeroDivide n
  | .finite true _ _ => .invalid fpVXSQRT
  | .finite false m e => rsqrtFinite m e

/-- The result of `frsqrte`, with the implementation's estimate where it is accurate (R579, log 13). -/
def frsqrteEstimated (c x : Dword) (r : FpResult) : FpResult :=
  match frsqrteAccurate (fpValue c) (fpValue x), fpValue c with
  | true, .finite n mc ec => { r with value := some c, fprf := some (fprfFinite .double n mc ec) }
  | _, _ => r

/-- `frsqrte` (R579): never Inexact; FR and FI are free. -/
def arithRsqrte (fpscr : Word) (freeFr freeFi : Bool) (b : Dword) : FpResult :=
  let r := fpArith .double fpscr freeFr false [b] false (fpRsqrt (fpValue b))
  let r' := frsqrteEstimated (Config.frsqrteEst b) b r
  { r' with exceptions := r'.exceptions &&& ~~~ fpXX, fr := freeFr, fi := freeFi }

/-- The second free bit an estimate delivers, in FI. -/
def State.freeFi (s : State) : Bool := bit (s.free 0) 1

/-- Is the operand of `fsel` at least zero, and no NaN (R580)? -/
def fselTakesC (a : Dword) : Bool := slice a 1 63 == 0 || (!bit a 0 && !(fpValue a).isNan)

/-- `fsel` (R580): 64 bits copied, no FPSCR change. -/
def selectFp (frt : Fpr) (rc : Bool) (d : Dword) (s : State) : Result := completed ((s.setF frt d false).recordFp rc)

/-- `fadd` (45 R560): sum, double. -/
def execFadd (frt fra frb : Fpr) (rc : Bool) (s : State) : Result :=
  admitted (.fadd frt fra frb rc) s <|
    fpDouble frt rc (arith2 .double .add s.fpscr s.freeFr (s.f fra) (s.f frb)) s

/-- `fadds` (45 R561): sum, single. -/
def execFadds (frt fra frb : Fpr) (rc : Bool) (s : State) : Result :=
  admitted (.fadds frt fra frb rc) s <|
    fpSingle frt rc [s.f fra, s.f frb] (arith2 .single .add s.fpscr s.freeFr (s.f fra) (s.f frb)) s

/-- `fsub` (45 R562): difference, double. -/
def execFsub (frt fra frb : Fpr) (rc : Bool) (s : State) : Result :=
  admitted (.fsub frt fra frb rc) s <|
    fpDouble frt rc (arith2 .double .sub s.fpscr s.freeFr (s.f fra) (s.f frb)) s

/-- `fsubs` (45 R563): difference, single. -/
def execFsubs (frt fra frb : Fpr) (rc : Bool) (s : State) : Result :=
  admitted (.fsubs frt fra frb rc) s <|
    fpSingle frt rc [s.f fra, s.f frb] (arith2 .single .sub s.fpscr s.freeFr (s.f fra) (s.f frb)) s

/-- `fmul` (45 R564): product, double. -/
def execFmul (frt fra frc : Fpr) (rc : Bool) (s : State) : Result :=
  admitted (.fmul frt fra frc rc) s <|
    fpDouble frt rc (arith2 .double .mul s.fpscr s.freeFr (s.f fra) (s.f frc)) s

/-- `fmuls` (45 R565): product, single. -/
def execFmuls (frt fra frc : Fpr) (rc : Bool) (s : State) : Result :=
  admitted (.fmuls frt fra frc rc) s <|
    fpSingle frt rc [s.f fra, s.f frc] (arith2 .single .mul s.fpscr s.freeFr (s.f fra) (s.f frc)) s

/-- `fdiv` (45 R566): quotient, double. -/
def execFdiv (frt fra frb : Fpr) (rc : Bool) (s : State) : Result :=
  admitted (.fdiv frt fra frb rc) s <|
    fpDouble frt rc (arith2 .double .div s.fpscr s.freeFr (s.f fra) (s.f frb)) s

/-- `fdivs` (45 R567): quotient, single. -/
def execFdivs (frt fra frb : Fpr) (rc : Bool) (s : State) : Result :=
  admitted (.fdivs frt fra frb rc) s <|
    fpSingle frt rc [s.f fra, s.f frb] (arith2 .single .div s.fpscr s.freeFr (s.f fra) (s.f frb)) s

/-- `fmadd` (45 R568): `FRA * FRC + FRB`, double. -/
def execFmadd (frt fra frc frb : Fpr) (rc : Bool) (s : State) : Result :=
  admitted (.fmadd frt fra frc frb rc) s <|
    fpDouble frt rc (arith3 .double false false s.fpscr s.freeFr (s.f fra) (s.f frc) (s.f frb)) s

/-- `fmadds` (45 R569): `FRA * FRC + FRB`, single. -/
def execFmadds (frt fra frc frb : Fpr) (rc : Bool) (s : State) : Result :=
  admitted (.fmadds frt fra frc frb rc) s <|
    fpSingle frt rc [s.f fra, s.f frb, s.f frc]
      (arith3 .single false false s.fpscr s.freeFr (s.f fra) (s.f frc) (s.f frb)) s

/-- `fmsub` (45 R570): `FRA * FRC - FRB`, double. -/
def execFmsub (frt fra frc frb : Fpr) (rc : Bool) (s : State) : Result :=
  admitted (.fmsub frt fra frc frb rc) s <|
    fpDouble frt rc (arith3 .double true false s.fpscr s.freeFr (s.f fra) (s.f frc) (s.f frb)) s

/-- `fmsubs` (45 R571): `FRA * FRC - FRB`, single. -/
def execFmsubs (frt fra frc frb : Fpr) (rc : Bool) (s : State) : Result :=
  admitted (.fmsubs frt fra frc frb rc) s <|
    fpSingle frt rc [s.f fra, s.f frb, s.f frc]
      (arith3 .single true false s.fpscr s.freeFr (s.f fra) (s.f frc) (s.f frb)) s

/-- `fnmadd` (45 R572): `-(FRA * FRC + FRB)`, double. -/
def execFnmadd (frt fra frc frb : Fpr) (rc : Bool) (s : State) : Result :=
  admitted (.fnmadd frt fra frc frb rc) s <|
    fpDouble frt rc (arith3 .double false true s.fpscr s.freeFr (s.f fra) (s.f frc) (s.f frb)) s

/-- `fnmadds` (45 R573): `-(FRA * FRC + FRB)`, single. -/
def execFnmadds (frt fra frc frb : Fpr) (rc : Bool) (s : State) : Result :=
  admitted (.fnmadds frt fra frc frb rc) s <|
    fpSingle frt rc [s.f fra, s.f frb, s.f frc]
      (arith3 .single false true s.fpscr s.freeFr (s.f fra) (s.f frc) (s.f frb)) s

/-- `fnmsub` (45 R574): `-(FRA * FRC - FRB)`, double. -/
def execFnmsub (frt fra frc frb : Fpr) (rc : Bool) (s : State) : Result :=
  admitted (.fnmsub frt fra frc frb rc) s <|
    fpDouble frt rc (arith3 .double true true s.fpscr s.freeFr (s.f fra) (s.f frc) (s.f frb)) s

/-- `fnmsubs` (45 R575): `-(FRA * FRC - FRB)`, single. -/
def execFnmsubs (frt fra frc frb : Fpr) (rc : Bool) (s : State) : Result :=
  admitted (.fnmsubs frt fra frc frb rc) s <|
    fpSingle frt rc [s.f fra, s.f frb, s.f frc]
      (arith3 .single true true s.fpscr s.freeFr (s.f fra) (s.f frc) (s.f frb)) s

/-- `fsqrt` (45 R576): square root, double. -/
def execFsqrt (frt frb : Fpr) (rc : Bool) (s : State) : Result :=
  admitted (.fsqrt frt frb rc) s <|
    fpDouble frt rc (arithSqrt .double s.fpscr s.freeFr (s.f frb)) s

/-- `fsqrts` (45 R577): square root, single. -/
def execFsqrts (frt frb : Fpr) (rc : Bool) (s : State) : Result :=
  admitted (.fsqrts frt frb rc) s <|
    fpSingle frt rc [s.f frb] (arithSqrt .single s.fpscr s.freeFr (s.f frb)) s

/-- `fres` (45 R578): reciprocal estimate, single. -/
def execFres (frt frb : Fpr) (rc : Bool) (s : State) : Result :=
  admitted (.fres frt frb rc) s <|
    fpSingle frt rc [s.f frb] (arithRes s.fpscr s.freeFr s.freeFi (s.f frb)) s

/-- `frsqrte` (45 R579): reciprocal square root estimate, double. -/
def execFrsqrte (frt frb : Fpr) (rc : Bool) (s : State) : Result :=
  admitted (.frsqrte frt frb rc) s <|
    fpDouble frt rc (arithRsqrte s.fpscr s.freeFr s.freeFi (s.f frb)) s

/-- `fsel` (45 R580): FRC if FRA is at least zero, else FRB. -/
def execFsel (frt fra frc frb : Fpr) (rc : Bool) (s : State) : Result :=
  admitted (.fsel frt fra frc frb rc) s <|
    selectFp frt rc (if fselTakesC (s.f fra) then s.f frc else s.f frb) s

end Sys2Proof.Machine
end

