-- ==== Sys2Proof/Machine/FloatConvert.lean ====
section
/-! DEFINITION. Floating-point conversion, comparison and status (46_float_convert_compare_status.md). -/

namespace Sys2Proof.Machine

/-- `FPArith(round, single, b)` with a NaN cut to single format (R603). -/
def arithRsp (fpscr : Word) (free : Bool) (b : Dword) : FpResult :=
  let r := fpArith .single fpscr free false [b] false (fpValue b).exact
  if (fpValue b).isNan then { r with value := r.value.map fun d => withSlice d 35 0#29 } else r

/-- The value FRT receives for an integer of `n` bits: the high-order word of a 32-bit result is undefined (R601). -/
def integerPattern (n : Nat) (free : Dword) (v : Int) : Dword :=
  if n = 32 then slice free 0 32 ++ lowWord (BitVec.ofInt 64 v) else BitVec.ofInt 64 v

/-- The Infinity, NaN and Large Operand cases of R601: `VXCVI`, and the extreme integer unless `VE = 1`. -/
def integerInvalid (fpscr exc : Word) (n : Nat) (free : Dword) (neg : Bool) : FpResult :=
  if fpVE fpscr then { value := none, fprf := none, exceptions := exc ||| fpVXCVI, fr := false, fi := false }
  else
    { value := some (integerPattern n free (if neg then -2 ^ (n - 1) else 2 ^ (n - 1) - 1)),
      fprf := some (slice free 59 5), exceptions := exc ||| fpVXCVI, fr := false, fi := false }

/-- A rounded magnitude as an `n`-bit integer, if it fits (R601). -/
def integerRounded (fpscr : Word) (n : Nat) (free : Dword) (neg : Bool) (r : Rounded) : FpResult :=
  let v : Int := if neg then -r.mag else r.mag
  if -2 ^ (n - 1) ≤ v ∧ v < 2 ^ (n - 1) then
    { value := some (integerPattern n free v), fprf := some (slice free 59 5), exceptions := fpInexact r.fi,
      fr := r.fr, fi := r.fi }
  else integerInvalid fpscr 0 n free neg

/-- `ConvertToInteger` (R601): to `n` bits under rounding mode `rn`; the undefined FPRF and high-order word come from
`free` (log 14). -/
def toInteger (fpscr : Word) (rn : BitVec 2) (n : Nat) (free b : Dword) : FpResult :=
  match fpValue b with
  | .nan q => integerInvalid fpscr (if q then fpVXSNAN else 0) n free true
  | .inf neg => integerInvalid fpscr 0 n free neg
  | .zero neg => integerRounded fpscr n free neg { mag := 0, exp := 0, fr := false, fi := false }
  | .finite neg m e => integerRounded fpscr n free neg (roundAt rn neg m e 0)

/-- `fcfid` (R608): an integer rounded to double precision. -/
def fromInteger (fpscr : Word) (b : Dword) : FpResult :=
  if b = 0 then fpExactResult 0 0b00010
  else
    let neg := bit b 0
    let r := roundUnbounded .double (fpRN fpscr) neg b.toInt.natAbs 0
    { value := some (fpPack neg r.mag r.exp), fprf := some (fprfNormal neg), exceptions := fpInexact r.fi,
      fr := r.fr, fi := r.fi }

/-- A number that orders the patterns that are no NaN as their values are ordered, with `-0` equal to `+0`: magnitudes are
ordered as their patterns are (R550). -/
def fpOrder (d : Dword) : Int := if bit d 0 then -((slice d 1 63).toNat : Int) else (slice d 1 63).toNat

/-- The comparison result FL, FG, FE, FU (R609). -/
def fpCompare (a b : Dword) : BitVec 4 :=
  if (fpValue a).isNan || (fpValue b).isNan then 0b0001
  else if fpOrder a < fpOrder b then 0b1000
  else if fpOrder b < fpOrder a then 0b0100
  else 0b0010

/-- A comparison (R609, R610): CR field BF and FPCC receive the result, FR, FI and C stay, `exc` is recorded. -/
def compareFp (bf : CrField) (a b : Dword) (exc : Word) (s : State) : Result :=
  fpFinish false
    (((s.setCrField bf (fpCompare a b)).withFpscr (withSlice (fpscrRaised s.fpscr exc) 16 (fpCompare a b))).withFpReason
      (exc != 0))

/-- The exceptions of `fcmpo` (R610): an SNaN also raises `VXVC` unless `VE = 1`; a QNaN raises `VXVC`. -/
def orderedExceptions (fpscr : Word) (a b : Dword) : Word :=
  if (fpValue a).isSnan || (fpValue b).isSnan then fpVXSNAN ||| (if fpVE fpscr then 0 else fpVXVC)
  else if (fpValue a).isNan || (fpValue b).isNan then fpVXVC
  else 0

/-- The exception bits of FPSCR field `n` that `mcrfs` clears (R612). -/
def clearedByMcrfs (n : CrField) : Word :=
  (withSlice (0#32) (4 * n.toNat) 0b1111#4) &&& (fpExceptionBits ||| oneBit 32 0)

/-- `mcrfs` (R612). -/
def moveFromFpscr (bf bfa : CrField) (s : State) : Result :=
  completed
    ((s.setCrField bf (slice s.fpscr (4 * bfa.toNat) 4)).withFpscr (s.fpscr &&& ~~~ clearedByMcrfs bfa))

/-- The FPSCR bits of the fields that a field mask selects (R614). -/
def fpscrFieldMask (flm : BitVec 8) : Word :=
  let field (k : Nat) : BitVec 4 := if bit flm k then 0b1111 else 0
  field 0 ++ field 1 ++ field 2 ++ field 3 ++ field 4 ++ field 5 ++ field 6 ++ field 7

/-- A software write of the FPSCR (R602), then CR1 and the Program interrupt if one is enabled. A write that sets an
exception bit counts as an exception that occurred (log 31). -/
def writeFpscr (rc : Bool) (v : Word) (s : State) : Result :=
  fpFinish rc ((s.withFpscr v).withFpReason (v &&& ~~~ s.fpscr &&& fpExceptionBits != 0))

/-- `frsp` (46 R603): round to single precision. -/
def execFrsp (frt frb : Fpr) (rc : Bool) (s : State) : Result :=
  admitted (.frsp frt frb rc) s <|
    fpFinish rc (s.delivering frt true (arithRsp s.fpscr s.freeFr (s.f frb)))

/-- `fctid` (46 R604): to a 64-bit integer, by `RN`. -/
def execFctid (frt frb : Fpr) (rc : Bool) (s : State) : Result :=
  admitted (.fctid frt frb rc) s <|
    fpDouble frt rc (toInteger s.fpscr (fpRN s.fpscr) 64 (s.free 0) (s.f frb)) s

/-- `fctidz` (46 R605): to a 64-bit integer, toward zero. -/
def execFctidz (frt frb : Fpr) (rc : Bool) (s : State) : Result :=
  admitted (.fctidz frt frb rc) s <|
    fpDouble frt rc (toInteger s.fpscr 1 64 (s.free 0) (s.f frb)) s

/-- `fctiw` (46 R606): to a 32-bit integer, by `RN`. -/
def execFctiw (frt frb : Fpr) (rc : Bool) (s : State) : Result :=
  admitted (.fctiw frt frb rc) s <|
    fpDouble frt rc (toInteger s.fpscr (fpRN s.fpscr) 32 (s.free 0) (s.f frb)) s

/-- `fctiwz` (46 R607): to a 32-bit integer, toward zero. -/
def execFctiwz (frt frb : Fpr) (rc : Bool) (s : State) : Result :=
  admitted (.fctiwz frt frb rc) s <|
    fpDouble frt rc (toInteger s.fpscr 1 32 (s.free 0) (s.f frb)) s

/-- `fcfid` (46 R608): from a 64-bit integer. -/
def execFcfid (frt frb : Fpr) (rc : Bool) (s : State) : Result :=
  admitted (.fcfid frt frb rc) s <|
    fpDouble frt rc (fromInteger s.fpscr (s.f frb)) s

/-- `fcmpu` (46 R609): compare unordered. -/
def execFcmpu (bf : CrField) (fra frb : Fpr) (s : State) : Result :=
  admitted (.fcmpu bf fra frb) s <|
    compareFp bf (s.f fra) (s.f frb) (snanException [s.f fra, s.f frb]) s

/-- `fcmpo` (46 R610): compare ordered. -/
def execFcmpo (bf : CrField) (fra frb : Fpr) (s : State) : Result :=
  admitted (.fcmpo bf fra frb) s <|
    compareFp bf (s.f fra) (s.f frb) (orderedExceptions s.fpscr (s.f fra) (s.f frb)) s

/-- `mffs` (46 R611): FRT receives the FPSCR below an undefined word. -/
def execMffs (frt : Fpr) (rc : Bool) (s : State) : Result :=
  admitted (.mffs frt rc) s <|
    completed (((s.setF frt (slice (s.free 0) 0 32 ++ s.fpscr) false).recordFp rc).drawn 1)

/-- `mcrfs` (46 R612): CR field BF receives FPSCR field BFA, whose exception bits are cleared. -/
def execMcrfs (bf bfa : CrField) (s : State) : Result :=
  admitted (.mcrfs bf bfa) s <|
    moveFromFpscr bf bfa s

/-- `mtfsfi` (46 R613): FPSCR field BF receives U. -/
def execMtfsfi (bf : CrField) (u : BitVec 4) (rc : Bool) (s : State) : Result :=
  admitted (.mtfsfi bf u rc) s <|
    writeFpscr rc (withSlice s.fpscr (4 * bf.toNat) u) s

/-- `mtfsf` (46 R614): the fields FLM selects receive those of FRB. -/
def execMtfsf (flm : BitVec 8) (frb : Fpr) (rc : Bool) (s : State) : Result :=
  admitted (.mtfsf flm frb rc) s <|
    writeFpscr rc (merge (fpscrFieldMask flm) (lowWord (s.f frb)) s.fpscr) s

/-- `mtfsb0` (46 R615): clear one FPSCR bit. -/
def execMtfsb0 (bt : CrBit) (rc : Bool) (s : State) : Result :=
  admitted (.mtfsb0 bt rc) s <|
    writeFpscr rc (withBit s.fpscr bt.toNat false) s

/-- `mtfsb1` (46 R616): set one FPSCR bit, and FX with a new exception bit. -/
def execMtfsb1 (bt : CrBit) (rc : Bool) (s : State) : Result :=
  admitted (.mtfsb1 bt rc) s <|
    writeFpscr rc (withBit (fpscrRaised s.fpscr (oneBit 32 bt.toNat &&& fpExceptionBits)) bt.toNat true) s

end Sys2Proof.Machine
end

