-- ==== Sys2Proof/Machine/LoadStore.lean ====
section
/-! DEFINITION. Elementary fixed-point loads and stores (41_fixed_load_store.md R285 to R327). -/

namespace Sys2Proof.Machine

/-- An elementary load without update: `x[RT] <- ext(MemRead(EA, n))` (R281). -/
def loadInto (i : Instr) (rt : Gpr) (ea : Dword) (n : Nat) (ext : Dword → Dword) (s : State) : Result :=
  memRead i .other .fixed ea n s fun v => completed (s.setX rt (ext v))

/-- An elementary load with update: then `x[RA] <- EA`, the full sum (R280). -/
def loadUpdate (i : Instr) (rt ra : Gpr) (ea : Dword) (n : Nat) (ext : Dword → Dword) (s : State) : Result :=
  memRead i .update .fixed ea n s fun v => completed ((s.setX rt (ext v)).setX ra ea)

/-- An elementary store without update: `MemWrite(EA, n, v)` (R282). -/
def storeFrom (i : Instr) (v ea : Dword) (n : Nat) (s : State) : Result :=
  memWrite i .other .fixed ea n v s fun s' => completed s'

/-- An elementary store with update: then `x[RA] <- EA` (R280). -/
def storeUpdate (i : Instr) (ra : Gpr) (v ea : Dword) (n : Nat) (s : State) : Result :=
  memWrite i .update .fixed ea n v s fun s' => completed (s'.setX ra ea)

/-- `lbz` (41 R285): load a byte, zero-extended. -/
def execLbz (rt : Gpr) (d : BitVec 16) (ra : Gpr) (s : State) : Result :=
  admitted (.lbz rt d ra) s <|
    loadInto (.lbz rt d ra) rt (eaD s ra d) 1 id s

/-- `lbzu` (41 R286): load a byte, zero-extended; RA receives the address. -/
def execLbzu (rt : Gpr) (d : BitVec 16) (ra : Gpr) (s : State) : Result :=
  admitted (.lbzu rt d ra) s <|
    loadUpdate (.lbzu rt d ra) rt ra (eaDU s ra d) 1 id s

/-- `lbzx` (41 R287): load a byte, zero-extended. -/
def execLbzx (rt ra rb : Gpr) (s : State) : Result :=
  admitted (.lbzx rt ra rb) s <|
    loadInto (.lbzx rt ra rb) rt (eaX s ra rb) 1 id s

/-- `lbzux` (41 R288): load a byte, zero-extended; RA receives the address. -/
def execLbzux (rt ra rb : Gpr) (s : State) : Result :=
  admitted (.lbzux rt ra rb) s <|
    loadUpdate (.lbzux rt ra rb) rt ra (eaXU s ra rb) 1 id s

/-- `lhz` (41 R289): load a halfword, zero-extended. -/
def execLhz (rt : Gpr) (d : BitVec 16) (ra : Gpr) (s : State) : Result :=
  admitted (.lhz rt d ra) s <|
    loadInto (.lhz rt d ra) rt (eaD s ra d) 2 id s

/-- `lhzu` (41 R290): load a halfword, zero-extended; RA receives the address. -/
def execLhzu (rt : Gpr) (d : BitVec 16) (ra : Gpr) (s : State) : Result :=
  admitted (.lhzu rt d ra) s <|
    loadUpdate (.lhzu rt d ra) rt ra (eaDU s ra d) 2 id s

/-- `lhzx` (41 R291): load a halfword, zero-extended. -/
def execLhzx (rt ra rb : Gpr) (s : State) : Result :=
  admitted (.lhzx rt ra rb) s <|
    loadInto (.lhzx rt ra rb) rt (eaX s ra rb) 2 id s

/-- `lhzux` (41 R292): load a halfword, zero-extended; RA receives the address. -/
def execLhzux (rt ra rb : Gpr) (s : State) : Result :=
  admitted (.lhzux rt ra rb) s <|
    loadUpdate (.lhzux rt ra rb) rt ra (eaXU s ra rb) 2 id s

/-- `lha` (41 R293): load a halfword, sign-extended. -/
def execLha (rt : Gpr) (d : BitVec 16) (ra : Gpr) (s : State) : Result :=
  admitted (.lha rt d ra) s <|
    loadInto (.lha rt d ra) rt (eaD s ra d) 2 sextHalf s

/-- `lhau` (41 R294): load a halfword, sign-extended; RA receives the address. -/
def execLhau (rt : Gpr) (d : BitVec 16) (ra : Gpr) (s : State) : Result :=
  admitted (.lhau rt d ra) s <|
    loadUpdate (.lhau rt d ra) rt ra (eaDU s ra d) 2 sextHalf s

/-- `lhax` (41 R295): load a halfword, sign-extended. -/
def execLhax (rt ra rb : Gpr) (s : State) : Result :=
  admitted (.lhax rt ra rb) s <|
    loadInto (.lhax rt ra rb) rt (eaX s ra rb) 2 sextHalf s

/-- `lhaux` (41 R296): load a halfword, sign-extended; RA receives the address. -/
def execLhaux (rt ra rb : Gpr) (s : State) : Result :=
  admitted (.lhaux rt ra rb) s <|
    loadUpdate (.lhaux rt ra rb) rt ra (eaXU s ra rb) 2 sextHalf s

/-- `lwz` (41 R297): load a word, zero-extended. -/
def execLwz (rt : Gpr) (d : BitVec 16) (ra : Gpr) (s : State) : Result :=
  admitted (.lwz rt d ra) s <|
    loadInto (.lwz rt d ra) rt (eaD s ra d) 4 id s

/-- `lwzu` (41 R298): load a word, zero-extended; RA receives the address. -/
def execLwzu (rt : Gpr) (d : BitVec 16) (ra : Gpr) (s : State) : Result :=
  admitted (.lwzu rt d ra) s <|
    loadUpdate (.lwzu rt d ra) rt ra (eaDU s ra d) 4 id s

/-- `lwzx` (41 R299): load a word, zero-extended. -/
def execLwzx (rt ra rb : Gpr) (s : State) : Result :=
  admitted (.lwzx rt ra rb) s <|
    loadInto (.lwzx rt ra rb) rt (eaX s ra rb) 4 id s

/-- `lwzux` (41 R300): load a word, zero-extended; RA receives the address. -/
def execLwzux (rt ra rb : Gpr) (s : State) : Result :=
  admitted (.lwzux rt ra rb) s <|
    loadUpdate (.lwzux rt ra rb) rt ra (eaXU s ra rb) 4 id s

/-- `lwa` (41 R301): load a word, sign-extended. -/
def execLwa (rt : Gpr) (ds : BitVec 14) (ra : Gpr) (s : State) : Result :=
  admitted (.lwa rt ds ra) s <|
    loadInto (.lwa rt ds ra) rt (eaDS s ra ds) 4 sextWord s

/-- `lwax` (41 R302): load a word, sign-extended. -/
def execLwax (rt ra rb : Gpr) (s : State) : Result :=
  admitted (.lwax rt ra rb) s <|
    loadInto (.lwax rt ra rb) rt (eaX s ra rb) 4 sextWord s

/-- `lwaux` (41 R303): load a word, sign-extended; RA receives the address. -/
def execLwaux (rt ra rb : Gpr) (s : State) : Result :=
  admitted (.lwaux rt ra rb) s <|
    loadUpdate (.lwaux rt ra rb) rt ra (eaXU s ra rb) 4 sextWord s

/-- `ld` (41 R304): load a doubleword. -/
def execLd (rt : Gpr) (ds : BitVec 14) (ra : Gpr) (s : State) : Result :=
  admitted (.ld rt ds ra) s <|
    loadInto (.ld rt ds ra) rt (eaDS s ra ds) 8 id s

/-- `ldu` (41 R305): load a doubleword; RA receives the address. -/
def execLdu (rt : Gpr) (ds : BitVec 14) (ra : Gpr) (s : State) : Result :=
  admitted (.ldu rt ds ra) s <|
    loadUpdate (.ldu rt ds ra) rt ra (eaDSU s ra ds) 8 id s

/-- `ldx` (41 R306): load a doubleword. -/
def execLdx (rt ra rb : Gpr) (s : State) : Result :=
  admitted (.ldx rt ra rb) s <|
    loadInto (.ldx rt ra rb) rt (eaX s ra rb) 8 id s

/-- `ldux` (41 R307): load a doubleword; RA receives the address. -/
def execLdux (rt ra rb : Gpr) (s : State) : Result :=
  admitted (.ldux rt ra rb) s <|
    loadUpdate (.ldux rt ra rb) rt ra (eaXU s ra rb) 8 id s

/-- `stb` (41 R308): store the low-order byte of RS. -/
def execStb (rs : Gpr) (d : BitVec 16) (ra : Gpr) (s : State) : Result :=
  admitted (.stb rs d ra) s <|
    storeFrom (.stb rs d ra) (s.x rs) (eaD s ra d) 1 s

/-- `stbu` (41 R309): store the low-order byte of RS; RA receives the address. -/
def execStbu (rs : Gpr) (d : BitVec 16) (ra : Gpr) (s : State) : Result :=
  admitted (.stbu rs d ra) s <|
    storeUpdate (.stbu rs d ra) ra (s.x rs) (eaDU s ra d) 1 s

/-- `stbx` (41 R310): store the low-order byte of RS. -/
def execStbx (rs ra rb : Gpr) (s : State) : Result :=
  admitted (.stbx rs ra rb) s <|
    storeFrom (.stbx rs ra rb) (s.x rs) (eaX s ra rb) 1 s

/-- `stbux` (41 R311): store the low-order byte of RS; RA receives the address. -/
def execStbux (rs ra rb : Gpr) (s : State) : Result :=
  admitted (.stbux rs ra rb) s <|
    storeUpdate (.stbux rs ra rb) ra (s.x rs) (eaXU s ra rb) 1 s

/-- `sth` (41 R312): store the low-order halfword of RS. -/
def execSth (rs : Gpr) (d : BitVec 16) (ra : Gpr) (s : State) : Result :=
  admitted (.sth rs d ra) s <|
    storeFrom (.sth rs d ra) (s.x rs) (eaD s ra d) 2 s

/-- `sthu` (41 R313): store the low-order halfword of RS; RA receives the address. -/
def execSthu (rs : Gpr) (d : BitVec 16) (ra : Gpr) (s : State) : Result :=
  admitted (.sthu rs d ra) s <|
    storeUpdate (.sthu rs d ra) ra (s.x rs) (eaDU s ra d) 2 s

/-- `sthx` (41 R314): store the low-order halfword of RS. -/
def execSthx (rs ra rb : Gpr) (s : State) : Result :=
  admitted (.sthx rs ra rb) s <|
    storeFrom (.sthx rs ra rb) (s.x rs) (eaX s ra rb) 2 s

/-- `sthux` (41 R315): store the low-order halfword of RS; RA receives the address. -/
def execSthux (rs ra rb : Gpr) (s : State) : Result :=
  admitted (.sthux rs ra rb) s <|
    storeUpdate (.sthux rs ra rb) ra (s.x rs) (eaXU s ra rb) 2 s

/-- `stw` (41 R316): store the low-order word of RS. -/
def execStw (rs : Gpr) (d : BitVec 16) (ra : Gpr) (s : State) : Result :=
  admitted (.stw rs d ra) s <|
    storeFrom (.stw rs d ra) (s.x rs) (eaD s ra d) 4 s

/-- `stwu` (41 R317): store the low-order word of RS; RA receives the address. -/
def execStwu (rs : Gpr) (d : BitVec 16) (ra : Gpr) (s : State) : Result :=
  admitted (.stwu rs d ra) s <|
    storeUpdate (.stwu rs d ra) ra (s.x rs) (eaDU s ra d) 4 s

/-- `stwx` (41 R318): store the low-order word of RS. -/
def execStwx (rs ra rb : Gpr) (s : State) : Result :=
  admitted (.stwx rs ra rb) s <|
    storeFrom (.stwx rs ra rb) (s.x rs) (eaX s ra rb) 4 s

/-- `stwux` (41 R319): store the low-order word of RS; RA receives the address. -/
def execStwux (rs ra rb : Gpr) (s : State) : Result :=
  admitted (.stwux rs ra rb) s <|
    storeUpdate (.stwux rs ra rb) ra (s.x rs) (eaXU s ra rb) 4 s

/-- `std` (41 R320): store the low-order doubleword of RS. -/
def execStd (rs : Gpr) (ds : BitVec 14) (ra : Gpr) (s : State) : Result :=
  admitted (.std rs ds ra) s <|
    storeFrom (.std rs ds ra) (s.x rs) (eaDS s ra ds) 8 s

/-- `stdu` (41 R321): store the low-order doubleword of RS; RA receives the address. -/
def execStdu (rs : Gpr) (ds : BitVec 14) (ra : Gpr) (s : State) : Result :=
  admitted (.stdu rs ds ra) s <|
    storeUpdate (.stdu rs ds ra) ra (s.x rs) (eaDSU s ra ds) 8 s

/-- `stdx` (41 R322): store the low-order doubleword of RS. -/
def execStdx (rs ra rb : Gpr) (s : State) : Result :=
  admitted (.stdx rs ra rb) s <|
    storeFrom (.stdx rs ra rb) (s.x rs) (eaX s ra rb) 8 s

/-- `stdux` (41 R323): store the low-order doubleword of RS; RA receives the address. -/
def execStdux (rs ra rb : Gpr) (s : State) : Result :=
  admitted (.stdux rs ra rb) s <|
    storeUpdate (.stdux rs ra rb) ra (s.x rs) (eaXU s ra rb) 8 s

/-- `lhbrx` (41 R324): load a halfword with its bytes reversed, zero-extended. -/
def execLhbrx (rt ra rb : Gpr) (s : State) : Result :=
  admitted (.lhbrx rt ra rb) s <|
    loadInto (.lhbrx rt ra rb) rt (eaX s ra rb) 2 (reverseBytes 2) s

/-- `lwbrx` (41 R325): load a word with its bytes reversed, zero-extended. -/
def execLwbrx (rt ra rb : Gpr) (s : State) : Result :=
  admitted (.lwbrx rt ra rb) s <|
    loadInto (.lwbrx rt ra rb) rt (eaX s ra rb) 4 (reverseBytes 4) s

/-- `sthbrx` (41 R326): store the low-order halfword of RS with its bytes reversed. -/
def execSthbrx (rs ra rb : Gpr) (s : State) : Result :=
  admitted (.sthbrx rs ra rb) s <|
    storeFrom (.sthbrx rs ra rb) (reverseBytes 2 (s.x rs)) (eaX s ra rb) 2 s

/-- `stwbrx` (41 R327): store the low-order word of RS with its bytes reversed. -/
def execStwbrx (rs ra rb : Gpr) (s : State) : Result :=
  admitted (.stwbrx rs ra rb) s <|
    storeFrom (.stwbrx rs ra rb) (reverseBytes 4 (s.x rs)) (eaX s ra rb) 4 s

end Sys2Proof.Machine
end

