-- ==== Sys2Proof/Machine/Logical.lean ====
section
/-! DEFINITION. Logical, extend, count, rotate and shift instructions (43_fixed_logical_shift.md R430 to R468). -/

namespace Sys2Proof.Machine

/-- `x[RA] <- r`, and CR0 if `rc` (42_fixed_arith.md R370). -/
def logicInto (ra : Gpr) (r : Dword) (rc : Bool) (s : State) : Result := completed ((s.setX ra r).record rc r)

/-- As `logicInto`, with `XER_CA <- ca` (R465 to R468). -/
def shiftInto (ra : Gpr) (r : Dword) (ca rc : Bool) (s : State) : Result :=
  completed (((s.setX ra r).setCa ca).record rc r)

/-- `ROTL64` (R450). -/
def rotl64 (v : Dword) (n : Nat) : Dword := v.rotateLeft n

/-- `ROTL32` (R450): the word in both halves, rotated. -/
def rotl32 (v : Dword) (n : Nat) : Dword := rotl64 (lowWord v ++ lowWord v) n

/-- The ones from bit `mb` to bit 63. -/
def onesFrom (mb : Nat) : Dword := BitVec.allOnes 64 >>> mb

/-- `MASK(mb, me)` (R451): from `mb` to `me`, wrapping round when `mb > me`. -/
def maskBits (mb me : Nat) : Dword :=
  if mb ≤ me then onesFrom mb &&& ~~~ onesFrom (me + 1) else onesFrom mb ||| ~~~ onesFrom (me + 1)

/-- Insertion under a mask (R459, R460). -/
def insertInto (ra : Gpr) (r m : Dword) (rc : Bool) (s : State) : Result := logicInto ra (merge m r (s.x ra)) rc s

/-- The number of 0 bits before the first 1 bit. -/
def leadingZeros {w : Nat} (v : BitVec w) : Nat :=
  (List.range w).foldr (fun i n => if v.getMsbD i then 0 else n + 1) 0

/-- `CA` of a right algebraic shift by `n`: a negative value that loses a 1 bit (R465); shifting everything out loses the
sign itself (R467). -/
def shiftCarry {w : Nat} (v : BitVec w) (n : Nat) : Bool := v.msb && v.toNat % 2 ^ n != 0

/-- `andi.` (43 R430): RS AND UI, with CR0. -/
def execAndiDot (ra rs : Gpr) (ui : BitVec 16) (s : State) : Result :=
  admitted (.andiDot ra rs ui) s <|
    logicInto ra (s.x rs &&& uimm ui) true s

/-- `andis.` (43 R431): RS AND the shifted UI, with CR0. -/
def execAndisDot (ra rs : Gpr) (ui : BitVec 16) (s : State) : Result :=
  admitted (.andisDot ra rs ui) s <|
    logicInto ra (s.x rs &&& uimmShifted ui) true s

/-- `ori` (43 R432): RS OR UI. -/
def execOri (ra rs : Gpr) (ui : BitVec 16) (s : State) : Result :=
  admitted (.ori ra rs ui) s <|
    logicInto ra (s.x rs ||| uimm ui) false s

/-- `oris` (43 R433): RS OR the shifted UI. -/
def execOris (ra rs : Gpr) (ui : BitVec 16) (s : State) : Result :=
  admitted (.oris ra rs ui) s <|
    logicInto ra (s.x rs ||| uimmShifted ui) false s

/-- `xori` (43 R434): RS XOR UI. -/
def execXori (ra rs : Gpr) (ui : BitVec 16) (s : State) : Result :=
  admitted (.xori ra rs ui) s <|
    logicInto ra (s.x rs ^^^ uimm ui) false s

/-- `xoris` (43 R435): RS XOR the shifted UI. -/
def execXoris (ra rs : Gpr) (ui : BitVec 16) (s : State) : Result :=
  admitted (.xoris ra rs ui) s <|
    logicInto ra (s.x rs ^^^ uimmShifted ui) false s

/-- `and` (43 R436): AND of RS and RB. -/
def execAnd (ra rs rb : Gpr) (rc : Bool) (s : State) : Result :=
  admitted (.and ra rs rb rc) s <|
    logicInto ra (s.x rs &&& s.x rb) rc s

/-- `or` (43 R437): OR of RS and RB. -/
def execOr (ra rs rb : Gpr) (rc : Bool) (s : State) : Result :=
  admitted (.or ra rs rb rc) s <|
    logicInto ra (s.x rs ||| s.x rb) rc s

/-- `xor` (43 R438): XOR of RS and RB. -/
def execXor (ra rs rb : Gpr) (rc : Bool) (s : State) : Result :=
  admitted (.xor ra rs rb rc) s <|
    logicInto ra (s.x rs ^^^ s.x rb) rc s

/-- `nand` (43 R439): NAND of RS and RB. -/
def execNand (ra rs rb : Gpr) (rc : Bool) (s : State) : Result :=
  admitted (.nand ra rs rb rc) s <|
    logicInto ra (~~~ (s.x rs &&& s.x rb)) rc s

/-- `nor` (43 R440): NOR of RS and RB. -/
def execNor (ra rs rb : Gpr) (rc : Bool) (s : State) : Result :=
  admitted (.nor ra rs rb rc) s <|
    logicInto ra (~~~ (s.x rs ||| s.x rb)) rc s

/-- `eqv` (43 R441): equivalence of RS and RB. -/
def execEqv (ra rs rb : Gpr) (rc : Bool) (s : State) : Result :=
  admitted (.eqv ra rs rb rc) s <|
    logicInto ra (~~~ (s.x rs ^^^ s.x rb)) rc s

/-- `andc` (43 R442): AND with complement of RS and RB. -/
def execAndc (ra rs rb : Gpr) (rc : Bool) (s : State) : Result :=
  admitted (.andc ra rs rb rc) s <|
    logicInto ra (s.x rs &&& ~~~ s.x rb) rc s

/-- `orc` (43 R443): OR with complement of RS and RB. -/
def execOrc (ra rs rb : Gpr) (rc : Bool) (s : State) : Result :=
  admitted (.orc ra rs rb rc) s <|
    logicInto ra (s.x rs ||| ~~~ s.x rb) rc s

/-- `extsb` (43 R444): sign-extend the low-order byte. -/
def execExtsb (ra rs : Gpr) (rc : Bool) (s : State) : Result :=
  admitted (.extsb ra rs rc) s <|
    logicInto ra (((s.x rs).setWidth 8).signExtend 64) rc s

/-- `extsh` (43 R445): sign-extend the low-order halfword. -/
def execExtsh (ra rs : Gpr) (rc : Bool) (s : State) : Result :=
  admitted (.extsh ra rs rc) s <|
    logicInto ra (sextHalf (s.x rs)) rc s

/-- `extsw` (43 R446): sign-extend the low-order word. -/
def execExtsw (ra rs : Gpr) (rc : Bool) (s : State) : Result :=
  admitted (.extsw ra rs rc) s <|
    logicInto ra (sextWord (s.x rs)) rc s

/-- `cntlzd` (43 R447): count the leading zeros of RS. -/
def execCntlzd (ra rs : Gpr) (rc : Bool) (s : State) : Result :=
  admitted (.cntlzd ra rs rc) s <|
    logicInto ra (BitVec.ofNat 64 (leadingZeros (s.x rs))) rc s

/-- `cntlzw` (43 R448): count the leading zeros of the low-order word. -/
def execCntlzw (ra rs : Gpr) (rc : Bool) (s : State) : Result :=
  admitted (.cntlzw ra rs rc) s <|
    logicInto ra (BitVec.ofNat 64 (leadingZeros (lowWord (s.x rs)))) rc s

/-- `rldicl` (43 R452): rotate, then clear left. -/
def execRldicl (ra rs : Gpr) (sh mb : BitVec 6) (rc : Bool) (s : State) : Result :=
  admitted (.rldicl ra rs sh mb rc) s <|
    logicInto ra (rotl64 (s.x rs) sh.toNat &&& maskBits mb.toNat 63) rc s

/-- `rldicr` (43 R453): rotate, then clear right. -/
def execRldicr (ra rs : Gpr) (sh me : BitVec 6) (rc : Bool) (s : State) : Result :=
  admitted (.rldicr ra rs sh me rc) s <|
    logicInto ra (rotl64 (s.x rs) sh.toNat &&& maskBits 0 me.toNat) rc s

/-- `rldic` (43 R454): rotate, then clear on both sides. -/
def execRldic (ra rs : Gpr) (sh mb : BitVec 6) (rc : Bool) (s : State) : Result :=
  admitted (.rldic ra rs sh mb rc) s <|
    logicInto ra (rotl64 (s.x rs) sh.toNat &&& maskBits mb.toNat (63 - sh.toNat)) rc s

/-- `rlwinm` (43 R455): rotate a word, then AND with a mask. -/
def execRlwinm (ra rs : Gpr) (sh mb me : BitVec 5) (rc : Bool) (s : State) : Result :=
  admitted (.rlwinm ra rs sh mb me rc) s <|
    logicInto ra (rotl32 (s.x rs) sh.toNat &&& maskBits (mb.toNat + 32) (me.toNat + 32)) rc s

/-- `rldcl` (43 R456): rotate by RB, then clear left. -/
def execRldcl (ra rs rb : Gpr) (mb : BitVec 6) (rc : Bool) (s : State) : Result :=
  admitted (.rldcl ra rs rb mb rc) s <|
    logicInto ra (rotl64 (s.x rs) (slice (s.x rb) 58 6).toNat &&& maskBits mb.toNat 63) rc s

/-- `rldcr` (43 R457): rotate by RB, then clear right. -/
def execRldcr (ra rs rb : Gpr) (me : BitVec 6) (rc : Bool) (s : State) : Result :=
  admitted (.rldcr ra rs rb me rc) s <|
    logicInto ra (rotl64 (s.x rs) (slice (s.x rb) 58 6).toNat &&& maskBits 0 me.toNat) rc s

/-- `rlwnm` (43 R458): rotate a word by RB, then AND with a mask. -/
def execRlwnm (ra rs rb : Gpr) (mb me : BitVec 5) (rc : Bool) (s : State) : Result :=
  admitted (.rlwnm ra rs rb mb me rc) s <|
    logicInto ra (rotl32 (s.x rs) (slice (s.x rb) 59 5).toNat &&& maskBits (mb.toNat + 32) (me.toNat + 32)) rc s

/-- `rldimi` (43 R459): rotate, then insert under a mask. -/
def execRldimi (ra rs : Gpr) (sh mb : BitVec 6) (rc : Bool) (s : State) : Result :=
  admitted (.rldimi ra rs sh mb rc) s <|
    insertInto ra (rotl64 (s.x rs) sh.toNat) (maskBits mb.toNat (63 - sh.toNat)) rc s

/-- `rlwimi` (43 R460): rotate a word, then insert under a mask. -/
def execRlwimi (ra rs : Gpr) (sh mb me : BitVec 5) (rc : Bool) (s : State) : Result :=
  admitted (.rlwimi ra rs sh mb me rc) s <|
    insertInto ra (rotl32 (s.x rs) sh.toNat) (maskBits (mb.toNat + 32) (me.toNat + 32)) rc s

/-- `sld` (43 R461): shift left by `x[RB][57:63]`; 64 and more give 0. -/
def execSld (ra rs rb : Gpr) (rc : Bool) (s : State) : Result :=
  admitted (.sld ra rs rb rc) s <|
    logicInto ra (s.x rs <<< (slice (s.x rb) 57 7).toNat) rc s

/-- `slw` (43 R462): shift a word left by `x[RB][58:63]`; 32 and more give 0. -/
def execSlw (ra rs rb : Gpr) (rc : Bool) (s : State) : Result :=
  admitted (.slw ra rs rb rc) s <|
    logicInto ra (zext (lowWord (s.x rs) <<< (slice (s.x rb) 58 6).toNat)) rc s

/-- `srd` (43 R463): shift right by `x[RB][57:63]`; 64 and more give 0. -/
def execSrd (ra rs rb : Gpr) (rc : Bool) (s : State) : Result :=
  admitted (.srd ra rs rb rc) s <|
    logicInto ra (s.x rs >>> (slice (s.x rb) 57 7).toNat) rc s

/-- `srw` (43 R464): shift a word right by `x[RB][58:63]`; 32 and more give 0. -/
def execSrw (ra rs rb : Gpr) (rc : Bool) (s : State) : Result :=
  admitted (.srw ra rs rb rc) s <|
    logicInto ra (zext (lowWord (s.x rs) >>> (slice (s.x rb) 58 6).toNat)) rc s

/-- `sradi` (43 R465): shift right, copying the sign. -/
def execSradi (ra rs : Gpr) (sh : BitVec 6) (rc : Bool) (s : State) : Result :=
  admitted (.sradi ra rs sh rc) s <|
    shiftInto ra ((s.x rs).sshiftRight sh.toNat) (shiftCarry (s.x rs) sh.toNat) rc s

/-- `srawi` (43 R466): shift a word right, copying the sign. -/
def execSrawi (ra rs : Gpr) (sh : BitVec 5) (rc : Bool) (s : State) : Result :=
  admitted (.srawi ra rs sh rc) s <|
    shiftInto ra ((sextWord (s.x rs)).sshiftRight sh.toNat) (shiftCarry (lowWord (s.x rs)) sh.toNat) rc s

/-- `srad` (43 R467): shift right by `x[RB][57:63]`, copying the sign. -/
def execSrad (ra rs rb : Gpr) (rc : Bool) (s : State) : Result :=
  admitted (.srad ra rs rb rc) s <|
    shiftInto ra ((s.x rs).sshiftRight (slice (s.x rb) 57 7).toNat)
      (shiftCarry (s.x rs) (slice (s.x rb) 57 7).toNat) rc s

/-- `sraw` (43 R468): shift a word right by `x[RB][58:63]`, copying the sign. -/
def execSraw (ra rs rb : Gpr) (rc : Bool) (s : State) : Result :=
  admitted (.sraw ra rs rb rc) s <|
    shiftInto ra ((sextWord (s.x rs)).sshiftRight (slice (s.x rb) 58 6).toNat)
      (shiftCarry (lowWord (s.x rs)) (slice (s.x rb) 58 6).toNat) rc s

end Sys2Proof.Machine
end

