-- ==== Sys2Proof/Machine/MultipleReserve.lean ====
section
/-! DEFINITION. Load and store multiple and string, the reservation instructions and `sync` (41_fixed_load_store.md R328 to R338). -/

namespace Sys2Proof.Machine

/-- Load `n` bytes into consecutive registers from RT, four to a register (R328, R330). -/
def loadMany (i : Instr) (cls : AccessClass) (rt : Gpr) (ea : Dword) (n : Nat) (s : State) : Result :=
  match accessReals i (.outside rt (regsFor n)) cls .load ea n s with
  | .error e => e.outcome s
  | .ok rs => completed (s.setXs rt (wordsOfBytes (s.mem.readAll rs)))

/-- Store the first `n` bytes of consecutive registers from RS, four to a register (R329, R332). -/
def storeMany (i : Instr) (cls : AccessClass) (rs : Gpr) (ea : Dword) (n : Nat) (s : State) : Result :=
  match accessReals i .other cls .store ea n s with
  | .error e => e.outcome s
  | .ok reals => completed { s with mem := s.mem.writeAll reals ((registerBytes s rs (regsFor n)).take n) }

/-- `lswx` (R331): with a length of zero no storage is accessed and RT is undefined (log 14). -/
def loadStringIndexed (i : Instr) (rt ra rb : Gpr) (s : State) : Result :=
  if s.xerCount = 0 ∧ !s.msrBit msrLE then completed ((s.setX rt (s.free 0)).drawn 1)
  else loadMany i .string rt (eaX s ra rb) s.xerCount s

/-- Do two real addresses lie in the same reservation granule (20_memory.md R145)? -/
def sameGranule (c : Config) (a b : Dword) : Bool := a >>> c.granuleLog2 == b >>> c.granuleLog2

/-- `lwarx` and `ldarx` (R334, R335): a load that sets the reservation. -/
def loadReserve (i : Instr) (rt : Gpr) (ea : Dword) (n : Nat) (s : State) : Result :=
  match accessReals i .other .reserve .load ea n s with
  | .error e => e.outcome s
  | .ok rs => completed { s.setX rt (valueOfBytes (s.mem.readAll rs)) with reserve := some (rs.headD 0) }

/-- Does the reservation cover the real address `a` (20_memory.md R146, D12, log 18)? -/
def State.holdsReservation (s : State) (a : Dword) : Bool :=
  match s.reserve with
  | some r => sameGranule s.cfg a r
  | none => false

/-- `stwcx.` and `stdcx.` (R336, R337): store if the reservation covers the address, say so in CR0, drop the
reservation. An interrupt leaves CR0 undefined (60_exceptions.md R770, log 14). -/
def storeConditional (i : Instr) (v ea : Dword) (n : Nat) (s : State) : Result :=
  match accessReals i .other .reserve .store ea n s with
  | .error e => e.outcome ((s.setCrField 0 (slice (s.free 1) 0 4)).drawn 1)
  | .ok rs =>
    let done := s.holdsReservation (rs.headD 0)
    let s' := if done then s.stored rs v else s
    completed { s'.setCrField 0 (crBits false false done s.so) with reserve := none }

/-- `lmw` (41 R328): load words into GPRs RT to 31. -/
def execLmw (rt : Gpr) (d : BitVec 16) (ra : Gpr) (s : State) : Result :=
  admitted (.lmw rt d ra) s <|
    loadMany (.lmw rt d ra) .multiple rt (eaD s ra d) (4 * (32 - rt.toNat)) s

/-- `stmw` (41 R329): store the low-order words of GPRs RS to 31. -/
def execStmw (rs : Gpr) (d : BitVec 16) (ra : Gpr) (s : State) : Result :=
  admitted (.stmw rs d ra) s <|
    storeMany (.stmw rs d ra) .multiple rs (eaD s ra d) (4 * (32 - rs.toNat)) s

/-- `lswi` (41 R330): load a string of NB bytes (0 means 32). -/
def execLswi (rt ra : Gpr) (nb : BitVec 5) (s : State) : Result :=
  admitted (.lswi rt ra nb) s <|
    loadMany (.lswi rt ra nb) .string rt (s.ra0 ra) (nbBytes nb) s

/-- `lswx` (41 R331): load a string of `XER[25:31]` bytes. -/
def execLswx (rt ra rb : Gpr) (s : State) : Result :=
  admitted (.lswx rt ra rb) s <|
    loadStringIndexed (.lswx rt ra rb) rt ra rb s

/-- `stswi` (41 R332): store a string of NB bytes (0 means 32). -/
def execStswi (rs ra : Gpr) (nb : BitVec 5) (s : State) : Result :=
  admitted (.stswi rs ra nb) s <|
    storeMany (.stswi rs ra nb) .string rs (s.ra0 ra) (nbBytes nb) s

/-- `stswx` (41 R333): store a string of `XER[25:31]` bytes. -/
def execStswx (rs ra rb : Gpr) (s : State) : Result :=
  admitted (.stswx rs ra rb) s <|
    storeMany (.stswx rs ra rb) .string rs (eaX s ra rb) s.xerCount s

/-- `lwarx` (41 R334): load a word and reserve. -/
def execLwarx (rt ra rb : Gpr) (s : State) : Result :=
  admitted (.lwarx rt ra rb) s <|
    loadReserve (.lwarx rt ra rb) rt (eaX s ra rb) 4 s

/-- `ldarx` (41 R335): load a doubleword and reserve. -/
def execLdarx (rt ra rb : Gpr) (s : State) : Result :=
  admitted (.ldarx rt ra rb) s <|
    loadReserve (.ldarx rt ra rb) rt (eaX s ra rb) 8 s

/-- `stwcx.` (41 R336): store a word conditionally. -/
def execStwcxDot (rs ra rb : Gpr) (s : State) : Result :=
  admitted (.stwcxDot rs ra rb) s <|
    storeConditional (.stwcxDot rs ra rb) (s.x rs) (eaX s ra rb) 4 s

/-- `stdcx.` (41 R337): store a doubleword conditionally. -/
def execStdcxDot (rs ra rb : Gpr) (s : State) : Result :=
  admitted (.stdcxDot rs ra rb) s <|
    storeConditional (.stdcxDot rs ra rb) (s.x rs) (eaX s ra rb) 8 s

/-- `sync` (41 R338): every earlier access is complete already (20_memory.md R141, log 25). -/
def execSync (s : State) : Result :=
  admitted .sync s <|
    completed s

end Sys2Proof.Machine
end

