-- ==== Sys2Proof/Machine/Fetch.lean ====
section
/-! DEFINITION. Instruction fetch (20_memory.md R102), and the placing of a word where it is fetched. -/

namespace Sys2Proof.Machine

/-- The address presented to storage to fetch the next instruction: `pc`, or `pc XOR 4` in Little-Endian mode (R102). -/
def State.fetchAddress (s : State) : Dword :=
  if s.msrBit msrLE then s.codeAddress s.pc ^^^ 4 else s.codeAddress s.pc

/-- The SRR1 status bits of an Instruction Storage interrupt (R131, 60_exceptions.md R714). -/
def fetchFaultStatus (f : TranslationFault) : Dword :=
  (if f.notFound then oneBit 64 33 else 0) ||| (if f.directStore then oneBit 64 35 else 0)
    ||| (if f.protection then oneBit 64 36 else 0) ||| (if f.segmentMiss then oneBit 64 42 else 0)

/-- The real address of the next instruction, or the SRR1 status of the Instruction Storage interrupt. A direct-store
segment is never fetched from (R132). -/
def fetchReal (s : State) : Except Dword Dword :=
  match translate s .ifetch s.fetchAddress with
  | .error f => .error (fetchFaultStatus f)
  | .ok (real, attrs) => if attrs.directStore then .error (oneBit 64 35) else .ok real

/-- The four real addresses of an instruction word. -/
def wordAddresses (real : Dword) : List Dword := [real, real + 1, real + 2, real + 3]

/-- What decodes at `pc`, or the SRR1 status of the Instruction Storage interrupt. -/
def fetchDecode (s : State) : Except Dword Decoded :=
  match fetchReal s with
  | .error status => .error status
  | .ok real => .ok (decodeBytes (s.mem.readAll (wordAddresses real)))

/-- `s` with the word `w` where the next instruction is fetched. -/
def State.placeWord (s : State) (w : Word) : State :=
  match fetchReal s with
  | .error _ => s
  | .ok real => { s with mem := s.mem.writeAll (wordAddresses real) (bytesOfWord w) }

end Sys2Proof.Machine
end

