-- ==== Sys2Proof/Machine/Context.lean ====
section
/-! DEFINITION. The requirements of Appendix L.4 on a program that alters the context it runs in (70_reset_and_hazards.md
R806 to R808), read off the state before and after the alteration (log 30). -/

namespace Sys2Proof.Machine

/-- The outcome of an instruction that alters a context and ends in `t`. A broken requirement is refused (R808), or
executed with the new context at once and the state marked, by the configuration's policy. -/
def contextAltered (broken : Bool) (t : State) : Result :=
  if broken then
    match t.cfg.context with
    | .refuse => .refused .contextAlteration
    | .execute => .next { t with flagged := true }
  else .next t

/-- The attributes of the location the next instruction is fetched from. -/
def fetchAttrs (s : State) : StorageAttrs :=
  match translate s .ifetch s.fetchAddress with
  | .ok (_, attrs) => attrs
  | .error _ => {}

/-- The bytes of the next instruction, if its fetch is not stopped. -/
def fetchedBytes (s : State) : Option (List Byte) :=
  match fetchReal s with
  | .ok real => some (s.mem.readAll (wordAddresses real))
  | .error _ => none

/-- Do the contexts of `s` and `t` find the same instruction after the one at `s.pc`? -/
def sameCode (s t : State) : Bool :=
  fetchedBytes { s with pc := s.nextPc } == fetchedBytes { t with pc := s.nextPc }

/-- Is the next instruction fetched from the real address equal to its effective address? -/
def fetchedIdentically (s : State) : Bool :=
  match fetchReal s with
  | .ok real => real == s.fetchAddress
  | .error _ => false

/-- `MSR_IR` is altered from code that is not mapped virtual equals real (R806): the instruction and the one after it, in
the context that relocates. -/
def relocationBroken (s : State) (m : Dword) : Bool :=
  let t := { s with msr := m }
  let on := if s.msrBit msrIR then s else t
  s.msrBit msrIR != t.msrBit msrIR && !(fetchedIdentically on && fetchedIdentically { on with pc := on.nextPc })

/-- `MSR_POW` is altered where that needs a special sequence (R806). -/
def powerBroken (s : State) (m : Dword) : Bool := s.cfg.powSequence && bit m msrPOW != s.msrBit msrPOW

/-- The requirements on `mtmsr` (R806) that `MSR <- m` breaks. -/
def msrBroken (s : State) (m : Dword) : Bool :=
  relocationBroken s m || powerBroken s m || (s.cfg.leSequence && bit m msrLE != s.msrBit msrLE)

/-- The Segment Register number in an effective address, its high-order four bits of 32 (48_supervisor.md R674). -/
def segmentOf (v : Dword) : BitVec 4 := slice v 32 4

/-- `SR[n] <- v`. -/
def State.setSr (s : State) (n : BitVec 4) (v : Word) : State :=
  { s with sr := s.sr.set n.toNat v (by have := n.isLt; omega) }

/-- `SR[n]`. -/
def State.srOf (s : State) (n : BitVec 4) : Word := s.sr[n.toNat]'(by have := n.isLt; omega)

/-- Is the translation the identity of the reference configuration? Under it the translation registers have no effect, and
only the requirements on MSR bits can matter (R808). It is read as the empty table (log 30). -/
def State.identityTranslation (s : State) : Bool := s.cfg.xlate.isEmpty

/-- The requirement on a Segment Register (R807): the one that instruction fetch uses, for this instruction or the next
one, changes in no bit but the Key bits; none under the identity translation (R808). -/
def segmentBroken (s : State) (n : BitVec 4) (v : Word) : Bool :=
  let used (a : Dword) : Bool := segmentOf a == n && (fetchAttrs { s with pc := a }).block == none
  !s.identityTranslation && s.msrBit msrIR && (used s.pc || used s.nextPc) &&
    (s.srOf n ^^^ v) &&& ~~~ s.cfg.excepted.segment != 0

/-- Does IBAT pair `n` map the code address `a`, with instruction relocation on? -/
def ibatMaps (s : State) (n : Nat) (a : Dword) : Bool :=
  s.msrBit msrIR && (fetchAttrs { s with pc := a }).block == some (BitVec.ofNat 2 n)

/-- Is IBAT pair `n` used for instruction fetch (R807): does it map this instruction or the next one? -/
def ibatInUse (s : State) (n : Nat) : Bool := ibatMaps s n s.pc || ibatMaps s n s.nextPc

/-- The places of V and the Key bits in IBAT register `k` of the eight; the upper registers have the even numbers. -/
def State.ibatBits (s : State) (k : Nat) : IbatBits :=
  if k % 2 = 0 then s.cfg.excepted.ibatUpper else s.cfg.excepted.ibatLower

/-- The bits other than the Key bits in which IBAT register `k` of the eight differs between `s` and `t`. -/
def ibatChange (s t : State) (k : Nat) : Dword :=
  (s.narrow (s.ibat[k]?.getD 0) ^^^ t.narrow (t.ibat[k]?.getD 0)) &&& ~~~ (s.ibatBits k).keys

/-- Does IBAT register `k` of the eight differ between `s` and `t` in a field other than V and the Key bits? -/
def ibatFieldAltered (s t : State) (k : Nat) : Bool := ibatChange s t k &&& ~~~ (s.ibatBits k).valid != 0

/-- Register `k` of the eight IBAT registers receives `v`, and the record of alterations notes it where a field other than
V and the Key bits changes (log 30). -/
def State.alterIbat (s : State) (k : Nat) (v : Dword) : State :=
  let t := { s with ibat := s.ibat.setIfInBounds k (s.narrow v) }
  { t with ibatAltered := if ibatFieldAltered s t k then s.ibatAltered.setIfInBounds k true else s.ibatAltered }

/-- The other register of the pair of IBAT register `k` of the eight. -/
def otherHalf (k : Nat) : Nat := if k % 2 = 0 then k + 1 else k - 1

/-- Does a write to register `k` of the eight that makes `s` into `t` leave out R807's sequence for an IBAT pair that then
translates the current instruction stream? It does where it alters a field other than V and the Key bits (so that not all
of them were set while V remained zero) and a field of the other register is altered too, both since the last context
synchronizing operation (log 30). -/
def ibatUnsequenced (s : State) (k : Nat) (t : State) : Bool :=
  ibatInUse t (k / 2) && ibatFieldAltered s t k && s.ibatAltered[otherHalf k]?.getD false

/-- The requirement on an IBAT register (R807) where `s` becomes `t` by writing register `k` of the eight, with
instruction relocation on. The Key bits are always free. Any other change must leave the next instruction as it is; for a
pair that instruction fetch uses before or after it, that instruction must be mapped; for one that it uses before, only V
may change beside the Key bits; and one that it uses after is brought there by the sequence of R807. -/
def ibatBroken (s : State) (k : Nat) (t : State) : Bool :=
  s.msrBit msrIR && ibatChange s t k != 0 &&
    (ibatInUse s (k / 2) && ibatFieldAltered s t k || !sameCode s t
      || (ibatInUse s (k / 2) || ibatInUse t (k / 2)) && (fetchedBytes { t with pc := s.nextPc }).isNone
      || ibatUnsequenced s k t)

/-- The requirements on `mtspr` (R807) that writing register `n`, which makes `s` into `t`, breaks: SDR1 with relocation
on, the ASR where the next instruction changes, an IBAT as above. None under the identity translation (R808): the ASR and
the IBATs then change no fetch. -/
def sprBroken (s : State) (n : SprNum) (t : State) : Bool :=
  match n.toNat with
  | 25 => !s.identityTranslation && (s.msrBit msrIR || s.msrBit msrDR)
  | 280 => s.msrBit msrIR && !sameCode s t
  | k => decide (528 ≤ k ∧ k ≤ 535) && ibatBroken s (k - 528) t

end Sys2Proof.Machine
end

