-- ==== Sys2Proof/Machine/SprMove.lean ====
section
/-! DEFINITION. Moves to and from the Special Purpose Registers, the CR and the Time Base (43_fixed_logical_shift.md R470 to R474, 47_storage_control.md R658). -/

namespace Sys2Proof.Machine

/-- A value as the XER stores it: SO, OV, CA, the byte count, and the reserved bits the implementation copies
(10_state.md R36, R58; log 11). -/
def xerStored (c : Config) (v : Word) : Word := v &&& (0xE000007F ||| c.xerCopy)

/-- A value as the EAR stores it: E, RID, and the reserved bits the implementation copies (10_state.md R52, R58). -/
def earStored (c : Config) (v : Word) : Word := v &&& (0x8000003F ||| c.earCopy)

/-- `SPR(n) <- v` for every number `mtspr` may name (R470). Writing the Decrementer requests an interrupt when its bit 0
goes from 0 to 1 (60_exceptions.md R761); writing half of the Time Base keeps the other (R756). -/
def writeSpr (n : SprNum) (v : Dword) (s : State) : State :=
  match n.toNat with
  | 1 => { s with xer := xerStored s.cfg (lowWord v) }
  | 8 => { s with lr := s.narrow v }
  | 9 => { s with ctr := s.narrow v }
  | 18 => { s with dsisr := lowWord v }
  | 19 => { s with dar := s.narrow v }
  | 22 => { s with dec := lowWord v, decPending := s.decPending || (!bit s.dec 0 && bit (lowWord v) 0) }
  | 25 => { s with sdr1 := s.narrow v }
  | 26 => { s with srr0 := s.narrow v }
  | 27 => { s with srr1 := s.narrow v }
  | 280 => { s with asr := s.narrow v }
  | 282 => { s with ear := earStored s.cfg (lowWord v) }
  | 284 => { s with tb := slice s.tb 0 32 ++ lowWord v }
  | 285 => { s with tb := lowWord v ++ lowWord s.tb }
  | 1022 => { s with fpecr := lowWord v }
  | 1023 => { s with pir := lowWord v }
  | k =>
    if 272 ≤ k ∧ k ≤ 275 then { s with sprg := s.sprg.setIfInBounds (k - 272) (s.narrow v) }
    else if 528 ≤ k ∧ k ≤ 535 then s.alterIbat (k - 528) v
    else if 536 ≤ k ∧ k ≤ 543 then { s with dbat := s.dbat.setIfInBounds (k - 536) (s.narrow v) }
    else s

/-- `SPR(n)` for every number `mfspr` may name (R471); a 32-bit register is zero-extended. -/
def readSpr (n : SprNum) (s : State) : Dword :=
  match n.toNat with
  | 1 => zext s.xer
  | 8 => s.narrow s.lr
  | 9 => s.narrow s.ctr
  | 18 => zext s.dsisr
  | 19 => s.narrow s.dar
  | 22 => zext s.dec
  | 25 => s.narrow s.sdr1
  | 26 => s.narrow s.srr0
  | 27 => s.narrow s.srr1
  | 280 => s.narrow s.asr
  | 282 => zext s.ear
  | 287 => zext s.cfg.pvr
  | 1022 => zext s.fpecr
  | 1023 => zext s.pir
  | k =>
    if 272 ≤ k ∧ k ≤ 275 then s.narrow (s.sprg[k - 272]?.getD 0)
    else if 528 ≤ k ∧ k ≤ 535 then s.narrow (s.ibat[k - 528]?.getD 0)
    else if 536 ≤ k ∧ k ≤ 543 then s.narrow (s.dbat[k - 536]?.getD 0)
    else 0

/-- The CR bits that an FXM field selects, four for each of its bits (R472). -/
def fxmMask (fxm : BitVec 8) : Word :=
  (List.range 8).foldl (fun m i => if bit fxm i then m ||| ones 32 (4 * i) 4 else m) 0

/-- The Time Base as `mftb` reads it (47_storage_control.md R658): TBR 269 is the upper half, 268 the whole on a 64-bit
implementation and the lower half on a 32-bit one. -/
def readTbr (n : SprNum) (s : State) : Dword := if n = 269 then zext (slice s.tb 0 32) else s.narrow s.tb

/-- `mtspr` (43 R470): the SPR receives RS, within the requirements of 70_reset_and_hazards.md R807. -/
def execMtspr (spr : SprNum) (rs : Gpr) (s : State) : Result :=
  admitted (.mtspr spr rs) s <|
    contextAltered (sprBroken s spr (writeSpr spr (s.x rs) s)) (writeSpr spr (s.x rs) s).advance

/-- `mfspr` (43 R471): RT receives the SPR. -/
def execMfspr (rt : Gpr) (spr : SprNum) (s : State) : Result :=
  admitted (.mfspr rt spr) s <|
    completed (s.setX rt (readSpr spr s))

/-- `mtcrf` (43 R472): the CR fields FXM selects receive the low-order word of RS. -/
def execMtcrf (fxm : BitVec 8) (rs : Gpr) (s : State) : Result :=
  admitted (.mtcrf fxm rs) s <|
    completed { s with cr := merge (fxmMask fxm) (lowWord (s.x rs)) s.cr }

/-- `mcrxr` (43 R473): CR field BF receives `XER[0:3]`, which become 0. -/
def execMcrxr (bf : CrField) (s : State) : Result :=
  admitted (.mcrxr bf) s <|
    completed { s.setCrField bf (slice s.xer 0 4) with xer := withSlice s.xer 0 0#4 }

/-- `mfcr` (43 R474): RT receives the CR. -/
def execMfcr (rt : Gpr) (s : State) : Result :=
  admitted (.mfcr rt) s <|
    completed (s.setX rt (zext s.cr))

/-- `mftb` (47 R658): RT receives the Time Base or its upper half. -/
def execMftb (rt : Gpr) (tbr : SprNum) (s : State) : Result :=
  admitted (.mftb rt tbr) s <|
    completed (s.setX rt (readTbr tbr s))

end Sys2Proof.Machine
end

