-- ==== Sys2Proof/Machine/StorageControl.lean ====
section
/-! DEFINITION. Cache and ordering instructions (47_storage_control.md). -/

namespace Sys2Proof.Machine

/-- A cache instruction other than `dcbz`: its address is translated without the Little-Endian modification
(20_memory.md R109), a failure is a Data Storage interrupt, and otherwise nothing changes (R659, D5, log 25). -/
def cacheBlock (kind : AccessKind) (ea : Dword) (s : State) : Result :=
  match translate s kind (s.iea ea) with
  | .error f => interrupt (.dataStorage (dataFaultDsisr kind f) (some (s.iea ea))) s
  | .ok _ => completed s

/-- The first byte of the cache block that holds an address (R659). -/
def blockBase (c : Config) (ea : Dword) : Dword := (ea >>> c.blockLog2) <<< c.blockLog2

/-- The real addresses of a block. -/
def blockReals (c : Config) (real : Dword) : List Dword :=
  (List.range (2 ^ c.blockLog2)).map fun k => real + BitVec.ofNat 64 k

/-- `dcbz` (R654): the block that holds EA becomes zero. Alignment by policy case (g), then Data Storage as a store. A block
whose translation faults has no storage class that R130 gives: it takes Data Storage, never case (g) (DESIGN CHOICE,
unsafe: log 35). -/
def zeroBlock (i : Instr) (ea : Dword) (s : State) : Result :=
  match translate s .store (blockBase s.cfg (s.iea ea)) with
  | .error f => interrupt (.dataStorage (dataFaultDsisr .store f) (some (s.iea ea))) s
  | .ok (real, attrs) =>
    if choiceTraps s.cfg.align.zeroBlock i (s.iea ea) s && s.msrBit msrDR && (attrs.writeThrough || attrs.cachingInhibited) then
      interrupt (alignmentCause i .zeroBlock ea s) s
    else if attrs.directStore then .fault .directStoreAccess
    else
      completed { s with
        mem := s.mem.writeAll (blockReals s.cfg real) (List.replicate (2 ^ s.cfg.blockLog2) 0) }

/-- `icbi` (47 R650): no instruction cache to invalidate. -/
def execIcbi (ra rb : Gpr) (s : State) : Result :=
  admitted (.icbi ra rb) s <|
    cacheBlock .load (eaX s ra rb) s

/-- `isync` (47 R651): every instruction boundary is context synchronizing (20_memory.md R143). Only the model's record of
IBAT alterations ends here (70_reset_and_hazards.md R802, R807; log 30). -/
def execIsync (s : State) : Result :=
  admitted .isync s <|
    completed { s with ibatAltered := noneAltered }

/-- `dcbt` (47 R652): a hint. -/
def execDcbt (ra rb : Gpr) (s : State) : Result :=
  admitted (.dcbt ra rb) s <|
    completed s

/-- `dcbtst` (47 R653): a hint. -/
def execDcbtst (ra rb : Gpr) (s : State) : Result :=
  admitted (.dcbtst ra rb) s <|
    completed s

/-- `dcbz` (47 R654): set the block to zero. -/
def execDcbz (ra rb : Gpr) (s : State) : Result :=
  admitted (.dcbz ra rb) s <|
    zeroBlock (.dcbz ra rb) (eaX s ra rb) s

/-- `dcbst` (47 R655): no data cache to write back. -/
def execDcbst (ra rb : Gpr) (s : State) : Result :=
  admitted (.dcbst ra rb) s <|
    cacheBlock .load (eaX s ra rb) s

/-- `dcbf` (47 R656): no data cache to flush. -/
def execDcbf (ra rb : Gpr) (s : State) : Result :=
  admitted (.dcbf ra rb) s <|
    cacheBlock .load (eaX s ra rb) s

/-- `eieio` (47 R657): accesses are in order already (20_memory.md R142). -/
def execEieio (s : State) : Result :=
  admitted .eieio s <|
    completed s

end Sys2Proof.Machine
end

