-- ==== Sys2Proof/Machine/Supervisor.lean ====
section
/-! DEFINITION. Supervisor instructions and External Control (48_supervisor.md). -/

namespace Sys2Proof.Machine

/-- `EAR_E`. -/
def State.earEnabled (s : State) : Bool := bit s.ear 0

/-- `EAR_RID`. -/
def State.earRid (s : State) : BitVec 6 := slice s.ear 26 6

/-- The real address an external control instruction sends: the translation of the word-modified EA (R683, R687). -/
def externalReal (i : Instr) (kind : AccessKind) (ea : Dword) (s : State) : Except Stop Dword :=
  if alignmentTraps i s .external kind (s.iea ea) 4 then .error (.interrupt (alignmentCause i .other ea s))
  else if !s.earEnabled then .error (.interrupt (.dataStorage (oneBit 32 11) none))
  else
    match translate s kind (if s.msrBit msrLE then s.iea ea ^^^ 4 else s.iea ea) with
    | .error f => .error (.interrupt (.dataStorage (dataFaultDsisr kind f) (some (s.iea ea))))
    | .ok (real, attrs) =>
      if attrs.directStore then
        .error (.interrupt (.dataStorage (oneBit 32 5 ||| dsisrStore kind) (some (s.iea ea))))
      else .ok real

/-- An external control operation with `MSR_DR = 0` is boundedly undefined (R683, R684): the model refuses it where
`INVALID_FORM_POLICY` says so (00_scope.md R19), and else performs it at the untranslated address and marks the state as
outside the architecture. MSR_DR is tested first. Where EAR_E = 0 beside it, or the policy traps a misaligned EA, the spec
does not say whether the undefined operation or the Data Storage or Alignment interrupt wins: here the operation is refused,
or the state is marked and that interrupt taken (DESIGN CHOICE: log 20). -/
def externalControl (s : State) (body : State → Result) : Result :=
  if s.msrBit msrDR then body s
  else
    match s.cfg.invalidForm with
    | .illegal => body { s with flagged := true }
    | .refuse => .refused .boundedlyUndefined

/-- `eciwx` (R683): a load request, and the device's word into RT; where no answer is listed, a free value (log 20). -/
def externalIn (i : Instr) (rt : Gpr) (ea : Dword) (s : State) : Result :=
  match externalReal i .load ea s with
  | .error e => e.outcome s
  | .ok real =>
    let s' := { s with extOut := s.extOut ++ [ExtRequest.load s.earRid real] }
    match s.extIn with
    | w :: rest => completed { s'.setX rt (zext w) with extIn := rest }
    | [] => completed ((s'.setX rt (zext (lowWord (s.free 0)))).drawn 1)

/-- `ecowx` (R684): a store request with the low-order word of RS. -/
def externalOut (i : Instr) (v ea : Dword) (s : State) : Result :=
  match externalReal i .store ea s with
  | .error e => e.outcome s
  | .ok real => completed { s with extOut := s.extOut ++ [ExtRequest.store s.earRid real (lowWord v)] }

/-- `rfi` (48 R670): return from interrupt. Of the requirements of 70_reset_and_hazards.md R806 only the one on `MSR_POW`
applies: `rfi` is the way to change LE, and IR together with the address. -/
def execRfi (s : State) : Result :=
  admitted .rfi s <|
    contextAltered (powerBroken s (returnFromInterrupt s).msr) (returnFromInterrupt s)

/-- `mtmsr` (48 R671): the MSR receives RS, within the requirements of 70_reset_and_hazards.md R806; the new MSR governs
the next fetch (R686, log 24). -/
def execMtmsr (rs : Gpr) (s : State) : Result :=
  admitted (.mtmsr rs) s <|
    contextAltered (msrBroken s (msrStored s.cfg (s.x rs))) { s with msr := msrStored s.cfg (s.x rs) }.advance

/-- `mfmsr` (48 R672): RT receives the MSR. -/
def execMfmsr (rt : Gpr) (s : State) : Result :=
  admitted (.mfmsr rt) s <|
    completed (s.setX rt s.msr)

/-- `mtsr` (48 R673): the Segment Register receives RS, within the requirements of 70_reset_and_hazards.md R807. -/
def execMtsr (sr : BitVec 4) (rs : Gpr) (s : State) : Result :=
  admitted (.mtsr sr rs) s <|
    contextAltered (segmentBroken s sr (lowWord (s.x rs))) (s.setSr sr (lowWord (s.x rs))).advance

/-- `mtsrin` (48 R674): the Segment Register RB selects receives RS, within the requirements of R807. -/
def execMtsrin (rs rb : Gpr) (s : State) : Result :=
  admitted (.mtsrin rs rb) s <|
    contextAltered (segmentBroken s (segmentOf (s.x rb)) (lowWord (s.x rs)))
      (s.setSr (segmentOf (s.x rb)) (lowWord (s.x rs))).advance

/-- `mfsr` (48 R675): RT receives the Segment Register. -/
def execMfsr (rt : Gpr) (sr : BitVec 4) (s : State) : Result :=
  admitted (.mfsr rt sr) s <|
    completed (s.setX rt (zext (s.srOf sr)))

/-- `mfsrin` (48 R676): RT receives the Segment Register RB selects. -/
def execMfsrin (rt rb : Gpr) (s : State) : Result :=
  admitted (.mfsrin rt rb) s <|
    completed (s.setX rt (zext (s.srOf (segmentOf (s.x rb)))))

/-- `dcbi` (48 R677): no data cache to invalidate; checked as a store. -/
def execDcbi (ra rb : Gpr) (s : State) : Result :=
  admitted (.dcbi ra rb) s <|
    cacheBlock .store (eaX s ra rb) s

/-- `slbie` (48 R678): no segment lookaside buffer (D5). -/
def execSlbie (rb : Gpr) (s : State) : Result :=
  admitted (.slbie rb) s <|
    completed s

/-- `slbia` (48 R679): no segment lookaside buffer (D5). -/
def execSlbia (s : State) : Result :=
  admitted .slbia s <|
    completed s

/-- `tlbie` (48 R680): no translation lookaside buffer (D5). -/
def execTlbie (rb : Gpr) (s : State) : Result :=
  admitted (.tlbie rb) s <|
    completed s

/-- `tlbia` (48 R681): no translation lookaside buffer (D5). -/
def execTlbia (s : State) : Result :=
  admitted .tlbia s <|
    completed s

/-- `tlbsync` (48 R682): no other processor (D11). -/
def execTlbsync (s : State) : Result :=
  admitted .tlbsync s <|
    completed s

/-- `eciwx` (48 R683): external control in. -/
def execEciwx (rt ra rb : Gpr) (s : State) : Result :=
  admitted (.eciwx rt ra rb) s <|
    externalControl s (externalIn (.eciwx rt ra rb) rt (eaX s ra rb))

/-- `ecowx` (48 R684): external control out. -/
def execEcowx (rs ra rb : Gpr) (s : State) : Result :=
  admitted (.ecowx rs ra rb) s <|
    externalControl s (externalOut (.ecowx rs ra rb) (s.x rs) (eaX s ra rb))

end Sys2Proof.Machine
end

