-- ==== Sys2Proof/Machine/Cycle.lean ====
section
/-! DEFINITION. One step of the machine (60_exceptions.md R782): interrupt requests, fetch and decode, execution,
Floating-Point Assist, Trace, and then what the environment does before the next step. -/

namespace Sys2Proof.Machine

/-! ## Execution, Floating-Point Assist and Trace -/

/-- The branch instructions of the Trace rule (60_exceptions.md R721). -/
def isBranch : Instr → Bool
  | .b _ _ _ => true
  | .bc _ _ _ _ _ => true
  | .bclr _ _ _ => true
  | .bcctr _ _ _ => true
  | _ => false

/-- Does the completion of `i`, begun in `s`, cause a Trace interrupt (R721)? -/
def traces (i : Instr) (s : State) : Bool :=
  s.cfg.hasTrace && ((s.msrBit msrSE && i != .rfi) || (s.msrBit msrBE && isBranch i))

/-- The outcome of `i`, begun in `s`, with the Trace interrupt where it completed without another one (R782 step 10). A
floating-point enabled exception that `mtmsr` unmasked comes first (R685, R781 D): it is taken before the next
instruction, and the Trace exception does not persist (R780). -/
def withTrace (i : Instr) (s : State) (r : Result) : Result :=
  match r with
  | .next t =>
    if traces i s && t.lastInterrupt.isNone && !t.fpEnabledException then .next (takeInterrupt .trace t) else .next t
  | other => other

/-- Does `i`, begun in `s`, ask for software assistance (R722)? Which of the floating-point operations other than loads and
stores do so, and for which operands, is the implementation's (log 27). -/
def assists (i : Instr) (s : State) : Bool :=
  let w := encode i
  s.cfg.hasFpAssist && (slice w 0 6 == 59 || slice w 0 6 == 63)
    && Config.fpAssist w (s.f (slice w 11 5)) (s.f (slice w 16 5)) (s.f (slice w 21 5)) s.fpscr

/-- The outcome of `i`, begun in `s`, with the Floating-Point Assist interrupt in its place where the implementation asks
for it and no interrupt of higher priority was taken (R722, R781 C). -/
def withAssist (i : Instr) (s : State) (r : Result) : Result :=
  match r with
  | .next t => if t.lastInterrupt.isNone && assists i s then interrupt .fpAssist s else .next t
  | other => other

/-- Steps (7) to (10) of R782. -/
def runInstruction (s : State) : Result :=
  match fetchDecode s with
  | .error status => interrupt (.instructionStorage status) s
  | .ok (.instr i) => withTrace i s (withAssist i s (exec i s))
  | .ok (.reservedBits i) => reservedBitsForm i s
  | .ok (.rejected _) => interrupt (.program .illegal) s

/-- Steps (2) to (10) of R782. `MSR_POW = 1` stalls (R768, log 21). -/
def select (s : State) : Result :=
  if s.sresetReq then interrupt .systemReset s
  else if s.mcheckReq then
    if s.msrBit msrME then interrupt .machineCheck s else .next { s with checkstop := true }
  else if s.fpEnabledException then interrupt (.program .fpEnabledLate) s
  else if s.extPending && s.msrBit msrEE then interrupt .external s
  else if s.decPending && s.msrBit msrEE then interrupt .decrementer s
  else if s.msrBit msrPOW then .next s
  else runInstruction s

/-! ## The environment (00_scope.md R22, log 7) -/

/-- One tick of the Time Base and the Decrementer (60_exceptions.md R751, R760). -/
def tick (s : State) : State :=
  let d := s.dec - 1
  { s with tb := s.tb + 1, dec := d, decPending := s.decPending || (!bit s.dec 0 && bit d 0) }

/-- `n` ticks. -/
def ticks : Nat → State → State
  | 0, s => s
  | n + 1, s => ticks n (tick s)

/-- One byte stored by another agent: it clears a reservation on its granule (20_memory.md R147 a). -/
def foreignStore (c : Host.Cell) (s : State) : State :=
  let a := BitVec.ofNat 64 c.1
  { s with
    mem := s.mem.write a c.2
    reserve := if s.holdsReservation a then none else s.reserve }

/-- Bytes stored by another agent. -/
def foreignStores : List Host.Cell → State → State
  | [], s => s
  | c :: cs, s => foreignStores cs (foreignStore c s)

/-- One event of the environment. -/
def happen (e : EnvEvent) (s : State) : State :=
  match e with
  | .ticks n => ticks n s
  | .systemReset => { s with sresetReq := true }
  | .machineCheck => { s with mcheckReq := true }
  | .external level => { s with extPending := level }
  | .reservationLost => { s with reserve := none }
  | .stores bytes => foreignStores bytes s

/-- The events of one gap between two steps, in order: any number of ticks may stand beside any request (R751). -/
def happenAll : List EnvEvent → State → State
  | [], s => s
  | e :: es, s => happenAll es (happen e s)

/-- What the environment does between two steps: the next list of events, or the configured ticks where none is listed. -/
def environment (s : State) : State :=
  match s.env with
  | [] => ticks s.cfg.ticksPerStep s
  | es :: rest => happenAll es { s with env := rest }

/-! ## Checkstop -/

/-- Consecutive free values, as the registers of this implementation hold them. -/
def State.freeRegs (s : State) (n from_ : Nat) : Vector Dword n := Vector.ofFn fun k => s.narrow (s.free (from_ + k))

/-- The registers after a reset that ends Checkstop (70_reset_and_hazards.md R791, R792): `MSR_RESET`, no System
Reset or Machine Check request, the External level as it is; every other register, the Decrementer's request and the
reservation are free values. Storage is outside the processor and stays (log 22). -/
def State.redrawn (s : State) : State :=
  { s with
    gpr := s.freeRegs 32 0, fpr := Vector.ofFn fun k => s.free (32 + k), fprSingle := lowWord (s.free 64)
    cr := lowWord (s.free 65), lr := s.narrow (s.free 66), ctr := s.narrow (s.free 67)
    xer := xerStored s.cfg (lowWord (s.free 68)), fpscr := fpscrSummed s.cfg (lowWord (s.free 69))
    msr := msrStored s.cfg s.cfg.msrReset, srr0 := s.narrow (s.free 70), srr1 := s.narrow (s.free 71)
    dar := s.narrow (s.free 72), dsisr := lowWord (s.free 73), sprg := s.freeRegs 4 74, dec := lowWord (s.free 78)
    tb := s.free 79, sdr1 := s.narrow (s.free 80), asr := s.free 81, ear := earStored s.cfg (lowWord (s.free 82))
    ibat := s.freeRegs 8 83, dbat := s.freeRegs 8 91, sr := Vector.ofFn fun k => lowWord (s.free (99 + k))
    pir := lowWord (s.free 115), fpecr := lowWord (s.free 116)
    reserve := if bit (s.free 117) 0 then some (s.free 118) else none, decPending := bit (s.free 117) 1
    sresetReq := false, mcheckReq := false, checkstop := false, draws := s.draws + 119
    lastInterrupt := some .systemReset, ibatAltered := noneAltered }

/-- The processor restarted at the System Reset vector. -/
def State.restarted (s : State) : State :=
  s.redrawn.goTo (s.redrawn.vectorBase + vectorOffset .systemReset)

/-- Checkstop (60_exceptions.md R712): nothing happens but the arrival of inputs, until a System Reset request
(70_reset_and_hazards.md R792). -/
def stopped (s : State) : State := if s.sresetReq then s.restarted else s

/-- One step (R782): nothing in Checkstop; else the selection; then the environment. -/
def cycle (s : State) : Result :=
  let s0 := { s with lastInterrupt := none }
  if s.checkstop then .next (environment (stopped s0))
  else
    match select s0 with
    | .next t => .next (environment t)
    | other => other

end Sys2Proof.Machine
end

