-- ==== Sys2Proof/Machine/Step.lean ====
section
/-! DEFINITION. The step function and the placing of a word where the next step fetches it. -/

namespace Sys2Proof.Machine

/-- One step of the machine (60_exceptions.md R782). -/
def step (s : State) : Host.Outcome State Fault Refusal := cycle s

/-- `s` with the instruction whose bits are `w` stored where `step` fetches its next instruction (log 6). Every
instruction is one word of 32 bits. -/
def State.withFetchWord (s : State) (_nbits w : Nat) : State := s.placeWord (BitVec.ofNat 32 w)

end Sys2Proof.Machine
end

