-- ==== Sys2Proof/Safety.lean ====
section
/-! DEFINITION. The terms statements are made in: the invariant of the machine's state, what it means that a step or a
run stops, what an instruction may write, which storage operand it accesses, and how an exact value is delivered. -/

namespace Sys2Proof.Machine

/-- What every state the machine reaches has: each clause is a rule of the spec about what a piece of state can hold. -/
structure State.Inv (s : State) : Prop where
  /-- storage is in its canonical form -/
  memory : s.mem.wf = true
  /-- `pc` is a word address, within 32 bits in 32-bit mode (10_state.md R34) -/
  pc : s.codeAddress s.pc = s.pc
  /-- FPSCR bit 20 is 0 unless the implementation copies it; VX and FEX are what the exception and enable bits say (10_state.md R38, D4) -/
  fpscr : fpscrSummed s.cfg s.fpscr = s.fpscr
  /-- a reserved MSR bit is 0 unless the implementation copies it (10_state.md R58) -/
  msr : msrStored s.cfg s.msr = s.msr
  /-- a reserved XER bit is 0 unless the implementation copies it (10_state.md R36, R58) -/
  xer : xerStored s.cfg s.xer = s.xer
  /-- a reserved EAR bit is 0 unless the implementation copies it (10_state.md R52, R58) -/
  ear : earStored s.cfg s.ear = s.ear

/-- The outcome is a next state: the machine neither faults nor refuses. -/
def runs (r : Result) : Prop := ∃ t, r = .next t

/-- `k` steps lead from `s` to `t`. -/
def reaches : Nat → State → State → Prop
  | 0, s, t => s = t
  | k + 1, s, t => ∃ u, step s = .next u ∧ reaches k u t

/-! ## What an instruction may write, read off its rule -/

/-- The bits of CR field `n`. -/
def crFieldMask (n : CrField) : Word := ones 32 (4 * n.toNat) 4

/-- GPR `r` is a destination of the instruction: RT, RA of a logical instruction, RA of an update form, the registers a
multiple or string load fills. -/
def writesGpr (i : Instr) (s : State) (r : Gpr) : Bool :=
  match i with
  | .lbz rt _ _ | .lbzx rt _ _ | .lhz rt _ _ | .lhzx rt _ _ | .lha rt _ _ | .lhax rt _ _ | .lwz rt _ _
  | .lwzx rt _ _ | .lwa rt _ _ | .lwax rt _ _ | .ld rt _ _ | .ldx rt _ _ | .lhbrx rt _ _ | .lwbrx rt _ _
  | .lwarx rt _ _ | .ldarx rt _ _ | .addi rt _ _ | .addis rt _ _ | .add rt _ _ _ _ | .subf rt _ _ _ _
  | .addic rt _ _ | .addicDot rt _ _ | .subfic rt _ _ | .addc rt _ _ _ _ | .subfc rt _ _ _ _ | .adde rt _ _ _ _
  | .subfe rt _ _ _ _ | .addme rt _ _ _ | .subfme rt _ _ _ | .addze rt _ _ _ | .subfze rt _ _ _ | .neg rt _ _ _
  | .mulli rt _ _ | .mulld rt _ _ _ _ | .mullw rt _ _ _ _ | .mulhd rt _ _ _ | .mulhw rt _ _ _
  | .mulhdu rt _ _ _ | .mulhwu rt _ _ _ | .divd rt _ _ _ _ | .divw rt _ _ _ _ | .divdu rt _ _ _ _
  | .divwu rt _ _ _ _ | .mfspr rt _ | .mfcr rt | .mftb rt _ | .mfmsr rt | .mfsr rt _ | .mfsrin rt _
  | .eciwx rt _ _ => r == rt
  | .lbzu rt _ ra | .lbzux rt ra _ | .lhzu rt _ ra | .lhzux rt ra _ | .lhau rt _ ra | .lhaux rt ra _
  | .lwzu rt _ ra | .lwzux rt ra _ | .lwaux rt ra _ | .ldu rt _ ra | .ldux rt ra _ => r == rt || r == ra
  | .stbu _ _ ra | .stbux _ ra _ | .sthu _ _ ra | .sthux _ ra _ | .stwu _ _ ra | .stwux _ ra _ | .stdu _ _ ra
  | .stdux _ ra _ | .andiDot ra _ _ | .andisDot ra _ _ | .ori ra _ _ | .oris ra _ _ | .xori ra _ _
  | .xoris ra _ _ | .and ra _ _ _ | .or ra _ _ _ | .xor ra _ _ _ | .nand ra _ _ _ | .nor ra _ _ _
  | .eqv ra _ _ _ | .andc ra _ _ _ | .orc ra _ _ _ | .extsb ra _ _ | .extsh ra _ _ | .extsw ra _ _
  | .cntlzd ra _ _ | .cntlzw ra _ _ | .rldicl ra _ _ _ _ | .rldicr ra _ _ _ _ | .rldic ra _ _ _ _
  | .rlwinm ra _ _ _ _ _ | .rldcl ra _ _ _ _ | .rldcr ra _ _ _ _ | .rlwnm ra _ _ _ _ _ | .rldimi ra _ _ _ _
  | .rlwimi ra _ _ _ _ _ | .sld ra _ _ _ | .slw ra _ _ _ | .srd ra _ _ _ | .srw ra _ _ _ | .sradi ra _ _ _
  | .srawi ra _ _ _ | .srad ra _ _ _ | .sraw ra _ _ _ | .lfsu _ _ ra | .lfsux _ ra _ | .lfdu _ _ ra
  | .lfdux _ ra _ | .stfsu _ _ ra | .stfsux _ ra _ | .stfdu _ _ ra | .stfdux _ ra _ => r == ra
  | .lmw rt _ _ => decide (rt.toNat ≤ r.toNat)
  | .lswi rt _ nb => inWrappedRange rt (regsFor (nbBytes nb)) r
  | .lswx rt _ _ => r == rt || inWrappedRange rt (regsFor s.xerCount) r
  | _ => false

/-- FPR `r` is the destination of the instruction. -/
def writesFpr (i : Instr) (r : Fpr) : Bool :=
  match i with
  | .lfs frt _ _ | .lfsx frt _ _ | .lfsu frt _ _ | .lfsux frt _ _ | .lfd frt _ _ | .lfdx frt _ _
  | .lfdu frt _ _ | .lfdux frt _ _ | .fmr frt _ _ | .fneg frt _ _ | .fabs frt _ _ | .fnabs frt _ _
  | .fadd frt _ _ _ | .fadds frt _ _ _ | .fsub frt _ _ _ | .fsubs frt _ _ _ | .fmul frt _ _ _
  | .fmuls frt _ _ _ | .fdiv frt _ _ _ | .fdivs frt _ _ _ | .fmadd frt _ _ _ _ | .fmadds frt _ _ _ _
  | .fmsub frt _ _ _ _ | .fmsubs frt _ _ _ _ | .fnmadd frt _ _ _ _ | .fnmadds frt _ _ _ _ | .fnmsub frt _ _ _ _
  | .fnmsubs frt _ _ _ _ | .fsqrt frt _ _ | .fsqrts frt _ _ | .fres frt _ _ | .frsqrte frt _ _
  | .fsel frt _ _ _ _ | .frsp frt _ _ | .fctid frt _ _ | .fctidz frt _ _ | .fctiw frt _ _ | .fctiwz frt _ _
  | .fcfid frt _ _ | .mffs frt _ => r == frt
  | _ => false

/-- The CR bits an instruction may write. -/
def crWritten (i : Instr) : Word :=
  match i with
  | .crand bt _ _ | .cror bt _ _ | .crxor bt _ _ | .crnand bt _ _ | .crnor bt _ _ | .creqv bt _ _
  | .crandc bt _ _ | .crorc bt _ _ => oneBit 32 bt.toNat
  | .mcrf bf _ | .cmpi bf _ _ _ | .cmp bf _ _ _ | .cmpli bf _ _ _ | .cmpl bf _ _ _ | .mcrxr bf | .fcmpu bf _ _
  | .fcmpo bf _ _ | .mcrfs bf _ => crFieldMask bf
  | .stwcxDot _ _ _ | .stdcxDot _ _ _ | .addicDot _ _ _ | .andiDot _ _ _ | .andisDot _ _ _ => crFieldMask 0
  | .add _ _ _ _ rc | .subf _ _ _ _ rc | .addc _ _ _ _ rc | .subfc _ _ _ _ rc | .adde _ _ _ _ rc
  | .subfe _ _ _ _ rc | .addme _ _ _ rc | .subfme _ _ _ rc | .addze _ _ _ rc | .subfze _ _ _ rc | .neg _ _ _ rc
  | .mulld _ _ _ _ rc | .mullw _ _ _ _ rc | .mulhd _ _ _ rc | .mulhw _ _ _ rc | .mulhdu _ _ _ rc
  | .mulhwu _ _ _ rc | .divd _ _ _ _ rc | .divw _ _ _ _ rc | .divdu _ _ _ _ rc | .divwu _ _ _ _ rc
  | .and _ _ _ rc | .or _ _ _ rc | .xor _ _ _ rc | .nand _ _ _ rc | .nor _ _ _ rc | .eqv _ _ _ rc
  | .andc _ _ _ rc | .orc _ _ _ rc | .extsb _ _ rc | .extsh _ _ rc | .extsw _ _ rc | .cntlzd _ _ rc
  | .cntlzw _ _ rc | .rldicl _ _ _ _ rc | .rldicr _ _ _ _ rc | .rldic _ _ _ _ rc | .rlwinm _ _ _ _ _ rc
  | .rldcl _ _ _ _ rc | .rldcr _ _ _ _ rc | .rlwnm _ _ _ _ _ rc | .rldimi _ _ _ _ rc | .rlwimi _ _ _ _ _ rc
  | .sld _ _ _ rc | .slw _ _ _ rc | .srd _ _ _ rc | .srw _ _ _ rc | .sradi _ _ _ rc | .srawi _ _ _ rc
  | .srad _ _ _ rc | .sraw _ _ _ rc => if rc then crFieldMask 0 else 0
  | .mtcrf fxm _ => fxmMask fxm
  | .fmr _ _ rc | .fneg _ _ rc | .fabs _ _ rc | .fnabs _ _ rc | .fadd _ _ _ rc | .fadds _ _ _ rc
  | .fsub _ _ _ rc | .fsubs _ _ _ rc | .fmul _ _ _ rc | .fmuls _ _ _ rc | .fdiv _ _ _ rc | .fdivs _ _ _ rc
  | .fmadd _ _ _ _ rc | .fmadds _ _ _ _ rc | .fmsub _ _ _ _ rc | .fmsubs _ _ _ _ rc | .fnmadd _ _ _ _ rc
  | .fnmadds _ _ _ _ rc | .fnmsub _ _ _ _ rc | .fnmsubs _ _ _ _ rc | .fsqrt _ _ rc | .fsqrts _ _ rc
  | .fres _ _ rc | .frsqrte _ _ rc | .fsel _ _ _ _ rc | .frsp _ _ rc | .fctid _ _ rc | .fctidz _ _ rc
  | .fctiw _ _ rc | .fctiwz _ _ rc | .fcfid _ _ rc | .mffs _ rc | .mtfsfi _ _ rc | .mtfsf _ _ rc | .mtfsb0 _ rc
  | .mtfsb1 _ rc => if rc then crFieldMask 1 else 0
  | _ => 0

/-- The XER bits an instruction may write. -/
def xerWritten (i : Instr) : Word :=
  match i with
  | .add _ _ _ oe _ | .subf _ _ _ oe _ | .neg _ _ oe _ | .mulld _ _ _ oe _ | .mullw _ _ _ oe _
  | .divd _ _ _ oe _ | .divw _ _ _ oe _ | .divdu _ _ _ oe _ | .divwu _ _ _ oe _ => if oe then 0xC0000000 else 0
  | .addic _ _ _ | .addicDot _ _ _ | .subfic _ _ _ | .sradi _ _ _ _ | .srawi _ _ _ _ | .srad _ _ _ _
  | .sraw _ _ _ _ => 0x20000000
  | .addc _ _ _ oe _ | .subfc _ _ _ oe _ | .adde _ _ _ oe _ | .subfe _ _ _ oe _ | .addme _ _ oe _
  | .subfme _ _ oe _ | .addze _ _ oe _ | .subfze _ _ oe _ => if oe then 0xE0000000 else 0x20000000
  | .mtspr spr _ => if spr = 1 then 0xFFFFFFFF else 0
  | .mcrxr _ => 0xF0000000
  | _ => 0

/-- May the instruction write the FPSCR? -/
def writesFpscr (i : Instr) : Bool :=
  match i with
  | .fadd _ _ _ _ | .fadds _ _ _ _ | .fsub _ _ _ _ | .fsubs _ _ _ _ | .fmul _ _ _ _ | .fmuls _ _ _ _
  | .fdiv _ _ _ _ | .fdivs _ _ _ _ | .fmadd _ _ _ _ _ | .fmadds _ _ _ _ _ | .fmsub _ _ _ _ _
  | .fmsubs _ _ _ _ _ | .fnmadd _ _ _ _ _ | .fnmadds _ _ _ _ _ | .fnmsub _ _ _ _ _ | .fnmsubs _ _ _ _ _
  | .fsqrt _ _ _ | .fsqrts _ _ _ | .fres _ _ _ | .frsqrte _ _ _ | .frsp _ _ _ | .fctid _ _ _ | .fctidz _ _ _
  | .fctiw _ _ _ | .fctiwz _ _ _ | .fcfid _ _ _ | .fcmpu _ _ _ | .fcmpo _ _ _ | .mcrfs _ _ | .mtfsfi _ _ _
  | .mtfsf _ _ _ | .mtfsb0 _ _ | .mtfsb1 _ _ => true
  | _ => false

/-- May the instruction write the Link Register? -/
def writesLr (i : Instr) : Bool :=
  match i with
  | .b _ _ lk | .bc _ _ _ _ lk | .bclr _ _ lk | .bcctr _ _ lk => lk
  | .mtspr spr _ => spr == 8
  | _ => false

/-- May the instruction write the Count Register? -/
def writesCtr (i : Instr) : Bool :=
  match i with
  | .bc bo _ _ _ _ | .bclr bo _ _ => !bit bo 2
  | .mtspr spr _ => spr == 9
  | _ => false

/-! ## The storage operand of an instruction -/

/-- A data access: what it tells the Alignment interrupt of its registers, its class and kind, its effective address before
the mode truncates it, and its length in bytes. -/
structure Access where
  regs : DsisrRegs
  cls : AccessClass
  kind : AccessKind
  ea : Dword
  bytes : Nat
deriving DecidableEq, Repr

/-- The operand of a load or store, by its rule of 41_fixed_load_store.md or 44_float_load_store_move.md. `dcbz`, the cache
instructions and the external control instructions have rules of their own. -/
def accessOf (i : Instr) (s : State) : Option Access :=
  match i with
  | .lbz _ d ra => some ⟨.other, .fixed, .load, eaD s ra d, 1⟩
  | .lbzu _ d ra => some ⟨.update, .fixed, .load, eaDU s ra d, 1⟩
  | .lbzx _ ra rb => some ⟨.other, .fixed, .load, eaX s ra rb, 1⟩
  | .lbzux _ ra rb => some ⟨.update, .fixed, .load, eaXU s ra rb, 1⟩
  | .lhz _ d ra | .lha _ d ra => some ⟨.other, .fixed, .load, eaD s ra d, 2⟩
  | .lhzu _ d ra | .lhau _ d ra => some ⟨.update, .fixed, .load, eaDU s ra d, 2⟩
  | .lhzx _ ra rb | .lhax _ ra rb | .lhbrx _ ra rb => some ⟨.other, .fixed, .load, eaX s ra rb, 2⟩
  | .lhzux _ ra rb | .lhaux _ ra rb => some ⟨.update, .fixed, .load, eaXU s ra rb, 2⟩
  | .lwz _ d ra => some ⟨.other, .fixed, .load, eaD s ra d, 4⟩
  | .lwzu _ d ra => some ⟨.update, .fixed, .load, eaDU s ra d, 4⟩
  | .lwzx _ ra rb | .lwax _ ra rb | .lwbrx _ ra rb => some ⟨.other, .fixed, .load, eaX s ra rb, 4⟩
  | .lwzux _ ra rb | .lwaux _ ra rb => some ⟨.update, .fixed, .load, eaXU s ra rb, 4⟩
  | .lwa _ ds ra => some ⟨.other, .fixed, .load, eaDS s ra ds, 4⟩
  | .ld _ ds ra => some ⟨.other, .fixed, .load, eaDS s ra ds, 8⟩
  | .ldu _ ds ra => some ⟨.update, .fixed, .load, eaDSU s ra ds, 8⟩
  | .ldx _ ra rb => some ⟨.other, .fixed, .load, eaX s ra rb, 8⟩
  | .ldux _ ra rb => some ⟨.update, .fixed, .load, eaXU s ra rb, 8⟩
  | .lfs _ d ra => some ⟨.other, .float, .load, eaD s ra d, 4⟩
  | .lfsu _ d ra => some ⟨.update, .float, .load, eaDU s ra d, 4⟩
  | .lfsx _ ra rb => some ⟨.other, .float, .load, eaX s ra rb, 4⟩
  | .lfsux _ ra rb => some ⟨.update, .float, .load, eaXU s ra rb, 4⟩
  | .lfd _ d ra => some ⟨.other, .float, .load, eaD s ra d, 8⟩
  | .lfdu _ d ra => some ⟨.update, .float, .load, eaDU s ra d, 8⟩
  | .lfdx _ ra rb => some ⟨.other, .float, .load, eaX s ra rb, 8⟩
  | .lfdux _ ra rb => some ⟨.update, .float, .load, eaXU s ra rb, 8⟩
  | .stb _ d ra => some ⟨.other, .fixed, .store, eaD s ra d, 1⟩
  | .stbu _ d ra => some ⟨.update, .fixed, .store, eaDU s ra d, 1⟩
  | .stbx _ ra rb => some ⟨.other, .fixed, .store, eaX s ra rb, 1⟩
  | .stbux _ ra rb => some ⟨.update, .fixed, .store, eaXU s ra rb, 1⟩
  | .sth _ d ra => some ⟨.other, .fixed, .store, eaD s ra d, 2⟩
  | .sthu _ d ra => some ⟨.update, .fixed, .store, eaDU s ra d, 2⟩
  | .sthx _ ra rb | .sthbrx _ ra rb => some ⟨.other, .fixed, .store, eaX s ra rb, 2⟩
  | .sthux _ ra rb => some ⟨.update, .fixed, .store, eaXU s ra rb, 2⟩
  | .stw _ d ra => some ⟨.other, .fixed, .store, eaD s ra d, 4⟩
  | .stwu _ d ra => some ⟨.update, .fixed, .store, eaDU s ra d, 4⟩
  | .stwx _ ra rb | .stwbrx _ ra rb => some ⟨.other, .fixed, .store, eaX s ra rb, 4⟩
  | .stwux _ ra rb => some ⟨.update, .fixed, .store, eaXU s ra rb, 4⟩
  | .std _ ds ra => some ⟨.other, .fixed, .store, eaDS s ra ds, 8⟩
  | .stdu _ ds ra => some ⟨.update, .fixed, .store, eaDSU s ra ds, 8⟩
  | .stdx _ ra rb => some ⟨.other, .fixed, .store, eaX s ra rb, 8⟩
  | .stdux _ ra rb => some ⟨.update, .fixed, .store, eaXU s ra rb, 8⟩
  | .stfs _ d ra => some ⟨.other, .float, .store, eaD s ra d, 4⟩
  | .stfsu _ d ra => some ⟨.update, .float, .store, eaDU s ra d, 4⟩
  | .stfsx _ ra rb | .stfiwx _ ra rb => some ⟨.other, .float, .store, eaX s ra rb, 4⟩
  | .stfsux _ ra rb => some ⟨.update, .float, .store, eaXU s ra rb, 4⟩
  | .stfd _ d ra => some ⟨.other, .float, .store, eaD s ra d, 8⟩
  | .stfdu _ d ra => some ⟨.update, .float, .store, eaDU s ra d, 8⟩
  | .stfdx _ ra rb => some ⟨.other, .float, .store, eaX s ra rb, 8⟩
  | .stfdux _ ra rb => some ⟨.update, .float, .store, eaXU s ra rb, 8⟩
  | .lmw rt d ra => some ⟨.outside rt (regsFor (4 * (32 - rt.toNat))), .multiple, .load, eaD s ra d, 4 * (32 - rt.toNat)⟩
  | .stmw rs d ra => some ⟨.other, .multiple, .store, eaD s ra d, 4 * (32 - rs.toNat)⟩
  | .lswi rt ra nb => some ⟨.outside rt (regsFor (nbBytes nb)), .string, .load, s.ra0 ra, nbBytes nb⟩
  | .stswi _ ra nb => some ⟨.other, .string, .store, s.ra0 ra, nbBytes nb⟩
  | .lswx rt ra rb => some ⟨.outside rt (regsFor s.xerCount), .string, .load, eaX s ra rb, s.xerCount⟩
  | .stswx _ ra rb => some ⟨.other, .string, .store, eaX s ra rb, s.xerCount⟩
  | .lwarx _ ra rb => some ⟨.other, .reserve, .load, eaX s ra rb, 4⟩
  | .ldarx _ ra rb => some ⟨.other, .reserve, .load, eaX s ra rb, 8⟩
  | .stwcxDot _ ra rb => some ⟨.other, .reserve, .store, eaX s ra rb, 4⟩
  | .stdcxDot _ ra rb => some ⟨.other, .reserve, .store, eaX s ra rb, 8⟩
  | _ => none

/-- The check of an access of instruction `i`: the real addresses of its bytes, or what stops it. -/
def Access.reals (a : Access) (i : Instr) (s : State) : Except Stop (List Dword) :=
  accessReals i a.regs a.cls a.kind a.ea a.bytes s

/-- The real addresses an access that is not stopped goes to. -/
def realsOf : Except Stop (List Dword) → List Dword
  | .ok rs => rs
  | .error _ => []

/-- The real addresses of the block `dcbz` sets to zero. -/
def zeroedReals (ea : Dword) (s : State) : List Dword :=
  match translate s .store (blockBase s.cfg (s.iea ea)) with
  | .ok (real, _) => blockReals s.cfg real
  | .error _ => []

/-- The real addresses of the bytes the instruction stores to: those of its store operand, none for a conditional store whose
operand the reservation does not cover; the block of `dcbz`. -/
def storesAt (i : Instr) (s : State) : List Dword :=
  match i with
  | .dcbz ra rb => zeroedReals (eaX s ra rb) s
  | _ =>
    match accessOf i s with
    | none => []
    | some a =>
      let rs := realsOf (a.reals i s)
      if a.kind ≠ .store ∨ (a.cls = .reserve ∧ s.holdsReservation (rs.headD 0) = false) then [] else rs

/-! ## How an exact value is delivered (45_float_arith.md R553 to R555, R558 step 3) -/

/-- `y` is the multiple of `2^ulp` that rounding mode `rn` names for the magnitude `x` of a number with sign `neg`. -/
def roundsTo (rn : BitVec 2) (neg : Bool) (x : ℝ) (ulp : Int) (y : ℝ) : Prop :=
  ∃ k : Nat, y = k * (2 : ℝ) ^ ulp ∧ |y - x| < (2 : ℝ) ^ ulp ∧
    (rn = 0 → |y - x| ≤ (2 : ℝ) ^ ulp / 2 ∧ (|y - x| = (2 : ℝ) ^ ulp / 2 → k % 2 = 0)) ∧
    (rn = 1 → y ≤ x) ∧ (rn = 2 → if neg then y ≤ x else x ≤ y) ∧ (rn = 3 → if neg then x ≤ y else y ≤ x)

/-- `r` is what an operation delivers, in single or double format under the FPSCR `v`, whose exact value has the sign `neg`
and the magnitude `x`: value, exceptions, FPRF, FR and FI. `y` is `x` rounded with unbounded exponent range, `z` is `x`
rounded as a denormalized number. An overflow is a `y` beyond the largest number, tininess an `x` below the smallest
normalized one. `flip` inverts the delivered sign; `free` is the FR that a disabled overflow leaves undefined. -/
def deliversExact (single : Bool) (v : Word) (free flip neg : Bool) (x : ℝ) (r : FpResult) : Prop :=
  let bits : Int := if single then 24 else 53
  let emin : Int := if single then -126 else -1022
  let emax : Int := if single then 127 else 1023
  let adjust : Int := if single then 192 else 1536
  let largest : Dword := if single then 0x47EFFFFFE0000000 else 0x7FEFFFFFFFFFFFFF
  let rn := slice v 30 2
  let out := neg != flip
  let signed (d : Dword) : Dword := if out then d ||| 0x8000000000000000 else d
  let delivers (y : ℝ) : Prop :=
    ∃ (d : Dword) (m : Nat) (e : Int), r.value = some d ∧ fpValue d = .finite out m e ∧ m * (2 : ℝ) ^ e = y
  let told (y : ℝ) : Prop := (r.fr = true ↔ x < y) ∧ (r.fi = true ↔ y ≠ x)
  let raised (exc : Word) (y : ℝ) (inexact : Word) : Prop :=
    (y = x → r.exceptions = exc) ∧ (y ≠ x → r.exceptions = exc ||| inexact)
  let normal : Option (BitVec 5) := some (if out then 0b01000 else 0b00100)
  ∃ (top : Int) (y : ℝ), (2 : ℝ) ^ top ≤ x ∧ x < (2 : ℝ) ^ (top + 1) ∧ roundsTo rn neg x (top - bits + 1) y ∧
    ((2 : ℝ) ^ (emax + 1) ≤ y → bit v 25 = false →
      r.exceptions = 0x12000000 ∧ r.fi = true ∧ r.fr = free ∧
      (if rn = 0 ∨ (rn = 2 ∧ neg = false) ∨ (rn = 3 ∧ neg = true) then
        r.value = some (signed 0x7FF0000000000000) ∧ r.fprf = some (if out then 0b01001 else 0b00101)
      else r.value = some (signed largest) ∧ r.fprf = normal)) ∧
    ((2 : ℝ) ^ (emax + 1) ≤ y → bit v 25 = true → top < 1023 + adjust →
      raised 0x10000000 y 0x02000000 ∧ told y ∧ r.fprf = normal ∧ delivers (y / (2 : ℝ) ^ adjust)) ∧
    (x < (2 : ℝ) ^ emin → bit v 26 = true → -1022 - adjust ≤ top →
      raised 0x08000000 y 0x02000000 ∧ told y ∧ r.fprf = normal ∧ delivers (y * (2 : ℝ) ^ adjust)) ∧
    (x < (2 : ℝ) ^ emin → bit v 26 = false →
      ∃ z : ℝ, roundsTo rn neg x (emin - bits + 1) z ∧ raised 0 z 0x0A000000 ∧ told z ∧
        (z = 0 → r.value = some (signed 0) ∧ r.fprf = some (if out then 0b10010 else 0b00010)) ∧
        (z ≠ 0 → delivers z ∧
          (z < (2 : ℝ) ^ emin → r.fprf = some (if out then 0b11000 else 0b10100)) ∧
          ((2 : ℝ) ^ emin ≤ z → r.fprf = normal))) ∧
    ((2 : ℝ) ^ emin ≤ x → y < (2 : ℝ) ^ (emax + 1) →
      raised 0 y 0x02000000 ∧ told y ∧ r.fprf = normal ∧ delivers y)

end Sys2Proof.Machine

namespace Sys2Proof

/-- The reserved bits of an instruction's row: `reserved_zero_mask` of opcode_table.json (30_encoding.md R183). -/
def Instr.reservedZeroMask (i : Instr) : Word :=
  match i with
  | .crand _ _ _ | .cror _ _ _ | .crxor _ _ _ | .crnand _ _ _ | .crnor _ _ _ | .creqv _ _ _ | .crandc _ _ _
  | .crorc _ _ _ | .lbzx _ _ _ | .lbzux _ _ _ | .lhzx _ _ _ | .lhzux _ _ _ | .lhax _ _ _ | .lhaux _ _ _
  | .lwzx _ _ _ | .lwzux _ _ _ | .lwax _ _ _ | .lwaux _ _ _ | .ldx _ _ _ | .ldux _ _ _ | .stbx _ _ _
  | .stbux _ _ _ | .sthx _ _ _ | .sthux _ _ _ | .stwx _ _ _ | .stwux _ _ _ | .stdx _ _ _ | .stdux _ _ _
  | .lhbrx _ _ _ | .lwbrx _ _ _ | .sthbrx _ _ _ | .stwbrx _ _ _ | .lswi _ _ _ | .lswx _ _ _ | .stswi _ _ _
  | .stswx _ _ _ | .lwarx _ _ _ | .ldarx _ _ _ | .td _ _ _ | .tw _ _ _ | .mtspr _ _ | .mfspr _ _ | .lfsx _ _ _
  | .lfsux _ _ _ | .lfdx _ _ _ | .lfdux _ _ _ | .stfsx _ _ _ | .stfsux _ _ _ | .stfdx _ _ _ | .stfdux _ _ _
  | .stfiwx _ _ _ | .mftb _ _ | .eciwx _ _ _ | .ecowx _ _ _ => 0x00000001
  | .mulhd _ _ _ _ | .mulhw _ _ _ _ | .mulhdu _ _ _ _ | .mulhwu _ _ _ _ => 0x00000400
  | .fadd _ _ _ _ | .fadds _ _ _ _ | .fsub _ _ _ _ | .fsubs _ _ _ _ | .fdiv _ _ _ _ | .fdivs _ _ _ _ => 0x000007C0
  | .bclr _ _ _ | .bcctr _ _ _ | .addme _ _ _ _ | .subfme _ _ _ _ | .addze _ _ _ _ | .subfze _ _ _ _
  | .neg _ _ _ _ | .extsb _ _ _ | .extsh _ _ _ | .extsw _ _ _ | .cntlzd _ _ _ | .cntlzw _ _ _ | .fmul _ _ _ _
  | .fmuls _ _ _ _ => 0x0000F800
  | .mtcrf _ _ => 0x00100801
  | .mtsr _ _ | .mfsr _ _ => 0x0010F801
  | .fmr _ _ _ | .fneg _ _ _ | .fabs _ _ _ | .fnabs _ _ _ | .frsp _ _ _ | .fctid _ _ _ | .fctidz _ _ _
  | .fctiw _ _ _ | .fctiwz _ _ _ | .fcfid _ _ _ => 0x001F0000
  | .mtsrin _ _ | .mfsrin _ _ => 0x001F0001
  | .fsqrt _ _ _ | .fsqrts _ _ _ | .fres _ _ _ | .frsqrte _ _ _ => 0x001F07C0
  | .mffs _ _ | .mtfsb0 _ _ | .mtfsb1 _ _ => 0x001FF800
  | .mfcr _ | .mtmsr _ | .mfmsr _ => 0x001FF801
  | .cmpi _ _ _ _ | .cmpli _ _ _ _ => 0x00400000
  | .cmp _ _ _ _ | .cmpl _ _ _ _ => 0x00400001
  | .fcmpu _ _ _ | .fcmpo _ _ _ => 0x00600001
  | .mcrf _ _ | .mcrfs _ _ => 0x0063F801
  | .mtfsfi _ _ _ => 0x007F0800
  | .mcrxr _ => 0x007FF801
  | .mtfsf _ _ _ => 0x02010000
  | .icbi _ _ | .dcbt _ _ | .dcbtst _ _ | .dcbz _ _ | .dcbst _ _ | .dcbf _ _ | .dcbi _ _ => 0x03E00001
  | .slbie _ | .tlbie _ => 0x03FF0001
  | .sync | .isync | .eieio | .rfi | .slbia | .tlbia | .tlbsync => 0x03FFF801
  | .sc => 0x03FFFFFD
  | _ => 0

/-- A configuration under which no instruction can stop the machine: invalid forms are illegal instructions, alterations
against Appendix L.4 are executed, or the translation is the identity and no MSR bit needs a special sequence, and no page
is in a direct-store segment. The reference configurations are such. -/
def Config.total (c : Config) : Prop :=
  c.invalidForm = .illegal ∧
  (c.context = .execute ∨ (c.xlate = [] ∧ c.powSequence = false ∧ c.leSequence = false)) ∧ ∀ e ∈ c.xlate, ∀ page attrs, e.result = .ok page attrs → attrs.directStore = false

end Sys2Proof
end

