-- ==== Sys2Proof/Certificates/Slice0/Obligations.lean ====
section
/-! DEFINITION. The statements for the provers. Each docstring names the rules of spec/ it rests on. -/

open Sys2Proof Sys2Proof.Machine

/-- After reset: the vector, the MSR, no System Reset or Machine Check request, and the invariant. The state after reset,
as far as 70_reset_and_hazards.md R790 and R791 and the reference parameters (logs 1, 3) fix it. The invariant of
`InvariantKept` holds after reset. Rests on the reset values of logs 2 and 3. -/
def Obligations.ResetState : Prop :=
  (State.reset.pc = 0xFFF00100 ∧ State.reset.msr = 0x40 ∧ State.reset.msrBit msrIP = true ∧
     State.reset.msrBit msrLE = false ∧ State.reset.msrBit msrPR = false ∧ State.reset.msrBit msrEE = false ∧
     State.reset.msrBit msrFP = false ∧ State.reset.msrBit msrIR = false ∧ State.reset.msrBit msrDR = false ∧
     State.reset.checkstop = false ∧ State.reset.sresetReq = false ∧ State.reset.mcheckReq = false) ∧
  (State.reset.Inv ∧ (State.resetWith Config.reference32).Inv)

/-- A step runs the decoded instruction. R782 steps (7) to (10), R102 and R200: what a step does when nothing
interrupts it. What Floating-Point Assist and Trace add is in `TraceAndAssist`. -/
def Obligations.StepRunsDecoded : Prop :=
  ∀ s : State,
    let s0 := { s with lastInterrupt := none }
    let after (r : Result) : Result := match r with | .next t => .next (environment t) | o => o
    s.checkstop = false → s.sresetReq = false → s.mcheckReq = false → s.fpEnabledException = false →
    (s.extPending && s.msrBit msrEE) = false → (s.decPending && s.msrBit msrEE) = false → s.msrBit msrPOW = false →
    (∀ real i, fetchReal s = .ok real → decodeBytes (s.mem.readAll (wordAddresses real)) = .instr i →
      step s = after (withTrace i s0 (withAssist i s0 (exec i s0)))) ∧
    (∀ real i, fetchReal s = .ok real → decodeBytes (s.mem.readAll (wordAddresses real)) = .reservedBits i →
      step s = after (reservedBitsForm i s0)) ∧
    (∀ real r, fetchReal s = .ok real → decodeBytes (s.mem.readAll (wordAddresses real)) = .rejected r →
      step s = .next (environment (takeInterrupt (.program .illegal) s0))) ∧
    (∀ status, fetchReal s = .error status →
      step s = .next (environment (takeInterrupt (.instructionStorage status) s0)))

/-- A fetch reads pc, or pc XOR 4 in Little-Endian mode, through translation where that is on, and finds a word placed
there. R102: the fetch in both Endian modes. R131 and R714: what a failed translation, or a direct-store segment, reports in
SRR1. The host's way of placing an instruction (log 6) puts the word where R102 fetches it, in the byte order of
R102; with relocation on, where the placed word is not itself part of a table that moves the fetch (log 8). -/
def Obligations.Fetch : Prop :=
  (∀ s : State, s.msrBit msrIR = false →
     let a := if s.msrBit msrLE then s.codeAddress s.pc ^^^ 4 else s.codeAddress s.pc
     fetchReal s = .ok a ∧
     fetchDecode s =
       .ok (decode (s.mem.read a ++ s.mem.read (a + 1) ++ s.mem.read (a + 2) ++ s.mem.read (a + 3)))) ∧
  (∀ s : State, s.msrBit msrIR = true →
     let a := if s.msrBit msrLE then s.codeAddress s.pc ^^^ 4 else s.codeAddress s.pc
     let stopped (bits : Dword) : Prop :=
       fetchReal s = .error bits ∧ fetchDecode s = .error bits ∧
         (takeInterrupt (.instructionStorage bits) s).srr1 = s.narrow (bits ||| (s.msr &&& ~~~ 0x783F0000))
     (∀ real attrs, translate s .ifetch a = .ok (real, attrs) →
       (attrs.directStore = false →
         fetchReal s = .ok real ∧
         fetchDecode s =
           .ok (decode
             (s.mem.read real ++ s.mem.read (real + 1) ++ s.mem.read (real + 2) ++ s.mem.read (real + 3)))) ∧
       (attrs.directStore = true → stopped 0x10000000)) ∧
     (∀ f, translate s .ifetch a = .error f →
       stopped ((if f.notFound then 0x40000000 else 0) ||| (if f.directStore then 0x10000000 else 0) |||
         (if f.protection then 0x08000000 else 0) ||| (if f.segmentMiss then 0x00200000 else 0)))) ∧
  (∀ (s : State) (real : Dword) (w : Word), s.mem.wf = true → fetchReal s = .ok real →
     s.msrBit msrIR = false ∨ fetchReal (s.withFetchWord 32 w.toNat) = .ok real →
     fetchDecode (s.withFetchWord 32 w.toNat) = .ok (decode w) ∧
     { s.withFetchWord 32 w.toNat with mem := s.mem } = s ∧
     ∀ a, a ∉ wordAddresses real → (s.withFetchWord 32 w.toNat).mem.read a = s.mem.read a)

/-- Twelve words of the spec's examples decode to the instruction they stand for. A sanity statement on words of the
rules R373, R375, R400, R408, R252, R256, R670, R671, R651, R519, R580 and R204. -/
def Obligations.DecodeWords : Prop :=
  decode 0x3864FFFF = .instr (.addi 3 4 0xFFFF) ∧
    decode 0x7C642E15 = .instr (.add 3 4 5 true true) ∧
    decode 0x2C030064 = .instr (.cmpi 0 false 3 100) ∧
    decode 0x7FE00008 = .instr (.tw 31 0 0) ∧
    decode 0x4BFFFFFD = .instr (.b 0xFFFFFF false true) ∧
    decode 0x44000002 = .instr .sc ∧
    decode 0x4C000064 = .instr .rfi ∧
    decode 0x7C600124 = .instr (.mtmsr 3) ∧
    decode 0x4C00012C = .instr .isync ∧
    decode 0x7C242FAE = .instr (.stfiwx 1 4 5) ∧
    decode 0xFC2220EE = .instr (.fsel 1 2 3 4 false) ∧
    decode 0x00000000 = .rejected .illegal

/-- Decoding and encoding are inverse: a word decodes to an instruction exactly when it is its encoding.
30_encoding.md R160 to R200: no bit of an encoding is dropped, and every word has one meaning. -/
def Obligations.DecodeEncode : Prop :=
  (∀ (w : Word) (i : Instr), decode w = .instr i ↔ encode i = w) ∧
  ∀ i : Instr, decodeBytes (bytesOfWord (encode i)) = .instr i ∧ decodeTableWord 32 (encode i).toNat = some i

/-- The illegal primary opcodes, and the word of zeros, are illegal instructions. 30_encoding.md R202. 30_encoding.md
R204. -/
def Obligations.IllegalEncodings : Prop :=
  ((∀ w : Word, slice w 0 6 ∈ [1#6, 4#6, 5#6, 6#6, 56#6, 57#6, 60#6, 61#6] → decode w = .rejected .illegal) ∧
   (∀ (w : Word) (s : State), slice w 0 6 ∈ [2#6, 30#6, 58#6, 62#6] → s.cfg.impl64 = false →
     (∃ i, decode w = .instr i ∧ exec i s = .next (takeInterrupt (.program .illegal) s)) ∨
     (∃ r, decode w = .rejected r))) ∧
  (decode 0 = .rejected .illegal ∧
   ∀ (s : State) (real : Dword), s.checkstop = false → s.sresetReq = false → s.mcheckReq = false →
     s.fpEnabledException = false → (s.extPending && s.msrBit msrEE) = false →
     (s.decPending && s.msrBit msrEE) = false → s.msrBit msrPOW = false → fetchReal s = .ok real →
     s.mem.readAll (wordAddresses real) = [0, 0, 0, 0] →
     step s = .next (environment (takeInterrupt (.program .illegal) { s with lastInterrupt := none })))

/-- The additions, subtractions and negate complete with sum, CA, OV, SO and CR0. R373 to R388. The spec marks these
register-transfer semantics [from general knowledge, not in source]. -/
def Obligations.Sums : Prop :=
  (∀ (s : State) (rt ra rb : Gpr) (si : BitVec 16) (oe rc : Bool),
     exec (.addi rt ra si) s = .next (s.setX rt (s.ra0 ra + si.signExtend 64)).advance ∧
     exec (.addis rt ra si) s = .next (s.setX rt (s.ra0 ra + ((si ++ 0#16).signExtend 64))).advance ∧
     exec (.add rt ra rb oe rc) s =
       .next (((s.setX rt (s.x ra + s.x rb)).setOv oe (s.addOverflow (s.x ra) (s.x rb) false)).record rc
         (s.x ra + s.x rb)).advance ∧
     exec (.subf rt ra rb oe rc) s =
       .next (((s.setX rt (s.x rb - s.x ra)).setOv oe (s.addOverflow (~~~ s.x ra) (s.x rb) true)).record rc
         (s.x rb - s.x ra)).advance ∧
     exec (.neg rt ra oe rc) s =
       .next (((s.setX rt (-s.x ra)).setOv oe (s.addOverflow (~~~ s.x ra) 0 true)).record rc (-s.x ra)).advance) ∧
  (∀ (s : State) (rt ra rb : Gpr) (si : BitVec 16) (oe rc : Bool),
     let sum (a b : Dword) (c oe rc : Bool) : State :=
       let r := a + b + BitVec.ofNat 64 c.toNat
       (((s.setX rt r).setCa (s.addCarry a b c)).setOv oe (s.addOverflow a b c)).record rc r
     exec (.addic rt ra si) s = .next (sum (s.x ra) (si.signExtend 64) false false false).advance ∧
     exec (.addicDot rt ra si) s = .next (sum (s.x ra) (si.signExtend 64) false false true).advance ∧
     exec (.subfic rt ra si) s = .next (sum (~~~ s.x ra) (si.signExtend 64) true false false).advance ∧
     exec (.addc rt ra rb oe rc) s = .next (sum (s.x ra) (s.x rb) false oe rc).advance ∧
     exec (.subfc rt ra rb oe rc) s = .next (sum (~~~ s.x ra) (s.x rb) true oe rc).advance ∧
     exec (.adde rt ra rb oe rc) s = .next (sum (s.x ra) (s.x rb) s.ca oe rc).advance ∧
     exec (.subfe rt ra rb oe rc) s = .next (sum (~~~ s.x ra) (s.x rb) s.ca oe rc).advance ∧
     exec (.addme rt ra oe rc) s = .next (sum (s.x ra) 0xFFFFFFFFFFFFFFFF s.ca oe rc).advance ∧
     exec (.subfme rt ra oe rc) s = .next (sum (~~~ s.x ra) 0xFFFFFFFFFFFFFFFF s.ca oe rc).advance ∧
     exec (.addze rt ra oe rc) s = .next (sum (s.x ra) 0 s.ca oe rc).advance ∧
     exec (.subfze rt ra oe rc) s = .next (sum (~~~ s.x ra) 0 s.ca oe rc).advance)

/-- CA is the unsigned carry and OV the signed overflow of the mode's width, SO is sticky, and CR0 compares the result with
zero. R370 to R372, with overflow as a range condition on the exact sum, and R32 and R36 bit by bit. The spec marks these
register-transfer semantics [from general knowledge, not in source]. -/
def Obligations.CarryAndOverflow : Prop :=
  (∀ (s : State) (v : Dword) (f : BitVec 4) (n : CrField) (ov ca : Bool) (k : Nat), k < 32 →
    s.so = bit s.xer 0 ∧ s.ca = bit s.xer 2 ∧
    s.setOv false ov = s ∧ { s.setOv true ov with xer := s.xer } = s ∧
    bit (s.setOv true ov).xer k = (if k = 0 then bit s.xer 0 || ov else if k = 1 then ov else bit s.xer k) ∧
    { s.setCa ca with xer := s.xer } = s ∧ bit (s.setCa ca).xer k = (if k = 2 then ca else bit s.xer k) ∧
    { s.setCrField n f with cr := s.cr } = s ∧
    bit (s.setCrField n f).cr k = (if k / 4 = n.toNat then bit f (k % 4) else bit s.cr k) ∧
    s.record false v = s ∧ s.record true v = s.setCrField 0 (s.cr0Of v) ∧ s.recordFree false v = s ∧
    s.recordFree true v = s.setCrField 0 (crBits (bit v 0) (bit v 1) (bit v 2) s.so)) ∧
  (∀ lt gt eq so : Bool,
    let f := crBits lt gt eq so
    bit f 0 = lt ∧ bit f 1 = gt ∧ bit f 2 = eq ∧ bit f 3 = so) ∧
  ∀ (s : State) (a b : Dword) (c : Bool),
    (s.mode64 = true →
      (s.addOverflow a b c = true ↔
        a.toInt + b.toInt + (c.toNat : Int) < -2 ^ 63 ∨ 2 ^ 63 ≤ a.toInt + b.toInt + (c.toNat : Int)) ∧
      (s.addCarry a b c = true ↔ 2 ^ 64 ≤ a.toNat + b.toNat + c.toNat) ∧
      s.cr0Of a = crBits (decide (a.toInt < 0)) (decide (a.toInt > 0)) (decide (a.toInt = 0)) s.so) ∧
    (s.mode64 = false →
      (s.addOverflow a b c = true ↔
        (lowWord a).toInt + (lowWord b).toInt + (c.toNat : Int) < -2 ^ 31 ∨
          2 ^ 31 ≤ (lowWord a).toInt + (lowWord b).toInt + (c.toNat : Int)) ∧
      (s.addCarry a b c = true ↔ 2 ^ 32 ≤ (lowWord a).toNat + (lowWord b).toNat + c.toNat) ∧
      s.cr0Of a = crBits (decide ((lowWord a).toInt < 0)) (decide ((lowWord a).toInt > 0))
        (decide ((lowWord a).toInt = 0)) s.so)

/-- The multiplications and divisions complete with their result and flags. R389 to R399; undefined results are free
values (log 14). The spec marks these register-transfer semantics [from general knowledge, not in source]. -/
def Obligations.ProductsAndQuotients : Prop :=
  (∀ (s : State) (rt ra rb : Gpr) (si : BitVec 16) (oe rc : Bool),
     let word (w : Word) : State :=
       let s1 := s.setX rt (slice (s.free 0) 0 32 ++ w)
       (if s.mode64 then s1.recordFree rc (s.free 1) else s1.record rc (slice (s.free 0) 0 32 ++ w)).drawn 2
     exec (.mulli rt ra si) s = .next (s.setX rt (s.x ra * si.signExtend 64)).advance ∧
     let wordProduct : Dword := (lowWord (s.x ra)).signExtend 64 * (lowWord (s.x rb)).signExtend 64
     let outside (w : Nat) (p : Int) : Bool := decide (p < -2 ^ (w - 1) ∨ 2 ^ (w - 1) ≤ p)
     exec (.mullw rt ra rb oe rc) s =
       .next (((s.setX rt wordProduct).setOv oe
         (outside 32 ((lowWord (s.x ra)).toInt * (lowWord (s.x rb)).toInt))).record rc wordProduct).advance ∧
     exec (.mulhw rt ra rb rc) s =
       .next (word (BitVec.ofInt 32 ((lowWord (s.x ra)).toInt * (lowWord (s.x rb)).toInt / 2 ^ 32))).advance ∧
     exec (.mulhwu rt ra rb rc) s =
       .next (word (BitVec.ofNat 32 ((lowWord (s.x ra)).toNat * (lowWord (s.x rb)).toNat / 2 ^ 32))).advance ∧
     (s.cfg.impl64 = true →
       exec (.mulld rt ra rb oe rc) s =
         .next (((s.setX rt (s.x ra * s.x rb)).setOv oe (outside 64 ((s.x ra).toInt * (s.x rb).toInt))).record rc
           (s.x ra * s.x rb)).advance ∧
       exec (.mulhd rt ra rb rc) s =
         .next ((s.setX rt (BitVec.ofInt 64 ((s.x ra).toInt * (s.x rb).toInt / 2 ^ 64))).record rc
           (BitVec.ofInt 64 ((s.x ra).toInt * (s.x rb).toInt / 2 ^ 64))).advance ∧
       exec (.mulhdu rt ra rb rc) s =
         .next ((s.setX rt (BitVec.ofNat 64 ((s.x ra).toNat * (s.x rb).toNat / 2 ^ 64))).record rc
           (BitVec.ofNat 64 ((s.x ra).toNat * (s.x rb).toNat / 2 ^ 64))).advance)) ∧
  (∀ (s : State) (rt ra rb : Gpr) (oe rc : Bool),
     let a := s.x ra
     let b := s.x rb
     let word (w : Word) : State :=
       let s1 := (s.setX rt (slice (s.free 0) 0 32 ++ w)).setOv oe false
       (if s.mode64 then s1.recordFree rc (s.free 1) else s1.record rc (slice (s.free 0) 0 32 ++ w)).drawn 2
     let undefined : State := (((s.setX rt (s.free 0)).setOv oe true).recordFree rc (s.free 1)).drawn 2
     let minus (w : Nat) : BitVec w := BitVec.allOnes w
     (lowWord b ≠ 0 → ¬ (lowWord a = 0x80000000 ∧ lowWord b = minus 32) →
       exec (.divw rt ra rb oe rc) s =
         .next (word (BitVec.ofInt 32 ((lowWord a).toInt.tdiv (lowWord b).toInt))).advance) ∧
     (lowWord b = 0 ∨ (lowWord a = 0x80000000 ∧ lowWord b = minus 32) →
       exec (.divw rt ra rb oe rc) s = .next undefined.advance) ∧
     (lowWord b ≠ 0 →
       exec (.divwu rt ra rb oe rc) s =
         .next (word (BitVec.ofNat 32 ((lowWord a).toNat / (lowWord b).toNat))).advance) ∧
     (lowWord b = 0 → exec (.divwu rt ra rb oe rc) s = .next undefined.advance) ∧
     (s.cfg.impl64 = true →
       (b ≠ 0 → ¬ (a = 0x8000000000000000 ∧ b = minus 64) →
         exec (.divd rt ra rb oe rc) s =
           .next (((s.setX rt (BitVec.ofInt 64 (a.toInt.tdiv b.toInt))).setOv oe false).record rc
             (BitVec.ofInt 64 (a.toInt.tdiv b.toInt))).advance) ∧
       (b = 0 ∨ (a = 0x8000000000000000 ∧ b = minus 64) →
         exec (.divd rt ra rb oe rc) s = .next undefined.advance) ∧
       (b ≠ 0 →
         exec (.divdu rt ra rb oe rc) s =
           .next (((s.setX rt (BitVec.ofNat 64 (a.toNat / b.toNat))).setOv oe false).record rc
             (BitVec.ofNat 64 (a.toNat / b.toNat))).advance) ∧
       (b = 0 → exec (.divdu rt ra rb oe rc) s = .next undefined.advance)))

/-- The compares and traps complete: a CR field set, or the Trap interrupt where a condition holds. R400 to R408. The
spec marks these register-transfer semantics [from general knowledge, not in source]. -/
def Obligations.ComparesAndTraps : Prop :=
  (∀ (s : State) (bf : CrField) (ra rb : Gpr) (v : BitVec 16),
     let field {w : Nat} (lt : BitVec w → BitVec w → Bool) (a b : BitVec w) : State :=
       s.setCrField bf (crBits (lt a b) (lt b a) (a == b) s.so)
     exec (.cmpi bf false ra v) s = .next (field BitVec.slt (lowWord (s.x ra)) (v.signExtend 32)).advance ∧
     exec (.cmp bf false ra rb) s = .next (field BitVec.slt (lowWord (s.x ra)) (lowWord (s.x rb))).advance ∧
     exec (.cmpli bf false ra v) s = .next (field BitVec.ult (lowWord (s.x ra)) (v.setWidth 32)).advance ∧
     exec (.cmpl bf false ra rb) s = .next (field BitVec.ult (lowWord (s.x ra)) (lowWord (s.x rb))).advance ∧
     (s.cfg.impl64 = true →
       exec (.cmpi bf true ra v) s = .next (field BitVec.slt (s.x ra) (v.signExtend 64)).advance ∧
       exec (.cmp bf true ra rb) s = .next (field BitVec.slt (s.x ra) (s.x rb)).advance ∧
       exec (.cmpli bf true ra v) s = .next (field BitVec.ult (s.x ra) (v.setWidth 64)).advance ∧
       exec (.cmpl bf true ra rb) s = .next (field BitVec.ult (s.x ra) (s.x rb)).advance)) ∧
  (∀ (s : State) (cond : BitVec 5) (ra rb : Gpr) (si : BitVec 16),
     let met {w : Nat} (a b : BitVec w) : Bool :=
       (bit cond 0 && a.slt b) || (bit cond 1 && b.slt a) || (bit cond 2 && a == b) || (bit cond 3 && a.ult b)
         || (bit cond 4 && b.ult a)
     let outcome (m : Bool) : Result := .next (if m then takeInterrupt (.program .trap) s else s.advance)
     exec (.twi cond ra si) s = outcome (met (lowWord (s.x ra)) (si.signExtend 32)) ∧
     exec (.tw cond ra rb) s = outcome (met (lowWord (s.x ra)) (lowWord (s.x rb))) ∧
     (s.cfg.impl64 = true →
       exec (.tdi cond ra si) s = outcome (met (s.x ra) (si.signExtend 64)) ∧
       exec (.td cond ra rb) s = outcome (met (s.x ra) (s.x rb))))

/-- The logical, extend and count instructions complete with their result in RA. R430 to R448. The spec marks these
register-transfer semantics [from general knowledge, not in source]. -/
def Obligations.Logicals : Prop :=
  ∀ (s : State) (ra rs rb : Gpr) (ui : BitVec 16) (rc : Bool),
    let into (r : Dword) (rc : Bool) : Result := .next ((s.setX ra r).record rc r).advance
    exec (.andiDot ra rs ui) s = into (s.x rs &&& ui.setWidth 64) true ∧
    exec (.andisDot ra rs ui) s = into (s.x rs &&& (ui ++ 0#16).setWidth 64) true ∧
    exec (.ori ra rs ui) s = into (s.x rs ||| ui.setWidth 64) false ∧
    exec (.oris ra rs ui) s = into (s.x rs ||| (ui ++ 0#16).setWidth 64) false ∧
    exec (.xori ra rs ui) s = into (s.x rs ^^^ ui.setWidth 64) false ∧
    exec (.xoris ra rs ui) s = into (s.x rs ^^^ (ui ++ 0#16).setWidth 64) false ∧
    exec (.and ra rs rb rc) s = into (s.x rs &&& s.x rb) rc ∧
    exec (.or ra rs rb rc) s = into (s.x rs ||| s.x rb) rc ∧
    exec (.xor ra rs rb rc) s = into (s.x rs ^^^ s.x rb) rc ∧
    exec (.nand ra rs rb rc) s = into (~~~ (s.x rs &&& s.x rb)) rc ∧
    exec (.nor ra rs rb rc) s = into (~~~ (s.x rs ||| s.x rb)) rc ∧
    exec (.eqv ra rs rb rc) s = into (~~~ (s.x rs ^^^ s.x rb)) rc ∧
    exec (.andc ra rs rb rc) s = into (s.x rs &&& ~~~ s.x rb) rc ∧
    exec (.orc ra rs rb rc) s = into (s.x rs ||| ~~~ s.x rb) rc ∧
    exec (.extsb ra rs rc) s = into (((s.x rs).setWidth 8).signExtend 64) rc ∧
    exec (.extsh ra rs rc) s = into (((s.x rs).setWidth 16).signExtend 64) rc ∧
    exec (.cntlzw ra rs rc) s = into (BitVec.ofNat 64 (leadingZeros (lowWord (s.x rs)))) rc ∧
    (s.cfg.impl64 = true →
      exec (.extsw ra rs rc) s = into ((lowWord (s.x rs)).signExtend 64) rc ∧
      exec (.cntlzd ra rs rc) s = into (BitVec.ofNat 64 (leadingZeros (s.x rs))) rc)

/-- The rotates and shifts complete with their result in RA, CA for the algebraic shifts; MASK(mb, me), ROTL and the
leading-zero count bit by bit. R447, R448, R450 to R468, the algebraic shifts as division by a power of two. The spec marks
these register-transfer semantics [from general knowledge, not in source]. -/
def Obligations.RotatesAndShifts : Prop :=
  (∀ (s : State) (ra rs rb : Gpr) (sh mb me : BitVec 5) (sh6 m6 : BitVec 6) (rc : Bool),
     let into (r : Dword) : Result := .next ((s.setX ra r).record rc r).advance
     let word (n : Nat) : Dword := (lowWord (s.x rs) ++ lowWord (s.x rs) : Dword).rotateLeft n
     let dword (n : Nat) : Dword := (s.x rs).rotateLeft n
     let wmask : Dword := maskBits (mb.toNat + 32) (me.toNat + 32)
     exec (.rlwinm ra rs sh mb me rc) s = into (word sh.toNat &&& wmask) ∧
     exec (.rlwnm ra rs rb mb me rc) s = into (word (slice (s.x rb) 59 5).toNat &&& wmask) ∧
     exec (.rlwimi ra rs sh mb me rc) s = into ((word sh.toNat &&& wmask) ||| (s.x ra &&& ~~~ wmask)) ∧
     (s.cfg.impl64 = true →
       exec (.rldicl ra rs sh6 m6 rc) s = into (dword sh6.toNat &&& maskBits m6.toNat 63) ∧
       exec (.rldicr ra rs sh6 m6 rc) s = into (dword sh6.toNat &&& maskBits 0 m6.toNat) ∧
       exec (.rldic ra rs sh6 m6 rc) s = into (dword sh6.toNat &&& maskBits m6.toNat (63 - sh6.toNat)) ∧
       exec (.rldcl ra rs rb m6 rc) s = into (dword (slice (s.x rb) 58 6).toNat &&& maskBits m6.toNat 63) ∧
       exec (.rldcr ra rs rb m6 rc) s = into (dword (slice (s.x rb) 58 6).toNat &&& maskBits 0 m6.toNat) ∧
       exec (.rldimi ra rs sh6 m6 rc) s =
         into ((dword sh6.toNat &&& maskBits m6.toNat (63 - sh6.toNat)) |||
           (s.x ra &&& ~~~ maskBits m6.toNat (63 - sh6.toNat))))) ∧
  (∀ (s : State) (ra rs rb : Gpr) (sh : BitVec 5) (sh6 : BitVec 6) (rc : Bool),
     let w := lowWord (s.x rs)
     let d := s.x rs
     let n6 := (slice (s.x rb) 58 6).toNat
     let n7 := (slice (s.x rb) 57 7).toNat
     let into (r : Dword) : Result := .next ((s.setX ra r).record rc r).advance
     let algebraic (r : Dword) (ca : Bool) : Result := .next (((s.setX ra r).setCa ca).record rc r).advance
     exec (.slw ra rs rb rc) s = into (zext (w <<< n6)) ∧
     exec (.srw ra rs rb rc) s = into (zext (w >>> n6)) ∧
     exec (.sraw ra rs rb rc) s =
       algebraic (BitVec.ofInt 64 (w.toInt / 2 ^ n6)) (w.msb && decide (w.toNat % 2 ^ n6 ≠ 0)) ∧
     exec (.srawi ra rs sh rc) s =
       algebraic (BitVec.ofInt 64 (w.toInt / 2 ^ sh.toNat)) (w.msb && decide (w.toNat % 2 ^ sh.toNat ≠ 0)) ∧
     (s.cfg.impl64 = true →
       exec (.sld ra rs rb rc) s = into (d <<< n7) ∧
       exec (.srd ra rs rb rc) s = into (d >>> n7) ∧
       exec (.srad ra rs rb rc) s =
         algebraic (BitVec.ofInt 64 (d.toInt / 2 ^ n7)) (d.msb && decide (d.toNat % 2 ^ n7 ≠ 0)) ∧
       exec (.sradi ra rs sh6 rc) s =
         algebraic (BitVec.ofInt 64 (d.toInt / 2 ^ sh6.toNat)) (d.msb && decide (d.toNat % 2 ^ sh6.toNat ≠ 0)))) ∧
  (∀ mb me k : Nat, mb < 64 → me < 64 → k < 64 →
    (bit (maskBits mb me) k = true ↔ if mb ≤ me then mb ≤ k ∧ k ≤ me else mb ≤ k ∨ k ≤ me)) ∧
  (∀ (v : Dword) (n k : Nat), n < 64 → k < 64 → bit (rotl64 v n) k = bit v ((k + n) % 64)) ∧
  (∀ (v : Dword) (n : Nat), leadingZeros v = n ↔
    n ≤ 64 ∧ (∀ k, k < n → bit v k = false) ∧ (n < 64 → bit v n = true)) ∧
  (∀ (v : Word) (n : Nat), leadingZeros v = n ↔
    n ≤ 32 ∧ (∀ k, k < n → bit v k = false) ∧ (n < 32 → bit v n = true))

/-- mtspr, mfspr, mtcrf, mcrxr, mfcr and mftb complete; an mtspr against Appendix L.4 is refused, or executed and marked.
R470 to R474 and R658, with the numbers of R56 that mtspr may write and mfspr may read; R807 and R808: an mtspr of SDR1
needs relocation off, one of the ASR or an IBAT register is free with relocation off, one of any other register always, and
every one under the identity translation. With relocation on, R807 binds the ASR to leave the next instruction as it is; an
IBAT register too, but for its Key bits, to alter nothing but V and these where fetch uses it, for this instruction or the
next, and to follow R807's sequence where fetch then uses it: no field but V and these is altered with a field of the other
register altered before, since the last context synchronizing operation, of which the model keeps a record. The policy and
this reading are log 30, the places of the bits log 40. The spec marks these register-transfer semantics [from general
knowledge, not in source]. -/
def Obligations.SpecialRegisterMoves : Prop :=
  ∀ (s : State) (n : SprNum) (r : Gpr) (fxm : BitVec 8) (bf : CrField),
    let readWrite : Prop :=
      n.toNat ∈ [1, 8, 9, 18, 19, 22, 25, 26, 27, 272, 273, 274, 275, 528, 529, 530, 531, 532, 533, 534, 535, 536, 537,
        538, 539, 540, 541, 542, 543] ∨
      (n = 280 ∧ s.cfg.impl64 = true) ∨ (n = 282 ∧ s.cfg.hasExternalControl = true) ∨
      (n = 1022 ∧ s.cfg.fpecrPresent = true) ∨ (n = 1023 ∧ s.cfg.pirPresent = true)
    (mtsprDefined s.cfg n = true ↔ readWrite ∨ n = 284 ∨ n = 285) ∧
    (mfsprDefined s.cfg n = true ↔ readWrite ∨ n = 287) ∧
    (mtsprDefined s.cfg n = true → (n.getLsbD 4 = true → s.msrBit msrPR = false) →
      let broken := sprBroken s n (writeSpr n (s.x r) s)
      let t := (writeSpr n (s.x r) s).advance
      (broken = false → exec (.mtspr n r) s = .next t) ∧
      (broken = true → s.cfg.context = .refuse → exec (.mtspr n r) s = .refused .contextAlteration) ∧
      (broken = true → s.cfg.context = .execute → exec (.mtspr n r) s = .next { t with flagged := true }) ∧
      (n.toNat ∉ [25, 280, 528, 529, 530, 531, 532, 533, 534, 535] → broken = false) ∧
      (s.msrBit msrIR = false → s.msrBit msrDR = false → broken = false) ∧
      (s.cfg.xlate = [] → broken = false) ∧
      (n = 25 → s.cfg.xlate ≠ [] → broken = (s.msrBit msrIR || s.msrBit msrDR)) ∧
      let next := s.codeAddress (s.pc + 4)
      let fetching (u : State) (a : Dword) : State := { u with pc := a }
      let code (u : State) : Option (List Byte) :=
        match fetchReal (fetching u next) with
        | .ok real => some (s.mem.readAll (wordAddresses real))
        | .error _ => none
      let after := writeSpr n (s.x r) s
      (n = 280 → (broken = true ↔ s.msrBit msrIR = true ∧ code s ≠ code after)) ∧
      (∀ k : Fin 8, n.toNat = 528 + k →
        let used (u : State) : Prop := ∃ a real attrs, (a = s.pc ∨ a = next) ∧
          translate (fetching u a) .ifetch (fetching u a).fetchAddress = .ok (real, attrs) ∧
          attrs.block = some (BitVec.ofNat 2 (k / 2))
        let bits := if k.val % 2 = 0 then s.cfg.excepted.ibatUpper else s.cfg.excepted.ibatLower
        let change := (s.narrow s.ibat[k] ^^^ s.x r) &&& ~~~ bits.keys
        (broken = true ↔ s.msrBit msrIR = true ∧ change ≠ 0 ∧
          ((used s ∧ change &&& ~~~ bits.valid ≠ 0) ∨ code s ≠ code after ∨
            ((used s ∨ used after) ∧ code after = none) ∨
            (used after ∧ change &&& ~~~ bits.valid ≠ 0 ∧
              ∃ j : Fin 8, j ≠ k ∧ j.val / 2 = k.val / 2 ∧ s.ibatAltered[j] = true))) ∧
        ∀ j : Fin 8, after.ibatAltered[j] = (s.ibatAltered[j] || decide (j = k ∧ change &&& ~~~ bits.valid ≠ 0)))) ∧
    (mfsprDefined s.cfg n = true → (n.getLsbD 4 = true → s.msrBit msrPR = false) →
      exec (.mfspr r n) s = .next (s.setX r (readSpr n s)).advance) ∧
    (∀ k, k < 32 → bit (fxmMask fxm) k = bit fxm (k / 4)) ∧
    exec (.mtcrf fxm r) s =
      .next { s with cr := (lowWord (s.x r) &&& fxmMask fxm) ||| (s.cr &&& ~~~ fxmMask fxm) }.advance ∧
    exec (.mcrxr bf) s =
      .next { s.setCrField bf (slice s.xer 0 4) with xer := withSlice s.xer 0 0#4 }.advance ∧
    exec (.mfcr r) s = .next (s.setX r (zext s.cr)).advance ∧
    exec (.mftb r 268) s = .next (s.setX r (if s.cfg.impl64 then s.tb else zext (lowWord s.tb))).advance ∧
    exec (.mftb r 269) s = .next (s.setX r (zext (slice s.tb 0 32))).advance

/-- A special register reads back what was written, and the others keep their values. R470, R471 and the register list
of R56: no two numbers share a register; each defined bit of the XER (R36) and the EAR (R52) is kept. That PIR and FPECR are 32-bit registers read and written whole is log 31, and
which reserved bits of the XER and the EAR are copied is log 11 (both the model's choice). The spec marks these register-transfer semantics [from general knowledge, not
in source]. -/
def Obligations.SprReadBack : Prop :=
  (∀ (c : Config) (w : Word) (k : Nat), k < 32 →
    bit (xerStored c w) k = (bit w k && (decide (k ≤ 2 ∨ 25 ≤ k) || bit c.xerCopy k)) ∧
    bit (earStored c w) k = (bit w k && (decide (k = 0 ∨ 26 ≤ k) || bit c.earCopy k))) ∧
  ∀ (s : State) (n m : SprNum) (v : Dword), mtsprDefined s.cfg n = true → mfsprDefined s.cfg m = true →
    (m ≠ n → readSpr m (writeSpr n v s) = readSpr m s) ∧
    (m = n → readSpr m (writeSpr n v s) =
      if n = 1 then zext (xerStored s.cfg (lowWord v))
      else if n = 282 then zext (earStored s.cfg (lowWord v))
      else if n = 18 ∨ n = 22 ∨ n = 1022 ∨ n = 1023 then zext (lowWord v)
      else s.narrow v)

/-- mtspr writes half the Time Base or the Decrementer; the latter may request an interrupt; no other number does either.
60_exceptions.md R756. 60_exceptions.md R761. -/
def Obligations.TimerRegisters : Prop :=
  (∀ (s : State) (rx : Gpr),
     (s.msrBit msrPR = false →
       (∃ t, exec (.mtspr 284 rx) s = .next t ∧ slice t.tb 32 32 = lowWord (s.x rx) ∧
         slice t.tb 0 32 = slice s.tb 0 32 ∧ t.dec = s.dec ∧ t.decPending = s.decPending) ∧
       (∃ t, exec (.mtspr 285 rx) s = .next t ∧ slice t.tb 0 32 = lowWord (s.x rx) ∧
         slice t.tb 32 32 = slice s.tb 32 32 ∧ t.dec = s.dec ∧ t.decPending = s.decPending)) ∧
     (s.msrBit msrPR = true →
       exec (.mtspr 284 rx) s = .next (takeInterrupt (.program .privileged) s) ∧
       exec (.mtspr 285 rx) s = .next (takeInterrupt (.program .privileged) s))) ∧
  (∀ (s : State) (rx : Gpr),
     (s.msrBit msrPR = false →
       exec (.mtspr 22 rx) s =
         .next { s with
           dec := lowWord (s.x rx)
           decPending := s.decPending || (!bit s.dec 0 && bit (lowWord (s.x rx)) 0) }.advance ∧
       exec (.mfspr rx 22) s = .next (s.setX rx (zext s.dec)).advance ∧
       (s.setX rx (zext s.dec)).advance.dec = s.dec ∧
       (s.setX rx (zext s.dec)).advance.decPending = s.decPending) ∧
     (s.msrBit msrPR = true →
       exec (.mtspr 22 rx) s = .next (takeInterrupt (.program .privileged) s) ∧
       exec (.mfspr rx 22) s = .next (takeInterrupt (.program .privileged) s))) ∧
  (∀ (s t : State) (n : SprNum) (rx : Gpr), exec (.mtspr n rx) s = .next t →
     (n ≠ 284 → n ≠ 285 → t.tb = s.tb) ∧ (n ≠ 22 → t.dec = s.dec ∧ t.decPending = s.decPending))

/-- Ticks count the Time Base up and the Decrementer down, and request an interrupt on passing zero. R751, R752 and
R760 for any number of ticks up to the environment (log 7), which may stand beside any other event of the same gap
between two steps. With n beyond 2^32 the request is already made. -/
def Obligations.TimerTick : Prop :=
  ∀ (s : State) (n : Nat),
    (ticks n s).tb = s.tb + BitVec.ofNat 64 n ∧ (ticks n s).dec = s.dec - BitVec.ofNat 32 n ∧
    { ticks n s with tb := s.tb, dec := s.dec, decPending := s.decPending } = s ∧
    ((ticks n s).decPending = true ↔ s.decPending = true ∨ s.dec.toNat < n) ∧
    (tick s).decPending = (s.decPending || s.dec == 0) ∧
    (∀ (level : Bool) (rest : List (List EnvEvent)),
      (s.env = [.ticks n, .external level] :: rest ∨ s.env = [.external level, .ticks n] :: rest) →
      (environment s).tb = s.tb + BitVec.ofNat 64 n ∧ (environment s).dec = s.dec - BitVec.ofNat 32 n ∧
      (environment s).extPending = level ∧ (environment s).env = rest)

/-- The branches and the Condition Register instructions complete. R250 to R255 and R257 to R265. The spec marks these
register-transfer semantics [from general knowledge, not in source]. -/
def Obligations.BranchesAndConditions : Prop :=
  (∀ (s : State) (li : BitVec 24) (bo : BitVec 5) (bi : CrBit) (bd : BitVec 14) (aa lk : Bool),
     let linked (u : State) : State := if lk then { u with lr := s.codeAddress (s.pc + 4) } else u
     let go (u : State) (taken : Bool) (target : Dword) : State :=
       { linked u with pc := if taken then s.codeAddress target else s.codeAddress (s.pc + 4) }
     let ctr := s.narrow (s.narrow s.ctr - 1)
     let counted : State := if bit bo 2 then s else { s with ctr := ctr }
     let tested := if s.mode64 then ctr else zext (lowWord ctr)
     let condition := bit bo 0 || bit s.cr bi.toNat == bit bo 1
     let taken := (bit bo 2 || (tested != 0) != bit bo 3) && condition
     let disp : Dword := (li ++ 0#2).signExtend 64
     let dispC : Dword := (bd ++ 0#2).signExtend 64
     exec (.b li aa lk) s = .next (go s true (if aa then disp else s.pc + disp)) ∧
     (boValid bo = true →
       exec (.bc bo bi bd aa lk) s = .next (go counted taken (if aa then dispC else s.pc + dispC)) ∧
       exec (.bclr bo bi lk) s = .next (go counted taken (s.narrow s.lr))) ∧
     (boValid bo = true → bit bo 2 = true →
       exec (.bcctr bo bi lk) s = .next (go s condition (s.narrow s.ctr)))) ∧
  (∀ (s : State) (bt ba bb : CrBit) (bf bfa : CrField),
     let a := bit s.cr ba.toNat
     let b := bit s.cr bb.toNat
     let into (v : Bool) : Result := .next { s with cr := withBit s.cr bt.toNat v }.advance
     exec (.crand bt ba bb) s = into (a && b) ∧
     exec (.cror bt ba bb) s = into (a || b) ∧
     exec (.crxor bt ba bb) s = into (a != b) ∧
     exec (.crnand bt ba bb) s = into (!(a && b)) ∧
     exec (.crnor bt ba bb) s = into (!(a || b)) ∧
     exec (.creqv bt ba bb) s = into (a == b) ∧
     exec (.crandc bt ba bb) s = into (a && !b) ∧
     exec (.crorc bt ba bb) s = into (a || !b) ∧
     exec (.mcrf bf bfa) s = .next (s.setCrField bf (slice s.cr (4 * bfa.toNat) 4)).advance)

/-- sc takes the System Call interrupt and writes nothing but its registers. 40_branch.md R256; bits 32:47 of SRR1 are
a free value (log 16). The last three fields of the frame are the model's own (logs 5, 26, 30). -/
def Obligations.SystemCall : Prop :=
  (∀ w : Word, (decode w = .instr .sc ↔ w = 0x44000002) ∧
    (slice w 0 6 = 17#6 → bit w 30 = false → decode w = .rejected .reservedClass) ∧
    (slice w 0 6 = 17#6 → bit w 30 = true → w ≠ 0x44000002 → decode w = .reservedBits .sc)) ∧
  encode .sc = 0x44000002 ∧
  ∀ s : State,
    let t := takeInterrupt .systemCall s
    exec .sc s = .next t ∧ withTrace .sc s (.next t) = .next t ∧
    t.srr0 = s.codeAddress (s.pc + 4) ∧
    t.srr1 &&& ~~~ 0xFFFF0000 = s.narrow s.msr &&& ~~~ 0xFFFF0000 ∧
    t.msr = interruptMsr .systemCall s ∧
    t.pc = s.narrow ((if s.msrBit msrIP then s.cfg.ipBase1 else s.cfg.ipBase0) + 0xC00) &&& ~~~ 3 ∧
    { t with
      srr0 := s.srr0, srr1 := s.srr1, msr := s.msr, pc := s.pc,
      draws := s.draws, lastInterrupt := s.lastInterrupt, ibatAltered := s.ibatAltered } = s

/-- Where an untranslated access goes: the bytes of EA, or of munge(EA, W) in Little-Endian mode. 20_memory.md R103 in
the data path of R101 (steps 2 to 6). -/
def Obligations.AlignedAccess : Prop :=
  ∀ (s : State) (i : Instr) (regs : DsisrRegs) (cls : AccessClass) (kind : AccessKind) (ea : Dword) (w : Nat),
    w ∈ [1, 2, 4, 8] → (cls = .fixed ∨ cls = .reserve ∨ (cls = .float ∧ 4 ≤ w)) → kind ≠ .ifetch →
    s.msrBit msrDR = false → (s.iea ea).toNat % w = 0 →
    let m := if s.msrBit msrLE then s.iea ea ^^^ BitVec.ofNat 64 (8 - w) else s.iea ea
    accessReals i regs cls kind ea w s = .ok ((List.range w).map fun k => m + BitVec.ofNat 64 k) ∧
    (s.msrBit msrLE = true →
      accessReals i regs cls kind ea w s =
        .ok ((List.range w).map fun k => (s.iea ea + BitVec.ofNat 64 (w - 1 - k)) ^^^ 7))

/-- A misaligned Big-Endian access is performed byte by byte where the policy does not trap it, and the reference policy traps
the reservation class alone. R101, R111 and R112 with the reference values of D7 (log 9). That each byte's address is truncated by the mode, so that an access wraps at
the top of the address space, is the model's reading of R101 step 2 (log 29). -/
def Obligations.MisalignedAccess : Prop :=
  ∀ (s : State) (i : Instr) (regs : DsisrRegs) (cls : AccessClass) (kind : AccessKind) (ea : Dword) (n : Nat),
    kind ≠ .ifetch → s.msrBit msrDR = false → s.msrBit msrLE = false →
    (alignmentTraps i s cls kind (s.iea ea) n = false →
      accessReals i regs cls kind ea n s = .ok ((List.range n).map fun k => s.iea (ea + BitVec.ofNat 64 k))) ∧
    (s.cfg.align = AlignPolicy.reference →
      (alignmentTraps i s cls kind (s.iea ea) n = true ↔ cls = .reserve ∧ (s.iea ea).toNat % n ≠ 0))

/-- The loads complete with the value at EA in RT, its bytes reversed for the byte-reversal forms, and EA in RA for the
update forms. R280, R281, R285 to R302, R324, R325 and R105.
`AlignedAccess` and `MisalignedAccess` say when the access is not stopped. The spec marks these register-transfer
semantics [from general knowledge, not in source]. -/
def Obligations.Loads : Prop :=
  (∀ (s : State) (rt ra rb : Gpr) (d : BitVec 16) (ds : BitVec 14),
     let base := if ra = 0 then 0 else s.x ra
     let loads (i : Instr) (ea : Dword) (n : Nat) (ext : Dword → Dword) : Prop :=
       ∀ reals, accessReals i .other .fixed .load ea n s = .ok reals →
         exec i s = .next (s.setX rt (ext (valueOfBytes (s.mem.readAll reals)))).advance
     let reversed (i : Instr) (ea : Dword) (n : Nat) : Prop :=
       ∀ reals, accessReals i .other .fixed .load ea n s = .ok reals →
         exec i s = .next (s.setX rt (valueOfBytes (s.mem.readAll reals).reverse)).advance
     let half (v : Dword) : Dword := (v.setWidth 16).signExtend 64
     let word (v : Dword) : Dword := (v.setWidth 32).signExtend 64
     let ead := base + d.signExtend 64
     let eax := base + s.x rb
     let eads := base + (ds ++ 0#2).signExtend 64
     loads (.lbz rt d ra) ead 1 id ∧ loads (.lbzx rt ra rb) eax 1 id ∧
     loads (.lhz rt d ra) ead 2 id ∧ loads (.lhzx rt ra rb) eax 2 id ∧
     loads (.lha rt d ra) ead 2 half ∧ loads (.lhax rt ra rb) eax 2 half ∧
     loads (.lwz rt d ra) ead 4 id ∧ loads (.lwzx rt ra rb) eax 4 id ∧
     reversed (.lhbrx rt ra rb) eax 2 ∧ reversed (.lwbrx rt ra rb) eax 4 ∧
     (s.cfg.impl64 = true →
       loads (.lwa rt ds ra) eads 4 word ∧ loads (.lwax rt ra rb) eax 4 word ∧
       loads (.ld rt ds ra) eads 8 id ∧ loads (.ldx rt ra rb) eax 8 id)) ∧
  (∀ (s : State) (rt ra rb : Gpr) (d : BitVec 16) (ds : BitVec 14), ra ≠ 0 → ra ≠ rt →
     let loads (i : Instr) (ea : Dword) (n : Nat) (ext : Dword → Dword) : Prop :=
       ∀ reals, accessReals i .update .fixed .load ea n s = .ok reals →
         exec i s = .next ((s.setX rt (ext (valueOfBytes (s.mem.readAll reals)))).setX ra ea).advance
     let half (v : Dword) : Dword := (v.setWidth 16).signExtend 64
     let word (v : Dword) : Dword := (v.setWidth 32).signExtend 64
     let ead := s.x ra + d.signExtend 64
     let eax := s.x ra + s.x rb
     let eads := s.x ra + (ds ++ 0#2).signExtend 64
     loads (.lbzu rt d ra) ead 1 id ∧ loads (.lbzux rt ra rb) eax 1 id ∧
     loads (.lhzu rt d ra) ead 2 id ∧ loads (.lhzux rt ra rb) eax 2 id ∧
     loads (.lhau rt d ra) ead 2 half ∧ loads (.lhaux rt ra rb) eax 2 half ∧
     loads (.lwzu rt d ra) ead 4 id ∧ loads (.lwzux rt ra rb) eax 4 id ∧
     (s.cfg.impl64 = true →
       loads (.lwaux rt ra rb) eax 4 word ∧
       loads (.ldu rt ds ra) eads 8 id ∧ loads (.ldux rt ra rb) eax 8 id))

/-- The stores complete with the low-order bytes of RS at EA, reversed for the byte-reversal forms, and RA = EA for the
update forms. R280, R282, R308 to R323, R326, R327 and R105. The spec marks these register-transfer semantics [from general knowledge, not in source]. -/
def Obligations.Stores : Prop :=
  ∀ (s : State) (rs ra rb : Gpr) (d : BitVec 16) (ds : BitVec 14),
    let base := if ra = 0 then 0 else s.x ra
    let stored (reals : List Dword) (n : Nat) : State :=
      { s with mem := s.mem.writeAll reals (bytesOfValue n (s.x rs)) }
    let stores (i : Instr) (ea : Dword) (n : Nat) : Prop :=
      ∀ reals, accessReals i .other .fixed .store ea n s = .ok reals → exec i s = .next (stored reals n).advance
    let updates (i : Instr) (ea : Dword) (n : Nat) : Prop :=
      ∀ reals, accessReals i .update .fixed .store ea n s = .ok reals →
        exec i s = .next ((stored reals n).setX ra ea).advance
    let reversed (i : Instr) (ea : Dword) (n : Nat) : Prop :=
      ∀ reals, accessReals i .other .fixed .store ea n s = .ok reals →
        exec i s = .next { s with mem := s.mem.writeAll reals (bytesOfValue n (s.x rs)).reverse }.advance
    let x (off : Dword) : Dword := base + off
    let u (off : Dword) : Dword := s.x ra + off
    let di : Dword := d.signExtend 64
    let dsi : Dword := (ds ++ 0#2).signExtend 64
    stores (.stb rs d ra) (x di) 1 ∧ stores (.stbx rs ra rb) (x (s.x rb)) 1 ∧
    stores (.sth rs d ra) (x di) 2 ∧ stores (.sthx rs ra rb) (x (s.x rb)) 2 ∧
    stores (.stw rs d ra) (x di) 4 ∧ stores (.stwx rs ra rb) (x (s.x rb)) 4 ∧
    reversed (.sthbrx rs ra rb) (x (s.x rb)) 2 ∧ reversed (.stwbrx rs ra rb) (x (s.x rb)) 4 ∧
    (s.cfg.impl64 = true → stores (.std rs ds ra) (x dsi) 8 ∧ stores (.stdx rs ra rb) (x (s.x rb)) 8) ∧
    (ra ≠ 0 →
      updates (.stbu rs d ra) (u di) 1 ∧ updates (.stbux rs ra rb) (u (s.x rb)) 1 ∧
      updates (.sthu rs d ra) (u di) 2 ∧ updates (.sthux rs ra rb) (u (s.x rb)) 2 ∧
      updates (.stwu rs d ra) (u di) 4 ∧ updates (.stwux rs ra rb) (u (s.x rb)) 4 ∧
      (s.cfg.impl64 = true → updates (.stdu rs ds ra) (u dsi) 8 ∧ updates (.stdux rs ra rb) (u (s.x rb)) 8))

/-- The multiple and string instructions move consecutive bytes and registers: what a load leaves in each register, and what
a store takes from it. R284 and R328 to R333; the undefined RT of a zero-length lswx is a free value (log 14). The spec
marks these register-transfer semantics [from general knowledge, not in source]. -/
def Obligations.MultiplesAndStrings : Prop :=
  (∀ (s : State) (r ra rb : Gpr) (d : BitVec 16) (nb : BitVec 5) (reals : List Dword),
     let base := if ra = 0 then 0 else s.x ra
     let ead := base + d.signExtend 64
     let eax := base + s.x rb
     let n := if nb = 0 then 32 else nb.toNat
     let count := (slice s.xer 25 7).toNat
     let regs (k : Nat) := (k + 3) / 4
     let filled (bytes : List Byte) : Result := .next (s.setXs r (wordsOfBytes bytes)).advance
     let emptied (k : Nat) : Result :=
       .next { s with mem := s.mem.writeAll reals ((registerBytes s r (regs k)).take k) }.advance
     (ra.toNat < r.toNat →
       accessReals (.lmw r d ra) (.outside r (regs (4 * (32 - r.toNat)))) .multiple .load ead (4 * (32 - r.toNat)) s
         = .ok reals → exec (.lmw r d ra) s = filled (s.mem.readAll reals)) ∧
     (accessReals (.stmw r d ra) .other .multiple .store ead (4 * (32 - r.toNat)) s = .ok reals →
       exec (.stmw r d ra) s = emptied (4 * (32 - r.toNat))) ∧
     (inWrappedRange r (regs n) ra = false →
       accessReals (.lswi r ra nb) (.outside r (regs n)) .string .load base n s = .ok reals →
       exec (.lswi r ra nb) s = filled (s.mem.readAll reals)) ∧
     (accessReals (.stswi r ra nb) .other .string .store base n s = .ok reals →
       exec (.stswi r ra nb) s = emptied n) ∧
     (ra ≠ r → rb ≠ r → count ≠ 0 → inWrappedRange r (regs count) ra = false →
       inWrappedRange r (regs count) rb = false →
       accessReals (.lswx r ra rb) (.outside r (regs count)) .string .load eax count s = .ok reals →
       exec (.lswx r ra rb) s = filled (s.mem.readAll reals)) ∧
     (ra ≠ r → rb ≠ r → count = 0 → s.msrBit msrLE = false →
       exec (.lswx r ra rb) s = .next ((s.setX r (s.free 0)).drawn 1).advance) ∧
     (accessReals (.stswx r ra rb) .other .string .store eax count s = .ok reals →
       exec (.stswx r ra rb) s = emptied count)) ∧
  (∀ (s : State) (r q : Gpr) (vs : List Dword), vs.length ≤ 32 →
    (s.setXs r vs).x q = if h : (q - r).toNat < vs.length then s.narrow vs[(q - r).toNat] else s.x q) ∧
  (∀ (s : State) (r : Gpr) (k j : Nat), j < 4 * k →
    (registerBytes s r k)[j]? = some (slice (s.x (r + BitVec.ofNat 5 (j / 4))) (32 + 8 * (j % 4)) 8)) ∧
  (∀ (bytes : List Byte) (k : Nat), k < (bytes.length + 3) / 4 →
    (wordsOfBytes bytes)[k]? = some (valueOfBytes ((List.range 4).map fun j => bytes.getD (4 * k + j) 0)))

/-- lwarx and ldarx reserve; stwcx. and stdcx. store exactly while the reservation covers the operand; a store by another
agent into the granule clears the reservation, the processor's other instructions keep it. R145 to R147 and R334 to R337; a
store conditional to another granule than the one reserved does not store, and the processor's own stores keep the
reservation (log 18); another agent's stores are events of the environment (log 7). The spec marks these register-transfer
semantics [from general knowledge, not in source]. -/
def Obligations.Reservations : Prop :=
  (∀ (s : State) (r ra rb : Gpr) (real : Dword) (reals : List Dword),
     let ea := (if ra = 0 then 0 else s.x ra) + s.x rb
     let covered : Bool :=
       match s.reserve with
       | some a => real >>> s.cfg.granuleLog2 == a >>> s.cfg.granuleLog2
       | none => false
     let reserved : State :=
       { s.setX r (valueOfBytes (s.mem.readAll (real :: reals))) with reserve := some real }.advance
     let conditional (n : Nat) : State :=
       let mem := if covered then s.mem.writeAll (real :: reals) (bytesOfValue n (s.x r)) else s.mem
       { s.setCrField 0 (crBits false false covered s.so) with mem := mem, reserve := none }.advance
     (accessReals (.lwarx r ra rb) .other .reserve .load ea 4 s = .ok (real :: reals) →
       exec (.lwarx r ra rb) s = .next reserved) ∧
     (accessReals (.stwcxDot r ra rb) .other .reserve .store ea 4 s = .ok (real :: reals) →
       exec (.stwcxDot r ra rb) s = .next (conditional 4)) ∧
     (s.cfg.impl64 = true →
       (accessReals (.ldarx r ra rb) .other .reserve .load ea 8 s = .ok (real :: reals) →
         exec (.ldarx r ra rb) s = .next reserved) ∧
       (accessReals (.stdcxDot r ra rb) .other .reserve .store ea 8 s = .ok (real :: reals) →
         exec (.stdcxDot r ra rb) s = .next (conditional 8)))) ∧
  (∀ (s : State) (cells : List Host.Cell) (rest : List (List EnvEvent)) (r : Dword),
    s.env = [.stores cells] :: rest → s.reserve = some r →
    let granule (a : Dword) : Dword := a >>> s.cfg.granuleLog2
    ((∃ c ∈ cells, granule (BitVec.ofNat 64 c.1) = granule r) → (environment s).reserve = none) ∧
    ((∀ c ∈ cells, granule (BitVec.ofNat 64 c.1) ≠ granule r) → (environment s).reserve = some r)) ∧
  (∀ (s t : State) (i : Instr), exec i s = .next t →
    (∀ r a b, i ≠ .lwarx r a b ∧ i ≠ .ldarx r a b ∧ i ≠ .stwcxDot r a b ∧ i ≠ .stdcxDot r a b) →
    t.reserve = s.reserve)

/-- A load of what was just stored gives it back, most significant byte first, and a register what was put into it. R100,
R101, R297, R301 with the stores of R316 and R320: the byte order of loads and stores agrees; R6, R10, R12, R15, R30, R31
and R34 for the registers and addresses. That every FPR has a mark of its own for a value written as a single is log 15. -/
def Obligations.StoreThenLoad : Prop :=
  (∀ (s : State) (r q : Gpr) (f g : Fpr) (v : Dword) (one : Bool),
    (s.setX r v).x q = (if q = r then s.narrow v else s.x q) ∧ s.ra0 r = (if r = 0 then 0 else s.x r) ∧
    (s.setF f v one).f g = (if g = f then v else s.f g) ∧
    (s.setF f v one).fSingle g = (if g = f then one else s.fSingle g) ∧
    s.narrow v = (if s.cfg.impl64 then v else (v.setWidth 32).setWidth 64) ∧
    s.iea v = (if s.cfg.impl64 && bit s.msr 0 then v else (v.setWidth 32).setWidth 64) ∧
    s.codeAddress v = s.iea v &&& ~~~ 3) ∧
  (∀ (n j : Nat) (v : Dword), j < n → n ≤ 8 →
    (bytesOfValue n v).length = n ∧ (bytesOfValue n v)[j]? = some ((v >>> (8 * (n - 1 - j))).setWidth 8)) ∧
  (∀ (bs : List Byte) (b : Byte), bs.length ≤ 7 →
    (valueOfBytes (bs ++ [b])).toNat = 256 * (valueOfBytes bs).toNat + b.toNat) ∧
  valueOfBytes [] = 0 ∧
  ∀ (s t : State) (rs rt ra : Gpr) (d : BitVec 16) (ds : BitVec 14) (reals : List Dword),
    s.mem.wf = true → reals.Nodup →
    (accessReals (.stw rs d ra) .other .fixed .store (eaD s ra d) 4 s = .ok reals →
      exec (.stw rs d ra) s = .next t →
      accessReals (.lwz rt d ra) .other .fixed .load (eaD t ra d) 4 t = .ok reals →
      ∃ u, exec (.lwz rt d ra) t = .next u ∧ u.x rt = zext (lowWord (s.x rs))) ∧
    (s.cfg.impl64 = true →
      accessReals (.std rs ds ra) .other .fixed .store (eaDS s ra ds) 8 s = .ok reals →
      exec (.std rs ds ra) s = .next t →
      accessReals (.ld rt ds ra) .other .fixed .load (eaDS t ra ds) 8 t = .ok reals →
      ∃ u, exec (.ld rt ds ra) t = .next u ∧ u.x rt = s.x rs)

/-- Barriers, hints and cache and lookaside instructions complete without a visible effect; dcbz zeroes its block.
R338, R650, R652 to R657, R659, R677 to R682. That caches and lookaside buffers have no state is the decision D5 (log
25). -/
def Obligations.StorageControl : Prop :=
  ∀ (s : State) (ra rb : Gpr),
    let ea := s.iea ((if ra = 0 then 0 else s.x ra) + s.x rb)
    let passes (i : Instr) : Prop := exec i s = .next s.advance
    let block := (ea >>> s.cfg.blockLog2) <<< s.cfg.blockLog2
    passes .sync ∧ passes .eieio ∧ passes (.dcbt ra rb) ∧ passes (.dcbtst ra rb) ∧
    (∀ real attrs, translate s .load ea = .ok (real, attrs) →
      passes (.icbi ra rb) ∧ passes (.dcbst ra rb) ∧ passes (.dcbf ra rb)) ∧
    (s.msrBit msrPR = false →
      (∀ real attrs, translate s .store ea = .ok (real, attrs) → passes (.dcbi ra rb)) ∧
      passes (.tlbie rb) ∧
      (s.cfg.hasTlbia = true → passes .tlbia) ∧ (s.cfg.hasTlbsync = true → passes .tlbsync) ∧
      (s.cfg.impl64 = true → (s.cfg.hasSlbie = true → passes (.slbie rb)) ∧
        (s.cfg.hasSlbia = true → passes .slbia))) ∧
    (∀ real attrs, translate s .store block = .ok (real, attrs) → attrs.directStore = false →
      (s.cfg.align.zeroBlock = .perform ∨ s.msrBit msrDR = false ∨
        (attrs.writeThrough = false ∧ attrs.cachingInhibited = false)) →
      exec (.dcbz ra rb) s =
        .next { s with
          mem := s.mem.writeAll ((List.range (2 ^ s.cfg.blockLog2)).map fun k => real + BitVec.ofNat 64 k)
            (List.replicate (2 ^ s.cfg.blockLog2) 0) }.advance)

/-- isync advances pc and changes nothing else of the machine. 47_storage_control.md R651. The model's own record of IBAT
alterations, which is no state of the machine, ends at it (log 30, the model's choice). -/
def Obligations.InstructionSynchronize : Prop :=
  encode .isync = 0x4C00012C ∧ (∀ w : Word, decode w = .instr .isync ↔ w = 0x4C00012C) ∧
    ∀ s : State, exec .isync s = .next { s with pc := s.codeAddress (s.pc + 4), ibatAltered := noneAltered }

/-- rfi, the MSR moves and the Segment Register moves complete in supervisor state; an alteration against Appendix L.4 is
refused, or executed and marked. R670 to R676, with each defined MSR bit of R40 kept and the reserved ones by R58 (log
11); R806 to R808, with the policy and
the reading of their requirements of log 30. That pc + 4 after mtmsr and the target of rfi are taken in the mode of the new
MSR is the model's reading of R686 (log 24). The spec marks these register-transfer semantics [from general knowledge,
not in source]. -/
def Obligations.SupervisorMoves : Prop :=
  (∀ (c : Config) (v : Dword) (k : Nat), k < 64 →
    let defined : Prop := (k = 0 ∧ c.impl64 = true) ∨ k = 45 ∨ (47 ≤ k ∧ k ≤ 55) ∨ k = 57 ∨ k = 58 ∨ k = 59 ∨ k = 62 ∨ k = 63
    let copied : Prop := bit c.msrCopy k = true ∧ (c.impl64 = true ∨ 32 ≤ k)
    bit (msrStored c v) k = true ↔ bit v k = true ∧ (defined ∨ copied)) ∧
  ∀ (s : State) (r rb : Gpr) (n : BitVec 4), s.msrBit msrPR = false →
    let altered (i : Instr) (broken : Bool) (t : State) : Prop :=
      (broken = false → exec i s = .next t) ∧
      (broken = true → s.cfg.context = .refuse → exec i s = .refused .contextAlteration) ∧
      (broken = true → s.cfg.context = .execute → exec i s = .next { t with flagged := true })
    let saved := msrStored s.cfg ((s.narrow s.srr1 &&& s.cfg.rfiMask) ||| (s.msr &&& ~~~ s.cfg.rfiMask))
    let returned : State := { s with msr := saved }
    let m := msrStored s.cfg (s.x r)
    let v := lowWord (s.x r)
    let same (u : Dword) (k : Nat) : Prop := bit u k = s.msrBit k
    let segment (i : Instr) (k : BitVec 4) : Prop :=
      altered i (segmentBroken s k v) (s.setSr k v).advance ∧
      (s.cfg.xlate = [] → segmentBroken s k v = false) ∧
      (s.msrBit msrIR = false → segmentBroken s k v = false) ∧
      (slice s.pc 32 4 ≠ k → slice (s.codeAddress (s.pc + 4)) 32 4 ≠ k → segmentBroken s k v = false) ∧
      (s.srOf k &&& ~~~ s.cfg.excepted.segment = v &&& ~~~ s.cfg.excepted.segment → segmentBroken s k v = false) ∧
      (s.cfg.xlate ≠ [] → s.msrBit msrIR = true → slice s.pc 32 4 = k →
        (∃ real attrs, translate s .ifetch s.fetchAddress = .ok (real, attrs) ∧ attrs.block = none) →
        s.srOf k &&& ~~~ s.cfg.excepted.segment ≠ v &&& ~~~ s.cfg.excepted.segment → segmentBroken s k v = true)
    altered .rfi (s.cfg.powSequence && bit saved msrPOW != s.msrBit msrPOW)
      { returned with pc := returned.iea (s.narrow s.srr0) &&& ~~~ 3, ibatAltered := noneAltered } ∧
    altered (.mtmsr r) (msrBroken s m) { s with msr := m }.advance ∧
    ((same m msrIR ∨ ∀ e ∈ s.cfg.xlate, e.kind ≠ .ifetch) → (s.cfg.powSequence = false ∨ same m msrPOW) →
      (s.cfg.leSequence = false ∨ same m msrLE) → msrBroken s m = false) ∧
    (s.msrBit msrIR = true → bit m msrIR = false → fetchReal s ≠ .ok s.fetchAddress → msrBroken s m = true) ∧
    exec (.mfmsr r) s = .next (s.setX r s.msr).advance ∧
    (s.cfg.impl64 = false →
      segment (.mtsr n r) n ∧ segment (.mtsrin r rb) (slice (s.x rb) 32 4) ∧
      exec (.mfsr r n) s = .next (s.setX r (zext (s.srOf n))).advance ∧
      exec (.mfsrin r rb) s = .next (s.setX r (zext (s.srOf (slice (s.x rb) 32 4)))).advance)

/-- eciwx and ecowx send their request, or take Data Storage with DSISR bit 11 when EAR_E = 0. R683, R684, R687. The
device is two queues of the model (log 20). With MSR_DR = 0 the operation is boundedly undefined: that the model refuses
it, or performs it and marks the state, by the invalid-form policy, before it looks at EAR_E and the alignment, is log 20
(the model's choice). -/
def Obligations.ExternalControl : Prop :=
  ∀ (s : State) (r ra rb : Gpr), s.cfg.hasExternalControl = true →
    let ea := (if ra = 0 then 0 else s.x ra) + s.x rb
    let a := if s.msrBit msrLE then s.iea ea ^^^ 4 else s.iea ea
    let rid : BitVec 6 := slice s.ear 26 6
    let u : State := if s.msrBit msrDR then s else { s with flagged := true }
    (s.msrBit msrDR = false → s.cfg.invalidForm = .refuse →
      exec (.eciwx r ra rb) s = .refused .boundedlyUndefined ∧
      exec (.ecowx r ra rb) s = .refused .boundedlyUndefined) ∧
    (s.msrBit msrDR = true ∨ s.cfg.invalidForm = .illegal →
      let misaligned (i : Instr) : Result :=
        .next (takeInterrupt (.alignment (alignmentDsisr s.cfg.impl64 (encode i) .other (s.free 0)) (s.iea ea)) u)
      (alignmentTraps (.eciwx r ra rb) s .external .load (s.iea ea) 4 = true →
        exec (.eciwx r ra rb) s = misaligned (.eciwx r ra rb)) ∧
      (alignmentTraps (.ecowx r ra rb) s .external .store (s.iea ea) 4 = true →
        exec (.ecowx r ra rb) s = misaligned (.ecowx r ra rb)) ∧
      (alignmentTraps (.eciwx r ra rb) s .external .load (s.iea ea) 4 = false → bit s.ear 0 = false →
        exec (.eciwx r ra rb) s = .next (takeInterrupt (.dataStorage 0x00100000 none) u)) ∧
      (alignmentTraps (.ecowx r ra rb) s .external .store (s.iea ea) 4 = false → bit s.ear 0 = false →
        exec (.ecowx r ra rb) s = .next (takeInterrupt (.dataStorage 0x00100000 none) u)) ∧
      (∀ real attrs, alignmentTraps (.eciwx r ra rb) s .external .load (s.iea ea) 4 = false → bit s.ear 0 = true →
        translate s .load a = .ok (real, attrs) → attrs.directStore = false →
        (∀ w rest, s.extIn = w :: rest →
          exec (.eciwx r ra rb) s =
            .next { u.setX r (zext w) with extIn := rest, extOut := s.extOut ++ [ExtRequest.load rid real] }.advance) ∧
        (s.extIn = [] →
          exec (.eciwx r ra rb) s =
            .next ({ u.setX r (zext (lowWord (s.free 0))) with
              extOut := s.extOut ++ [ExtRequest.load rid real] }.drawn 1).advance)) ∧
      (∀ real attrs, alignmentTraps (.ecowx r ra rb) s .external .store (s.iea ea) 4 = false → bit s.ear 0 = true →
        translate s .store a = .ok (real, attrs) → attrs.directStore = false →
        exec (.ecowx r ra rb) s =
          .next { u with extOut := s.extOut ++ [ExtRequest.store rid real (lowWord (s.x r))] }.advance))

/-- The floating-point loads and stores complete with the converted value at EA; DOUBLE has the value of the single, and
storing as a single what was loaded as one gives the same word. R500 to R519, R280, R551: DOUBLE by the single format's
fields, SINGLE of a value without a single format as R501 drops its bits; the free words are logs 14 and 15. The spec marks these register-transfer
semantics [from general knowledge, not in source]. -/
def Obligations.FloatLoadsAndStores : Prop :=
  (∀ (s : State) (fr : Fpr) (ra rb : Gpr) (d : BitVec 16), s.msrBit msrFP = true →
     let base := if ra = 0 then 0 else s.x ra
     let di : Dword := d.signExtend 64
     let loaded (n : Nat) (reals : List Dword) : State :=
       let v := valueOfBytes (s.mem.readAll reals)
       if n = 4 then s.setF fr (doubleOf (lowWord v)) true else s.setF fr v false
     let stored (n : Nat) (reals : List Dword) : State :=
       if n = 4 then
         { s with
           mem := s.mem.writeAll reals (bytesOfValue 4 (zext (singleOf (lowWord (s.free 0)) (s.f fr))))
           draws := s.draws + 1 }
       else { s with mem := s.mem.writeAll reals (bytesOfValue 8 (s.f fr)) }
     let loads (i : Instr) (off : Dword) (n : Nat) : Prop :=
       ∀ reals, accessReals i .other .float .load (base + off) n s = .ok reals →
         exec i s = .next (loaded n reals).advance
     let loadsU (i : Instr) (off : Dword) (n : Nat) : Prop :=
       ∀ reals, accessReals i .update .float .load (s.x ra + off) n s = .ok reals →
         exec i s = .next ((loaded n reals).setX ra (s.x ra + off)).advance
     let stores (i : Instr) (off : Dword) (n : Nat) : Prop :=
       ∀ reals, accessReals i .other .float .store (base + off) n s = .ok reals →
         exec i s = .next (stored n reals).advance
     let storesU (i : Instr) (off : Dword) (n : Nat) : Prop :=
       ∀ reals, accessReals i .update .float .store (s.x ra + off) n s = .ok reals →
         exec i s = .next ((stored n reals).setX ra (s.x ra + off)).advance
     loads (.lfs fr d ra) di 4 ∧ loads (.lfsx fr ra rb) (s.x rb) 4 ∧
     loads (.lfd fr d ra) di 8 ∧ loads (.lfdx fr ra rb) (s.x rb) 8 ∧
     stores (.stfs fr d ra) di 4 ∧ stores (.stfsx fr ra rb) (s.x rb) 4 ∧
     stores (.stfd fr d ra) di 8 ∧ stores (.stfdx fr ra rb) (s.x rb) 8 ∧
     (ra ≠ 0 →
       loadsU (.lfsu fr d ra) di 4 ∧ loadsU (.lfsux fr ra rb) (s.x rb) 4 ∧
       loadsU (.lfdu fr d ra) di 8 ∧ loadsU (.lfdux fr ra rb) (s.x rb) 8 ∧
       storesU (.stfsu fr d ra) di 4 ∧ storesU (.stfsux fr ra rb) (s.x rb) 4 ∧
       storesU (.stfdu fr d ra) di 8 ∧ storesU (.stfdux fr ra rb) (s.x rb) 8) ∧
     (s.cfg.hasFpGraphics = true →
       ∀ reals, accessReals (.stfiwx fr ra rb) .other .float .store (base + s.x rb) 4 s = .ok reals →
         exec (.stfiwx fr ra rb) s =
           .next { s with
             mem := s.mem.writeAll reals
               (bytesOfValue 4 (if s.fprSingle.getLsbD fr.toNat then s.free 0 else s.f fr))
             draws := s.draws + 1 }.advance)) ∧
  (∀ w : Word,
    let e := (slice w 1 8).toNat
    let f := (slice w 9 23).toNat
    let neg := bit w 0
    let has (x : ℚ) : Prop := ∃ m k, fpValue (doubleOf w) = .finite neg m k ∧ (m : ℚ) * 2 ^ k = x
    (e = 0 → f = 0 → fpValue (doubleOf w) = .zero neg) ∧ (e = 0 → f ≠ 0 → has (f * 2 ^ (-149 : Int))) ∧
    (e ≠ 0 → e ≠ 255 → has ((2 ^ 23 + f : Nat) * 2 ^ ((e : Int) - 150))) ∧
    (e = 255 → f = 0 → fpValue (doubleOf w) = .inf neg) ∧
    (e = 255 → f ≠ 0 → doubleOf w = slice w 0 1 ++ 0x7FF#11 ++ slice w 9 23 ++ 0#29)) ∧
  (∀ (d : Dword) (free : Word),
    let e := (slice d 1 11).toNat
    (896 < e ∨ slice d 1 63 = 0 → singleOf free d = slice d 0 2 ++ slice d 5 30) ∧
    (874 ≤ e → e ≤ 896 → bit (singleOf free d) 0 = bit d 0 ∧
      (slice (singleOf free d) 1 31).toNat = (2 ^ 52 + (slice d 12 52).toNat) / 2 ^ (926 - e)) ∧
    (e < 874 → slice d 1 63 ≠ 0 → singleOf free d = free)) ∧
  (∀ (w free : Word), singleOf free (doubleOf w) = w ∧ singleRepresentable (doubleOf w) = true) ∧
  (∀ (d : Dword) (free : Word), singleRepresentable d = true → doubleOf (singleOf free d) = d)

/-- The floating-point moves, mffs and fsel complete; fsel takes FRC when FRA is at least zero and no NaN, else FRB.
R520 to R523, R611 and R580. That a move keeps whether its operand was written as a single, and that the result of fsel
counts as no single, is log 15; the free high-order word of mffs is log 14 (both the model's choice). The spec marks
these register-transfer semantics [from general knowledge, not in source]. -/
def Obligations.FloatMovesAndSelect : Prop :=
  ∀ (s : State) (frt fra frc frb : Fpr) (rc : Bool),
    let recorded (u : State) : State := if rc then u.setCrField 1 (slice s.fpscr 0 4) else u
    let moved (sign : Bool) : Result :=
      .next (recorded (s.setF frt (b1 sign ++ slice (s.f frb) 1 63) (s.fSingle frb))).advance
    let atLeastZero : Bool :=
      match fpValue (s.f fra) with
      | .nan _ => false
      | .inf neg => !neg
      | .zero _ => true
      | .finite neg _ _ => !neg
    (s.msrBit msrFP = true →
      exec (.fmr frt frb rc) s = .next (recorded (s.setF frt (s.f frb) (s.fSingle frb))).advance ∧
      exec (.fneg frt frb rc) s = moved (!bit (s.f frb) 0) ∧
      exec (.fabs frt frb rc) s = moved false ∧
      exec (.fnabs frt frb rc) s = moved true ∧
      exec (.mffs frt rc) s =
        .next ((recorded (s.setF frt (slice (s.free 0) 0 32 ++ s.fpscr) false)).drawn 1).advance) ∧
    (s.cfg.hasFpGraphics = true → s.msrBit msrFP = true →
      exec (.fsel frt fra frc frb rc) s =
        .next (recorded (s.setF frt (if atLeastZero then s.f frc else s.f frb) false)).advance) ∧
    (s.cfg.hasFpGraphics = false →
      exec (.fsel frt fra frc frb rc) s = .next (takeInterrupt (.program .illegal) s)) ∧
    (s.cfg.hasFpGraphics = true → s.msrBit msrFP = false →
      exec (.fsel frt fra frc frb rc) s = .next (takeInterrupt .fpUnavailable s))

/-- Floating-point arithmetic and conversion complete with result, status and CR1. R558 to R579.
`FloatEnabledException` says what happens with FE0 or FE1 set. Free values: logs 5, 13, 33. The spec marks these
register-transfer semantics [from general knowledge, not in source]. R600, R601, R603 to R608. The undefined FPRF and
high-order word are free values (log 14), and so is the reason an exception leaves in the FPECR (R55, log 31). -/
def Obligations.FloatArithmetic : Prop :=
  (∀ (s : State) (frt fra frb frc : Fpr) (rc : Bool),
     s.msrBit msrFP = true → s.msrBit msrFE0 = false → s.msrBit msrFE1 = false →
     let delivered (u : State) (r : FpResult) : State :=
       u.withFpscr (fpscrClassed (fpscrRounded (fpscrRaised s.fpscr r.exceptions) r.fr r.fi) r.fprf)
     let written (one : Bool) (r : FpResult) : State :=
       match r.value with
       | some d => s.setF frt d one
       | none => s
     let done (u : State) (k : Nat) (raised : Bool) : Result :=
       .next { (if rc then u.setCrField 1 (slice u.fpscr 0 4) else u) with
         fpecr := if s.cfg.fpecrPresent && raised then lowWord (s.free k) else s.fpecr
         draws := s.draws + k + 1 }.advance
     let double (r : FpResult) : Result := done (delivered (written false r) r) 1 (r.exceptions != 0)
     let single (ds : List Dword) (r : FpResult) : Result :=
       if ds.all singleRepresentable then done (delivered (written true r) r) 1 (r.exceptions != 0)
       else
         done ((s.setF frt (s.free 0) true).withFpscr
           ((lowWord (s.free 1) &&& 0x9FFFF700) ||| (s.fpscr &&& ~~~ 0x9FFFF700))) 2 true
     exec (.fadd frt fra frb rc) s = double (arith2 .double .add s.fpscr s.freeFr (s.f fra) (s.f frb)) ∧
     exec (.fsub frt fra frb rc) s = double (arith2 .double .sub s.fpscr s.freeFr (s.f fra) (s.f frb)) ∧
     exec (.fmul frt fra frc rc) s = double (arith2 .double .mul s.fpscr s.freeFr (s.f fra) (s.f frc)) ∧
     exec (.fdiv frt fra frb rc) s = double (arith2 .double .div s.fpscr s.freeFr (s.f fra) (s.f frb)) ∧
     exec (.fmadd frt fra frc frb rc) s =
       double (arith3 .double false false s.fpscr s.freeFr (s.f fra) (s.f frc) (s.f frb)) ∧
     exec (.fmsub frt fra frc frb rc) s =
       double (arith3 .double true false s.fpscr s.freeFr (s.f fra) (s.f frc) (s.f frb)) ∧
     exec (.fnmadd frt fra frc frb rc) s =
       double (arith3 .double false true s.fpscr s.freeFr (s.f fra) (s.f frc) (s.f frb)) ∧
     exec (.fnmsub frt fra frc frb rc) s =
       double (arith3 .double true true s.fpscr s.freeFr (s.f fra) (s.f frc) (s.f frb)) ∧
     exec (.fadds frt fra frb rc) s =
       single [s.f fra, s.f frb] (arith2 .single .add s.fpscr s.freeFr (s.f fra) (s.f frb)) ∧
     exec (.fsubs frt fra frb rc) s =
       single [s.f fra, s.f frb] (arith2 .single .sub s.fpscr s.freeFr (s.f fra) (s.f frb)) ∧
     exec (.fmuls frt fra frc rc) s =
       single [s.f fra, s.f frc] (arith2 .single .mul s.fpscr s.freeFr (s.f fra) (s.f frc)) ∧
     exec (.fdivs frt fra frb rc) s =
       single [s.f fra, s.f frb] (arith2 .single .div s.fpscr s.freeFr (s.f fra) (s.f frb)) ∧
     exec (.fmadds frt fra frc frb rc) s =
       single [s.f fra, s.f frb, s.f frc]
         (arith3 .single false false s.fpscr s.freeFr (s.f fra) (s.f frc) (s.f frb)) ∧
     exec (.fmsubs frt fra frc frb rc) s =
       single [s.f fra, s.f frb, s.f frc]
         (arith3 .single true false s.fpscr s.freeFr (s.f fra) (s.f frc) (s.f frb)) ∧
     exec (.fnmadds frt fra frc frb rc) s =
       single [s.f fra, s.f frb, s.f frc]
         (arith3 .single false true s.fpscr s.freeFr (s.f fra) (s.f frc) (s.f frb)) ∧
     exec (.fnmsubs frt fra frc frb rc) s =
       single [s.f fra, s.f frb, s.f frc]
         (arith3 .single true true s.fpscr s.freeFr (s.f fra) (s.f frc) (s.f frb)) ∧
     (s.cfg.hasFpGp = true →
       exec (.fsqrt frt frb rc) s = double (arithSqrt .double s.fpscr s.freeFr (s.f frb)) ∧
       exec (.fsqrts frt frb rc) s = single [s.f frb] (arithSqrt .single s.fpscr s.freeFr (s.f frb))) ∧
     (s.cfg.hasFpGraphics = true →
       exec (.frsqrte frt frb rc) s = double (arithRsqrte s.fpscr s.freeFr s.freeFi (s.f frb)) ∧
       exec (.fres frt frb rc) s = single [s.f frb] (arithRes s.fpscr s.freeFr s.freeFi (s.f frb)))) ∧
  (∀ (s : State) (frt frb : Fpr) (rc : Bool),
     s.msrBit msrFP = true → s.msrBit msrFE0 = false → s.msrBit msrFE1 = false →
     let done (one : Bool) (r : FpResult) : Result :=
       let w : State :=
         match r.value with
         | some d => s.setF frt d one
         | none => s
       let u := w.withFpscr (fpscrClassed (fpscrRounded (fpscrRaised s.fpscr r.exceptions) r.fr r.fi) r.fprf)
       .next { (if rc then u.setCrField 1 (slice u.fpscr 0 4) else u) with
         fpecr := if s.cfg.fpecrPresent && r.exceptions != 0 then lowWord (s.free 1) else s.fpecr
         draws := s.draws + 2 }.advance
     exec (.frsp frt frb rc) s = done true (arithRsp s.fpscr s.freeFr (s.f frb)) ∧
     exec (.fctiw frt frb rc) s = done false (toInteger s.fpscr (slice s.fpscr 30 2) 32 (s.free 0) (s.f frb)) ∧
     exec (.fctiwz frt frb rc) s = done false (toInteger s.fpscr 1 32 (s.free 0) (s.f frb)) ∧
     (s.cfg.impl64 = true →
       exec (.fctid frt frb rc) s = done false (toInteger s.fpscr (slice s.fpscr 30 2) 64 (s.free 0) (s.f frb)) ∧
       exec (.fctidz frt frb rc) s = done false (toInteger s.fpscr 1 64 (s.free 0) (s.f frb)) ∧
       exec (.fcfid frt frb rc) s = done false (fromInteger s.fpscr (s.f frb))))

/-- The floating-point compares and FPSCR instructions complete. R602, R609, R610 with the exceptions by the classes of the
operands and VE, R612 to R616 with the fields and bits they write. The spec marks these
register-transfer semantics [from general knowledge, not in source]. The reason an exception leaves in the FPECR is a free
value, and that a write which sets an exception bit counts as one is the model's choice (R55, log 31). -/
def Obligations.FloatStatusInstructions : Prop :=
  ∀ (s : State) (bf bfa : CrField) (fra frb : Fpr) (u : BitVec 4) (flm : BitVec 8) (bt : CrBit) (rc : Bool),
    s.msrBit msrFP = true → s.msrBit msrFE0 = false → s.msrBit msrFE1 = false →
    let c := fpCompare (s.f fra) (s.f frb)
    let snan : Bool := fpValue (s.f fra) == .nan true || fpValue (s.f frb) == .nan true
    let qnan : Bool := fpValue (s.f fra) == .nan false || fpValue (s.f frb) == .nan false
    let noted (raised : Bool) (t : State) : Result :=
      .next { t with
        fpecr := if s.cfg.fpecrPresent && raised then lowWord (s.free 0) else s.fpecr
        draws := s.draws + 1 }.advance
    let compared (exc : Word) : Result :=
      noted (exc != 0) ((s.setCrField bf c).withFpscr (withSlice (fpscrRaised s.fpscr exc) 16 c))
    let written (v : Word) : Result :=
      let t := s.withFpscr v
      noted (v &&& ~~~ s.fpscr &&& 0x1FF80700 != 0) (if rc then t.setCrField 1 (slice t.fpscr 0 4) else t)
    exec (.fcmpu bf fra frb) s = compared (if snan then 0x01000000 else 0) ∧
    exec (.fcmpo bf fra frb) s =
      compared (if snan then (if bit s.fpscr 24 then 0x01000000 else 0x01080000) else if qnan then 0x00080000 else 0) ∧
    exec (.mcrfs bf bfa) s =
      .next ((s.setCrField bf (slice s.fpscr (4 * bfa.toNat) 4)).withFpscr
        (s.fpscr &&& ~~~ (ones 32 (4 * bfa.toNat) 4 &&& 0x9FF80700))).advance ∧
    (∀ (v : Word) (k : Nat) (b : Bool), k < 32 →
      bit (fpscrFieldMask flm) k = bit flm (k / 4) ∧
      bit (withSlice v (4 * bf.toNat) u) k = (if k / 4 = bf.toNat then bit u (k % 4) else bit v k) ∧
      bit (withBit v bt.toNat b) k = if k = bt.toNat then b else bit v k) ∧
    exec (.mtfsfi bf u rc) s = written (withSlice s.fpscr (4 * bf.toNat) u) ∧
    exec (.mtfsf flm frb rc) s =
      written ((lowWord (s.f frb) &&& fpscrFieldMask flm) ||| (s.fpscr &&& ~~~ fpscrFieldMask flm)) ∧
    exec (.mtfsb0 bt rc) s = written (withBit s.fpscr bt.toNat false) ∧
    exec (.mtfsb1 bt rc) s =
      written (withBit (fpscrRaised s.fpscr (oneBit 32 bt.toNat &&& 0x1FF80700)) bt.toNat true)

/-- Rounding gives the neighbour its mode names, and FR and FI say what happened. R553 and the decision table of R600.
-/
def Obligations.RoundingIsCorrect : Prop :=
  ∀ (rn : BitVec 2) (neg : Bool) (mag k : Nat) (exp : Int),
    let r := roundAt rn neg mag exp (exp + k)
    let unit := 2 ^ k
    r.exp = exp + k ∧ (r.fi = true ↔ r.mag * unit ≠ mag) ∧ (r.fr = true ↔ mag < r.mag * unit) ∧
    mag < r.mag * unit + unit ∧ r.mag * unit < mag + unit ∧
    (rn = 0 → 2 * mag ≤ 2 * (r.mag * unit) + unit ∧ 2 * (r.mag * unit) ≤ 2 * mag + unit ∧
      ((2 * mag = 2 * (r.mag * unit) + unit ∨ 2 * (r.mag * unit) = 2 * mag + unit) → r.mag % 2 = 0)) ∧
    (rn = 1 → r.mag * unit ≤ mag) ∧
    (rn = 2 → if neg then r.mag * unit ≤ mag else mag ≤ r.mag * unit) ∧
    (rn = 3 → if neg then mag ≤ r.mag * unit else r.mag * unit ≤ mag)

/-- Quotients and square roots carry enough of the exact value to round it. R551, R566 and R576: the exact quotient
and root before the one rounding. The spec marks these register-transfer semantics [from general knowledge, not in
source]. -/
def Obligations.QuotientsAndRoots : Prop :=
  (∀ (neg : Bool) (ma mb : Nat) (ea eb : Int), 0 < mb →
    ∃ m : Nat, divFinite neg ma ea mb eb = .finite neg m (ea - eb - 129) ∧
      m / 2 * mb ≤ ma * 2 ^ 128 ∧ ma * 2 ^ 128 < (m / 2 + 1) * mb ∧
      (m % 2 = 1 ↔ m / 2 * mb ≠ ma * 2 ^ 128)) ∧
  (∀ n : Nat, n < 2 ^ 260 → isqrt n * isqrt n ≤ n ∧ n < (isqrt n + 1) * (isqrt n + 1)) ∧
  (∀ (mag : Nat) (exp : Int), mag < 2 ^ 131 →
    ∃ (m v : Nat) (e : Int), sqrtFinite mag exp = .finite false m (e - 65) ∧
      ((v = mag ∧ exp = 2 * e) ∨ (v = 2 * mag ∧ exp = 2 * e + 1)) ∧
      m / 2 * (m / 2) ≤ v * 2 ^ 128 ∧ v * 2 ^ 128 < (m / 2 + 1) * (m / 2 + 1) ∧
      (m % 2 = 1 ↔ m / 2 * (m / 2) ≠ v * 2 ^ 128))

/-- A pattern has the value its sign, exponent and fraction fields say, is the pattern of that value, and compares as its
value does. R550, R609 and R610. Every exponent is at least -1074, so scaling by 2^1074 compares finite values exactly;
both zeros are equal, and an infinity is beyond every other value. The spec marks these register-transfer semantics
[from general knowledge, not in source]. -/
def Obligations.PatternsAndValues : Prop :=
  (∀ d : Dword,
    let e := (slice d 1 11).toNat
    let f := (slice d 12 52).toNat
    let neg := bit d 0
    (e = 2047 → f = 0 → fpValue d = .inf neg) ∧ (e = 2047 → f ≠ 0 → fpValue d = .nan (!bit d 12)) ∧
    (e = 0 → f = 0 → fpValue d = .zero neg) ∧ (e = 0 → f ≠ 0 → fpValue d = .finite neg f (-1074)) ∧
    (e ≠ 0 → e ≠ 2047 → fpValue d = .finite neg (2 ^ 52 + f) ((e : Int) - 1075)) ∧
    ∀ (n : Bool) (m : Nat) (x : Int), fpValue d = .finite n m x → fpPack n m x = d ∧ 0 < m) ∧
  (∀ a b : Dword,
    let signed (neg : Bool) (m : Nat) (e : Int) : Int := (if neg then -1 else 1) * (m : Int) * 2 ^ (e + 1074).toNat
    let scaled (v : FpValue) : Int :=
      match v with
      | .finite neg m e => signed neg m e
      | _ => 0
    let below (v w : FpValue) : Prop :=
      if v.isInf || w.isInf then v ≠ w ∧ (v = .inf true ∨ w = .inf false) else scaled v < scaled w
    ((fpValue a).isNan = true ∨ (fpValue b).isNan = true → fpCompare a b = 0b0001) ∧
    ((fpValue a).isNan = false → (fpValue b).isNan = false →
      (fpCompare a b = 0b1000 ↔ below (fpValue a) (fpValue b)) ∧
      (fpCompare a b = 0b0100 ↔ below (fpValue b) (fpValue a)) ∧
      (fpCompare a b = 0b0010 ↔ ¬ below (fpValue a) (fpValue b) ∧ ¬ below (fpValue b) (fpValue a))))

/-- The invalid operations and the NaN operands of every arithmetic operation raise their exception and give the default
QNaN, the first NaN made quiet, or nothing. R555 to R558, R564, R568, R576, R578, R579 and R603. The order of the
operands is FRA, FRB, FRC. The spec marks these register-transfer semantics [from general knowledge, not in source]. -/
def Obligations.InvalidOperations : Prop :=
  ∀ (p : Precision) (v : Word) (free minus flip : Bool) (a b c : Dword),
    let nan (d : Dword) : Bool := (fpValue d).isNan
    let snan (d : Dword) : Bool := (fpValue d).isSnan
    let inf (d : Dword) : Bool := (fpValue d).isInf
    let zero (d : Dword) : Bool := (fpValue d).isZero
    let quiet (d : Dword) : Dword := d ||| 0x0008000000000000
    let qnan : Dword := 0x7FF8000000000000
    let invalid (exc : Word) (d : Dword) (r : FpResult) : Prop :=
      r.exceptions = exc ∧ r.value = (if bit v 24 then none else some d) ∧
      r.fprf = (if bit v 24 then none else some 0b10001) ∧ r.fr = false ∧ r.fi = false
    let passed (d : Dword) (r : FpResult) : Prop :=
      r.exceptions = 0 ∧ r.value = some d ∧ r.fprf = some 0b10001 ∧ r.fr = false ∧ r.fi = false
    let zeroDivide (neg : Bool) (r : FpResult) : Prop :=
      r.exceptions = 0x04000000 ∧
      r.value = (if bit v 27 then none else some (if neg then 0xFFF0000000000000 else 0x7FF0000000000000)) ∧
      r.fprf = if bit v 27 then none else some (if neg then 0b01001 else 0b00101)
    let sum (op : FpOp2) : Prop := inf a = true → inf b = true → (bit a 0 != bit b 0) = (op == .add) →
      invalid 0x00800000 qnan (arith2 p op v free a b)
    let multiplyAdd := arith3 p minus flip v free a c b
    let imz : Bool := (inf a && zero c) || (zero a && inf c)
    let exc : Word := (if snan a || snan b || snan c then 0x01000000 else 0) ||| (if imz then 0x00100000 else 0)
    let first2 : Dword := if nan a then quiet a else quiet b
    let first3 : Dword := if nan a then quiet a else if nan b then quiet b else quiet c
    -- operands that are no NaN
    sum .add ∧ sum .sub ∧
    (inf a = true → inf b = true → invalid 0x00400000 qnan (arith2 p .div v free a b)) ∧
    (zero a = true → zero b = true → invalid 0x00200000 qnan (arith2 p .div v free a b)) ∧
    ((inf a && zero b) || (zero a && inf b) → invalid 0x00100000 qnan (arith2 p .mul v free a b)) ∧
    (imz → nan b = false → invalid 0x00100000 qnan multiplyAdd) ∧
    (inf a || inf c → imz = false → nan a = false → nan c = false → inf b = true →
      ((bit a 0 != bit c 0) != (bit b 0 != minus)) = true → invalid 0x00800000 qnan multiplyAdd) ∧
    (bit b 0 = true → zero b = false → nan b = false →
      invalid 0x00000200 qnan (arithSqrt p v free b) ∧
      (arithRsqrte v free free b).exceptions = 0x00000200 ∧
      (arithRsqrte v free free b).value = if bit v 24 then none else some qnan) ∧
    (zero b = true →
      (nan a = false → inf a = false → zero a = false →
        zeroDivide (bit a 0 != bit b 0) (arith2 p .div v free a b) ∧
        (arith2 p .div v free a b).fr = false ∧ (arith2 p .div v free a b).fi = false) ∧
      zeroDivide (bit b 0) (arithRes v free free b) ∧ zeroDivide (bit b 0) (arithRsqrte v free free b)) ∧
    -- a NaN among the operands
    (∀ op : FpOp2, (snan a || snan b → invalid 0x01000000 first2 (arith2 p op v free a b)) ∧
      (nan a || nan b → (snan a || snan b) = false → passed first2 (arith2 p op v free a b))) ∧
    (nan a || nan b || nan c →
      (exc ≠ 0 → invalid exc first3 multiplyAdd) ∧ (exc = 0 → passed first3 multiplyAdd)) ∧
    (snan b = true →
      invalid 0x01000000 (quiet b) (arithSqrt p v free b) ∧
      invalid 0x01000000 (quiet b &&& ~~~ 0x1FFFFFFF) (arithRsp v free b) ∧
      (∀ r, (r = arithRes v free free b ∨ r = arithRsqrte v free free b) → r.exceptions = 0x01000000 ∧
        r.value = if bit v 24 then none else some (quiet b))) ∧
    (nan b = true → snan b = false →
      passed b (arithSqrt p v free b) ∧ passed (b &&& ~~~ 0x1FFFFFFF) (arithRsp v free b) ∧
      (∀ r, (r = arithRes v free free b ∨ r = arithRsqrte v free free b) → r.exceptions = 0 ∧ r.value = some b))

/-- Overflow and underflow deliver the result, the exceptions, FR and FI that 45_float_arith.md R553 to R555 say, in terms
of the exact value (`deliversExact`), for every value an operation can hand to step 3 of R558. FR after a disabled overflow
is free (log 14). -/
def Obligations.OverflowAndUnderflow : Prop :=
  ∀ (single : Bool) (v : Word) (free flip neg : Bool) (mag : Nat) (exp : Int), 0 < mag →
    deliversExact single v free flip neg (mag * (2 : ℝ) ^ exp)
      (fpDeliver (if single then Precision.single else Precision.double) v free flip neg mag exp)

/-- Every operation on finite operands delivers its exact result, rounded once, and one with an infinite operand that is not
invalid its infinity or zero. R551 to R555, R558, R560 to R577, R603 and R608: sums, differences, products, quotients,
square roots, the eight multiply-adds, frsp and fcfid, with the sign of an exact zero or infinity (step 1e). The spec marks these register-transfer semantics [from general knowledge, not in source]. -/
def Obligations.ExactResults : Prop :=
  ∀ (single : Bool) (v : Word) (free minus flip : Bool) (a b c : Dword),
    let p := if single then Precision.single else Precision.double
    let finite (d : Dword) : Prop := (fpValue d).isNan = false ∧ (fpValue d).isInf = false
    let infinite (d : Dword) : Prop := (fpValue d).isInf = true
    let nonzero (d : Dword) : Prop := (fpValue d).isNan = false ∧ (fpValue d).isZero = false
    let exactly (d : Dword) (fprf : BitVec 5) (r : FpResult) : Prop :=
      r.value = some d ∧ r.fprf = some fprf ∧ r.exceptions = 0 ∧ r.fr = false ∧ r.fi = false
    let infinity (neg : Bool) : FpResult → Prop :=
      exactly (if neg then 0xFFF0000000000000 else 0x7FF0000000000000) (if neg then 0b01001 else 0b00101)
    let zero (neg : Bool) : FpResult → Prop :=
      exactly (if neg then 0x8000000000000000 else 0) (if neg then 0b10010 else 0b00010)
    let real (d : Dword) : ℝ :=
      match fpValue d with
      | .finite neg m e => (if neg then -1 else 1) * m * (2 : ℝ) ^ e
      | _ => 0
    let gives (one flip zeroNeg : Bool) (exact : ℝ) (r : FpResult) : Prop :=
      (∀ (neg : Bool) (x : ℝ), 0 < x → exact = (if neg then -x else x) → deliversExact one v free flip neg x r) ∧
      (exact = 0 → zero zeroNeg r)
    let zeroSum (m n : Bool) : Bool := if m = n then m else slice v 30 2 == 3
    (finite a → finite b →
      gives single false (zeroSum (bit a 0) (bit b 0)) (real a + real b) (arith2 p .add v free a b) ∧
      gives single false (zeroSum (bit a 0) (!bit b 0)) (real a - real b) (arith2 p .sub v free a b) ∧
      gives single false (bit a 0 != bit b 0) (real a * real b) (arith2 p .mul v free a b) ∧
      (real b ≠ 0 → gives single false (bit a 0 != bit b 0) (real a / real b) (arith2 p .div v free a b)) ∧
      (finite c →
        gives single flip (zeroSum (bit a 0 != bit c 0) (bit b 0 != minus) != flip)
          (real a * real c + (if minus then -real b else real b)) (arith3 p minus flip v free a c b))) ∧
    (finite b →
      (0 ≤ real b → gives single false (bit b 0) (Real.sqrt (real b)) (arithSqrt p v free b)) ∧
      gives true false (bit b 0) (real b) (arithRsp v free b)) ∧
    gives false false false (b.toInt : ℝ) (fromInteger v b) ∧
    -- infinite operands
    (infinite a → finite b →
      infinity (bit a 0) (arith2 p .add v free a b) ∧ infinity (bit a 0) (arith2 p .sub v free a b) ∧
      infinity (bit a 0 != bit b 0) (arith2 p .div v free a b)) ∧
    (finite a → infinite b →
      infinity (bit b 0) (arith2 p .add v free a b) ∧ infinity (!bit b 0) (arith2 p .sub v free a b) ∧
      zero (bit a 0 != bit b 0) (arith2 p .div v free a b)) ∧
    (infinite a → infinite b →
      (bit a 0 = bit b 0 → infinity (bit a 0) (arith2 p .add v free a b)) ∧
      (bit a 0 ≠ bit b 0 → infinity (bit a 0) (arith2 p .sub v free a b))) ∧
    (infinite a ∧ nonzero b ∨ nonzero a ∧ infinite b → infinity (bit a 0 != bit b 0) (arith2 p .mul v free a b)) ∧
    (infinite a ∧ nonzero c ∨ nonzero a ∧ infinite c →
      (finite b ∨ (infinite b ∧ (bit b 0 != minus) = (bit a 0 != bit c 0)) →
        infinity ((bit a 0 != bit c 0) != flip) (arith3 p minus flip v free a c b))) ∧
    (finite a → finite c → infinite b → infinity ((bit b 0 != minus) != flip) (arith3 p minus flip v free a c b)) ∧
    (infinite b →
      (bit b 0 = false → infinity false (arithSqrt p v free b)) ∧ infinity (bit b 0) (arithRsp v free b))

/-- fres is within one part in 256 of the reciprocal and frsqrte within one part in 32 of the reciprocal square root. R578 and
R579, without Inexact and with free FR and FI; which value within the bound is delivered is an opaque function (log 13). An
fres that raises Overflow or Underflow is outside the bound, as the rule bounds reciprocals within the single range. -/
def Obligations.Estimates : Prop :=
  ∀ (v : Word) (freeFr freeFi : Bool) (b : Dword),
    let res := arithRes v freeFr freeFi b
    let rsqrte := arithRsqrte v freeFr freeFi b
    let told (r : FpResult) : Prop := r.fr = freeFr ∧ r.fi = freeFi ∧ bit r.exceptions 6 = false
    told res ∧ told rsqrte ∧
    (∀ (neg : Bool) (m : Nat) (e : Int), fpValue b = .finite neg m e →
      let x : ℝ := m * (2 : ℝ) ^ e
      let close (r : FpResult) (exact part : ℝ) : Prop :=
        ∃ (d : Dword) (n : Nat) (k : Int), r.value = some d ∧ fpValue d = .finite neg n k ∧
          |n * (2 : ℝ) ^ k - exact| ≤ exact / part
      ((2 : ℝ) ^ (-126 : Int) ≤ 1 / x → 1 / x ≤ (2 : ℝ) ^ (127 : Int) → res.exceptions = 0) ∧
      (res.exceptions = 0 → close res (1 / x) 256 ∧ ∀ d, res.value = some d → singleRepresentable d = true) ∧
      (neg = false →
        close rsqrte (1 / Real.sqrt x) 32 ∧ rsqrte.exceptions = 0 ∧ rsqrte.fprf = some 0b00100)) ∧
    (∀ neg, fpValue b = .inf neg →
      res.exceptions = 0 ∧ res.value = some (if neg then 0x8000000000000000 else 0) ∧
      res.fprf = some (if neg then 0b10010 else 0b00010) ∧
      (neg = false → rsqrte.exceptions = 0 ∧ rsqrte.value = some 0 ∧ rsqrte.fprf = some 0b00010))

/-- Conversion to an integer delivers the operand rounded to an integer, or the extreme integer with VXCVI where it does
not fit. 46_float_convert_compare_status.md R601 in terms of the exact value. FPRF and the high-order word of a 32-bit
result are undefined there (free values, log 14). -/
def Obligations.IntegerConversion : Prop :=
  ∀ (wide : Bool) (v : Word) (rn : BitVec 2) (free b : Dword),
    let n : Nat := if wide then 64 else 32
    let r := toInteger v rn n free b
    let delivers (k : Int) : Prop :=
      ∃ d, r.value = some d ∧ if wide then d.toInt = k else (d.setWidth 32).toInt = k
    let least : Int := -2 ^ (n - 1)
    let greatest : Int := 2 ^ (n - 1) - 1
    let invalid (exc : Word) (neg : Bool) : Prop :=
      r.exceptions = exc ∧ r.fr = false ∧ r.fi = false ∧
      if bit v 24 then r.value = none ∧ r.fprf = none else delivers (if neg then least else greatest)
    (fpValue b = .nan true → invalid 0x01000100 true) ∧ (fpValue b = .nan false → invalid 0x00000100 true) ∧
    (∀ neg, fpValue b = .inf neg → invalid 0x00000100 neg) ∧
    (∀ neg, fpValue b = .zero neg → r.exceptions = 0 ∧ r.fr = false ∧ r.fi = false ∧ delivers 0) ∧
    (∀ neg m e, fpValue b = .finite neg m e →
      let x : ℚ := (if neg then -1 else 1) * m * (2 : ℚ) ^ e
      ∃ k : Int, |k - x| < 1 ∧
        (rn = 0 → |k - x| ≤ 1 / 2 ∧ (|k - x| = 1 / 2 → k % 2 = 0)) ∧ (rn = 1 → |(k : ℚ)| ≤ |x|) ∧
        (rn = 2 → x ≤ k) ∧ (rn = 3 → k ≤ x) ∧
        (least ≤ k → k ≤ greatest →
          r.exceptions = (if (k : ℚ) = x then 0 else 0x02000000) ∧ (r.fi = true ↔ (k : ℚ) ≠ x) ∧
          (r.fr = true ↔ |x| < |(k : ℚ)|) ∧ delivers k) ∧
        (k < least ∨ greatest < k → invalid 0x00000100 neg))

/-- The FPSCR bit by bit: VX and FEX as R38 writes them, FX, FR, FI and FPRF as an instruction leaves them; and arithmetic,
conversion, comparison and mtfsb1 never clear an exception bit. R38, R39, R551, R555 and R602; which reserved bit is copied
is log 11. Of a single
arithmetic instruction with an operand that is not representable in single format the status bits are free (log 33). The
spec marks these register-transfer semantics [from general knowledge, not in source]. -/
def Obligations.ExceptionBitsStick : Prop :=
  (∀ (c : Config) (v exc : Word) (fr fi : Bool) (fprf : BitVec 5) (k : Nat), k < 32 →
    let vx := bit v 7 || bit v 8 || bit v 9 || bit v 10 || bit v 11 || bit v 12 || bit v 21 || bit v 22 || bit v 23
    let fex := (vx && bit v 24) || (bit v 3 && bit v 25) || (bit v 4 && bit v 26) || (bit v 5 && bit v 27) ||
      (bit v 6 && bit v 28)
    bit (fpscrSummed c v) k =
      (if k = 1 then fex else if k = 2 then vx else if k = 20 then c.fpscrCopy && bit v 20 else bit v k) ∧
    bit (fpscrRaised v exc) k = (if k = 0 then bit v 0 || decide (exc &&& ~~~ v ≠ 0) else bit v k || bit exc k) ∧
    bit (fpscrRounded v fr fi) k = (if k = 13 then fr else if k = 14 then fi else bit v k) ∧
    bit (fpscrClassed v (some fprf)) k = (if 15 ≤ k ∧ k ≤ 19 then bit fprf (k - 15) else bit v k) ∧
    fpscrClassed v none = v) ∧
  ∀ (s t : State) (i : Instr), exec i s = .next t →
    let one (r : Fpr) : Prop := singleRepresentable (s.f r) = true
    ((∃ frt fra frb rc, i = .fadd frt fra frb rc ∨ i = .fsub frt fra frb rc ∨ i = .fmul frt fra frb rc ∨
        i = .fdiv frt fra frb rc) ∨
      (∃ frt fra frc frb rc, i = .fmadd frt fra frc frb rc ∨ i = .fmsub frt fra frc frb rc ∨
        i = .fnmadd frt fra frc frb rc ∨ i = .fnmsub frt fra frc frb rc) ∨
      (∃ frt frb rc, i = .fsqrt frt frb rc ∨ i = .frsqrte frt frb rc ∨ i = .frsp frt frb rc ∨ i = .fctiw frt frb rc ∨
        i = .fctiwz frt frb rc ∨ i = .fctid frt frb rc ∨ i = .fctidz frt frb rc ∨ i = .fcfid frt frb rc) ∨
      (∃ frt fra frb rc, (i = .fadds frt fra frb rc ∨ i = .fsubs frt fra frb rc ∨ i = .fmuls frt fra frb rc ∨
        i = .fdivs frt fra frb rc) ∧ one fra ∧ one frb) ∨
      (∃ frt fra frc frb rc, (i = .fmadds frt fra frc frb rc ∨ i = .fmsubs frt fra frc frb rc ∨
        i = .fnmadds frt fra frc frb rc ∨ i = .fnmsubs frt fra frc frb rc) ∧ one fra ∧ one frc ∧ one frb) ∨
      (∃ frt frb rc, (i = .fsqrts frt frb rc ∨ i = .fres frt frb rc) ∧ one frb) ∨
      (∃ bf fra frb, i = .fcmpu bf fra frb ∨ i = .fcmpo bf fra frb) ∨ (∃ bt rc, i = .mtfsb1 bt rc)) →
    s.fpscr &&& 0x9FF80700 &&& ~~~ t.fpscr = 0 ∧
    (t.fpscr &&& ~~~ s.fpscr &&& 0x1FF80700 ≠ 0 → bit t.fpscr 0 = true) ∧
    ((∀ bt rc, i ≠ .mtfsb1 bt rc) → slice t.fpscr 24 8 = slice s.fpscr 24 8) ∧
    (fpscrSummed t.cfg t.fpscr = t.fpscr ∨ t.fpscr = s.fpscr)

/-- An enabled floating-point exception takes Program(FPEnabled) at the instruction that caused it, which keeps what it
wrote to FRT, FPSCR and CR. R556 and R717 (a): what is written is what the instruction writes with FE0 = FE1 = 0. That
the interrupt is precise in the imprecise modes too is D17 (log 19, the model's choice). The spec marks these
register-transfer semantics [from general knowledge, not in source]. Where there is an FPECR it then holds a free value
(log 31). -/
def Obligations.FloatEnabledException : Prop :=
  ∀ (s t : State) (i : Instr), writesFpscr i = true → (∀ bf bfa, i ≠ .mcrfs bf bfa) → admission i s = .execute →
    (s.msrBit msrFE0 || s.msrBit msrFE1) = true → s.lastInterrupt = none → exec i s = .next t →
    (bit t.fpscr 1 = true →
      t.lastInterrupt = some .program ∧ t.srr0 = s.codeAddress s.pc ∧ slice t.srr1 42 6 = 0b010000 ∧
      t.msr = interruptMsr .program s ∧ t.pc = s.narrow (s.vectorBase + 0x700) &&& ~~~ 3) ∧
    (bit t.fpscr 1 = false →
      t.lastInterrupt = none ∧ t.msr = s.msr ∧ t.srr0 = s.srr0 ∧ t.srr1 = s.srr1 ∧
      t.pc = s.codeAddress (s.pc + 4)) ∧
    ∃ u, exec i { s with msr := s.msr &&& ~~~ 0x900 } = .next u ∧ u.lastInterrupt = none ∧ t.fpr = u.fpr ∧
      t.fprSingle = u.fprSingle ∧ t.fpscr = u.fpscr ∧ t.cr = u.cr ∧ t.gpr = s.gpr ∧ t.mem = s.mem ∧
      (s.cfg.fpecrPresent = false → t.fpecr = s.fpecr)

/-- Taking an interrupt saves pc and MSR, sets the MSR and enters the vector, and changes nothing else. R702 to R705,
R710, R711, R713 to R717, R719, R120 and R121: SRR1 cause by cause, DSISR and DAR, and the request that is withdrawn.
The offsets are the twelve of R120. SRR0 = pc for Machine Check is D26, and Machine Check clearing ME is [from general knowledge, not in source]; the SRR1
bits and the DAR that the spec leaves undefined are free (log 16); that a Machine Check leaves the DAR alone, which R44 lets
it set, is log 42 (the model's choice); what withdraws a request is log 7; the FPECR of an
implementation that has it is free after the interrupts of a floating-point exception (R55, log 31). -/
def Obligations.InterruptEntry : Prop :=
  ∀ (s : State) (c : Cause),
    let t := takeInterrupt c s
    let offset : Dword :=
      match c with
      | .systemReset => 0x100
      | .machineCheck => 0x200
      | .dataStorage _ _ => 0x300
      | .instructionStorage _ => 0x400
      | .external => 0x500
      | .alignment _ _ => 0x600
      | .program _ => 0x700
      | .fpUnavailable => 0x800
      | .decrementer => 0x900
      | .systemCall => 0xC00
      | .trace => 0xD00
      | .fpAssist => 0xE00
    let floating : Prop := c = .program .fpEnabled ∨ c = .program .fpEnabledLate ∨ c = .fpAssist
    let status : Dword := 0x783F0000
    let saved (bits : Dword) : Dword := s.narrow (bits ||| (s.msr &&& ~~~ status))
    t.srr0 = (if c = .systemCall then s.codeAddress (s.pc + 4) else s.codeAddress s.pc) ∧
    (match c with
      | .systemReset => t.srr1 = saved 0
      | .machineCheck => bit t.srr1 62 = s.msrBit msrRI
      | .dataStorage _ _ => t.srr1 = saved 0
      | .instructionStorage causes => t.srr1 = saved (causes &&& status)
      | .external => t.srr1 = saved 0
      | .alignment _ _ => t.srr1 = saved 0
      | .program .fpEnabled => t.srr1 = saved 0x00100000
      | .program .fpEnabledLate => t.srr1 = saved 0x00110000
      | .program .illegal => t.srr1 = saved 0x00080000
      | .program .privileged => t.srr1 = saved 0x00040000
      | .program .trap => t.srr1 = saved 0x00020000
      | .fpUnavailable => t.srr1 = saved 0
      | .decrementer => t.srr1 = saved 0
      | .systemCall => t.srr1 &&& ~~~ 0xFFFF0000 = s.narrow s.msr &&& ~~~ 0xFFFF0000
      | .trace => t.srr1 &&& ~~~ status = s.narrow s.msr &&& ~~~ status
      | .fpAssist => t.srr1 &&& ~~~ status = s.narrow s.msr &&& ~~~ status) ∧
    t.msrBit msrSF = s.cfg.impl64 ∧ t.msrBit msrIP = s.msrBit msrIP ∧ t.msrBit msrILE = s.msrBit msrILE ∧
    t.msrBit msrLE = s.msrBit msrILE ∧ t.msrBit msrME = (s.msrBit msrME && c != .machineCheck) ∧
    (∀ k, k < 64 → k ∉ [0, 47, 51, 57, 63] → t.msrBit k = false) ∧
    t.pc = s.narrow ((if s.msrBit msrIP then s.cfg.ipBase1 else s.cfg.ipBase0) + offset) &&& ~~~ 3 ∧
    vectorOffset c.kind = offset ∧
    (¬ floating ∨ s.cfg.fpecrPresent = false → t.fpecr = s.fpecr) ∧
    (floating → s.cfg.fpecrPresent = true → t.fpecr = lowWord (s.free 1)) ∧
    t.lastInterrupt = some c.kind ∧
    (match c with
      | .dataStorage d a => t.dsisr = d ∧ ∀ v, a = some v → t.dar = s.narrow v
      | .alignment d a => t.dsisr = d ∧ t.dar = s.narrow a
      | _ => t.dsisr = s.dsisr ∧ t.dar = s.dar) ∧
    t.sresetReq = (s.sresetReq && c != .systemReset) ∧ t.mcheckReq = (s.mcheckReq && c != .machineCheck) ∧
    t.decPending = (s.decPending && c != .decrementer) ∧
    { t with
      srr0 := s.srr0, srr1 := s.srr1, msr := s.msr, dsisr := s.dsisr, dar := s.dar, pc := s.pc,
      sresetReq := s.sresetReq, mcheckReq := s.mcheckReq, decPending := s.decPending,
      fpecr := s.fpecr, lastInterrupt := s.lastInterrupt, ibatAltered := s.ibatAltered, draws := s.draws } = s ∧
    t.ibatAltered =
      (if (c = .systemReset ∨ c = .machineCheck) ∧ s.msrBit msrRI = false then s.ibatAltered else noneAltered)

/-- rfi right after an interrupt restores the interrupted context. R670 with R702 and R705, where no special sequence is
needed for MSR_POW (R806). The spec marks these
register-transfer semantics [from general knowledge, not in source]. -/
def Obligations.InterruptThenReturn : Prop :=
  ∀ (s : State) (c : Cause), c ≠ .systemCall → c ≠ .machineCheck → s.cfg.rfiMask = 0xFFFFFFFF87C0FFFF →
    s.cfg.powSequence = false → s.codeAddress s.pc = s.pc → msrStored s.cfg s.msr = s.msr →
    ∃ t, exec .rfi (takeInterrupt c s) = .next t ∧ t.pc = s.pc ∧
      t.msr &&& s.cfg.rfiMask = s.msr &&& s.cfg.rfiMask ∧ t.gpr = s.gpr ∧ t.fpr = s.fpr ∧ t.cr = s.cr ∧
      t.lr = s.lr ∧ t.ctr = s.ctr ∧ t.xer = s.xer ∧ t.fpscr = s.fpscr ∧ t.mem = s.mem

/-- A privileged instruction in problem state takes Program(Privileged) and has no other effect. 48_supervisor.md
R685, and before it the rows that an implementation lacks, by R197 and R198 (mulld by 90_conflicts.md C12). For an
undefined SPR number the source leaves the choice to the implementation (R470, R717 c): which one is taken is a parameter
of the model (log 34, the model's choice). -/
def Obligations.PrivilegeCheck : Prop :=
  (∀ (s : State) (i : Instr), s.msrBit msrPR = true → implemented (i.req s.cfg) s.cfg = true →
    (i.req s.cfg).priv = true →
    exec i s = .next (takeInterrupt (.program .privileged) s) ∧
      (takeInterrupt (.program .privileged) s).srr0 = s.codeAddress s.pc ∧
      bit (takeInterrupt (.program .privileged) s).srr1 45 = true) ∧
  (∀ (s : State) (i : Instr),
    let absent : Prop :=
      match i with
      | .tdi _ _ _ | .td _ _ _ | .lwa _ _ _ | .lwax _ _ _ | .lwaux _ _ _ | .ld _ _ _ | .ldu _ _ _ | .ldx _ _ _
      | .ldux _ _ _ | .std _ _ _ | .stdu _ _ _ | .stdx _ _ _ | .stdux _ _ _ | .ldarx _ _ _ | .stdcxDot _ _ _
      | .mulld _ _ _ _ _ | .mulhd _ _ _ _ | .mulhdu _ _ _ _ | .divd _ _ _ _ _ | .divdu _ _ _ _ _ | .extsw _ _ _
      | .cntlzd _ _ _ | .rldicl _ _ _ _ _ | .rldicr _ _ _ _ _ | .rldic _ _ _ _ _ | .rldimi _ _ _ _ _
      | .rldcl _ _ _ _ _ | .rldcr _ _ _ _ _ | .sld _ _ _ _ | .srd _ _ _ _ | .sradi _ _ _ _ | .srad _ _ _ _
      | .fctid _ _ _ | .fctidz _ _ _ | .fcfid _ _ _ => s.cfg.impl64 = false
      | .mtsr _ _ | .mtsrin _ _ | .mfsr _ _ | .mfsrin _ _ => s.cfg.impl64 = true
      | .fsqrt _ _ _ | .fsqrts _ _ _ => s.cfg.hasFpGp = false
      | .stfiwx _ _ _ | .fres _ _ _ | .frsqrte _ _ _ | .fsel _ _ _ _ _ => s.cfg.hasFpGraphics = false
      | .eciwx _ _ _ | .ecowx _ _ _ => s.cfg.hasExternalControl = false
      | .slbie _ => s.cfg.impl64 = false ∨ s.cfg.hasSlbie = false
      | .slbia => s.cfg.impl64 = false ∨ s.cfg.hasSlbia = false
      | .tlbia => s.cfg.hasTlbia = false
      | .tlbsync => s.cfg.hasTlbsync = false
      | _ => False
    (implemented (i.req s.cfg) s.cfg = false ↔ absent) ∧
    (absent → exec i s = .next (takeInterrupt (.program .illegal) s))) ∧
  (∀ (c : Config) (i : Instr), (i.req c).priv = true ↔
    (i = .rfi ∨ (∃ r, i = .mtmsr r) ∨ (∃ r, i = .mfmsr r) ∨ (∃ n r, i = .mtsr n r) ∨ (∃ r b, i = .mtsrin r b) ∨
      (∃ r n, i = .mfsr r n) ∨ (∃ r b, i = .mfsrin r b) ∨ (∃ a b, i = .dcbi a b) ∨ (∃ b, i = .slbie b) ∨
      i = .slbia ∨ (∃ b, i = .tlbie b) ∨ i = .tlbia ∨ i = .tlbsync ∨
      (∃ n r, i = .mtspr n r ∧ n.getLsbD 4 = true ∧ (mtsprDefined c n = true ∨ c.sprInvalidPrivileged = true)) ∨
      (∃ r n, i = .mfspr r n ∧ n.getLsbD 4 = true ∧ (mfsprDefined c n = true ∨ c.sprInvalidPrivileged = true))))

/-- A floating-point instruction with MSR_FP = 0 takes Floating-Point Unavailable and has no other effect.
60_exceptions.md R718. That an instruction the implementation lacks is illegal first is D15, the order of
30_encoding.md R200 (log 12, the model's choice). The last three fields of the frame are the model's own (logs 5, 26,
30). -/
def Obligations.FloatUnavailable : Prop :=
  ∀ (s : State) (i : Instr),
    let op := (slice (encode i) 0 6).toNat
    let xo := (slice (encode i) 21 10).toNat
    let float : Prop := (48 ≤ op ∧ op ≤ 55) ∨ op = 59 ∨ op = 63 ∨
      (op = 31 ∧ xo ∈ [535, 567, 599, 631, 663, 695, 727, 759, 983])
    float → s.msrBit msrFP = false →
    (implemented (i.req s.cfg) s.cfg = false → exec i s = .next (takeInterrupt (.program .illegal) s)) ∧
    (implemented (i.req s.cfg) s.cfg = true →
      let t := takeInterrupt .fpUnavailable s
      exec i s = .next t ∧ t.srr0 = s.codeAddress s.pc ∧ t.srr1 = s.narrow (s.msr &&& ~~~ 0x783F0000) ∧
        t.msr = interruptMsr .fpUnavailable s ∧ t.pc = s.narrow (s.vectorBase + 0x800) &&& ~~~ 3 ∧
        { t with
          srr0 := s.srr0, srr1 := s.srr1, msr := s.msr, pc := s.pc,
          draws := s.draws, lastInterrupt := s.lastInterrupt, ibatAltered := s.ibatAltered } = s)

/-- An invalid form is an illegal instruction, or is refused, by the implementation's policy. R183, R184, R197, R210 to R212
(log 10): which forms are invalid, field by field, with the numbers of R56, and which words have a reserved bit set. -/
def Obligations.InvalidForms : Prop :=
  let zBit (bo : BitVec 5) : Prop :=
    (bit bo 0 = false ∧ bit bo 2 = true ∧ bit bo 3 = true) ∨ (bit bo 0 = true ∧ bit bo 1 = true) ∨
      (bit bo 0 = true ∧ bit bo 2 = true ∧ (bit bo 3 = true ∨ bit bo 4 = true))
  let loaded (rt : Gpr) (bytes : Nat) (r : Gpr) : Prop := ∃ k, 4 * k < bytes ∧ r.toNat = (rt.toNat + k) % 32
  let readWrite (c : Config) (n : SprNum) : Prop :=
    n.toNat ∈ [1, 8, 9, 18, 19, 22, 25, 26, 27] ∨ (272 ≤ n.toNat ∧ n.toNat ≤ 275) ∨ (528 ≤ n.toNat ∧ n.toNat ≤ 543) ∨
      (n = 280 ∧ c.impl64 = true) ∨ (n = 282 ∧ c.hasExternalControl = true) ∨
      (n = 1022 ∧ c.fpecrPresent = true) ∨ (n = 1023 ∧ c.pirPresent = true)
  let invalid (c : Config) (xer : Word) (i : Instr) : Prop :=
    match i with
    | .bc bo _ _ _ _ | .bclr bo _ _ => zBit bo
    | .bcctr bo _ _ => zBit bo ∨ bit bo 2 = false
    | .lbzu rt _ ra | .lbzux rt ra _ | .lhzu rt _ ra | .lhzux rt ra _ | .lhau rt _ ra | .lhaux rt ra _
    | .lwzu rt _ ra | .lwzux rt ra _ | .lwaux rt ra _ | .ldu rt _ ra | .ldux rt ra _ => ra = 0 ∨ ra = rt
    | .stbu _ _ ra | .stbux _ ra _ | .sthu _ _ ra | .sthux _ ra _ | .stwu _ _ ra | .stwux _ ra _ | .stdu _ _ ra
    | .stdux _ ra _ | .lfsu _ _ ra | .lfsux _ ra _ | .lfdu _ _ ra | .lfdux _ ra _ | .stfsu _ _ ra | .stfsux _ ra _
    | .stfdu _ _ ra | .stfdux _ ra _ => ra = 0
    | .lmw rt _ ra => rt.toNat ≤ ra.toNat
    | .lswi rt ra nb => loaded rt (if nb = 0 then 32 else nb.toNat) ra
    | .lswx rt ra rb =>
      ra = rt ∨ rb = rt ∨ loaded rt (slice xer 25 7).toNat ra ∨ loaded rt (slice xer 25 7).toNat rb
    | .mtspr n _ => ¬ (readWrite c n ∨ n = 284 ∨ n = 285)
    | .mfspr _ n => ¬ (readWrite c n ∨ n = 287)
    | .mftb _ n => n ≠ 268 ∧ n ≠ 269
    | .cmpi _ l _ _ | .cmpli _ l _ _ | .cmp _ l _ _ | .cmpl _ l _ _ => l = true ∧ c.impl64 = false
    | _ => False
  (∀ bo : BitVec 5, boValid bo = false ↔ zBit bo) ∧
  (∀ (c : Config) (xer : Word) (i : Instr), (i.formValid && i.formValidHere c xer) = false ↔ invalid c xer i) ∧
  (∀ (w : Word) (i : Instr),
    decode w = .reservedBits i ↔ w &&& i.reservedZeroMask ≠ 0 ∧ w &&& ~~~ i.reservedZeroMask = encode i) ∧
  ∀ (s : State) (i : Instr), admissionBeforeForm i s = none →
    let stopped (r : Result) : Prop :=
      (s.cfg.invalidForm = .illegal → r = .next (takeInterrupt (.program .illegal) s)) ∧
      (s.cfg.invalidForm = .refuse → r = .refused .invalidForm)
    stopped (reservedBitsForm i s) ∧
    (invalid s.cfg s.xer i → stopped (exec i s)) ∧
    (¬ invalid s.cfg s.xer i → exec i s ≠ .refused .invalidForm)

/-- Which operand takes the Alignment interrupt, and that the instruction then does nothing else. R106, R107, R112, R149 and
R716, for every load, store, dcbz, eciwx and ecowx under every policy (log 9); segments are areas of 256 MB (log 35). That
registers and storage are unchanged is D27 (log 17, the model's choice), CR0 of a conditional store is free (log 14), the
address is truncated by the mode (log 23), and the form reported is a parameter (log 41). -/
def Obligations.AlignmentInterrupts : Prop :=
  (∀ (s : State) (i : Instr) (a : Access), accessOf i s = some a →
    let ea := s.iea a.ea
    let chosen (c : AlignChoice) : Prop := c = .trap ∨ (c = .byAccess ∧ Config.alignTraps (encode i) ea s.msr = true)
    let misaligned (n : Nat) : Prop := ea.toNat % n ≠ 0
    let attrs (b : Dword) : StorageAttrs := attrsOf s a.kind b
    let someByte (P : Dword → Prop) : Prop := ∃ k, k < a.bytes ∧ P (s.iea (a.ea + BitVec.ofNat 64 k))
    let otherDomain (b : Dword) : Prop :=
      slice b 0 52 ≠ slice ea 0 52 ∧ ((attrs b).block ≠ (attrs ea).block ∨ (attrs b).block = none) ∧
        ¬ ((attrs ea).block = none ∧ (attrs b).block = none ∧ (attrs ea).directStore = true ∧
          (attrs b).directStore = true ∧ slice b 0 36 = slice ea 0 36)
    let stopped : State :=
      if a.cls = .reserve ∧ a.kind = .store then (s.setCrField 0 (slice (s.free 1) 0 4)).drawn 1 else s
    let traps := alignmentTraps i s a.cls a.kind ea a.bytes
    (traps = true → admission i s = .execute →
      exec i s = .next (takeInterrupt
        (.alignment (alignmentDsisr s.cfg.impl64 (encode (reportedForm s.cfg i)) a.regs (s.free 0)) ea) stopped)) ∧
    (traps = true ↔
      (s.msrBit msrLE = true ∧ (a.cls = .multiple ∨ a.cls = .string)) ∨
      (s.msrBit msrLE = true ∧ (a.cls = .fixed ∨ a.cls = .float ∨ a.cls = .reserve) ∧ misaligned a.bytes ∧
        (s.cfg.align.little = .trap ∨ (s.cfg.align.little = .trapCrossing ∧ 8 < ea.toNat % 8 + a.bytes) ∨
          (s.cfg.align.little = .byAccess ∧ Config.alignTraps (encode i) ea s.msr = true))) ∨
      (a.cls = .float ∧ misaligned 4 ∧ chosen s.cfg.align.float) ∨
      (a.cls = .fixed ∧ a.bytes = 8 ∧ misaligned 4 ∧ chosen s.cfg.align.double) ∨
      (a.cls = .multiple ∧ misaligned 4 ∧ chosen s.cfg.align.multiple) ∨
      (a.cls = .reserve ∧ misaligned a.bytes ∧ chosen s.cfg.align.reserve) ∨
      (a.cls = .float ∧ someByte (fun b => (attrs b).directStore = true) ∧ chosen s.cfg.align.floatDirect) ∨
      (a.cls ≠ .multiple ∧ s.msrBit msrDR = true ∧ someByte otherDomain ∧ chosen s.cfg.align.crossing) ∨
      (a.cls = .multiple ∧ s.msrBit msrDR = true ∧ chosen s.cfg.align.multipleCrossing ∧
        someByte (fun b => slice b 0 36 ≠ slice ea 0 36 ∨ (attrs b).block ≠ (attrs ea).block)))) ∧
  (∀ (s : State) (r ra rb : Gpr), s.msrBit msrDR = true →
    let ea := s.iea ((if ra = 0 then 0 else s.x ra) + s.x rb)
    let block := (ea >>> s.cfg.blockLog2) <<< s.cfg.blockLog2
    let chosen (c : AlignChoice) (i : Instr) : Prop :=
      c = .trap ∨ (c = .byAccess ∧ Config.alignTraps (encode i) ea s.msr = true)
    let trapped (i : Instr) (regs : DsisrRegs) : Result :=
      .next (takeInterrupt (.alignment (alignmentDsisr s.cfg.impl64 (encode i) regs (s.free 0)) ea) s)
    (∀ real attrs, translate s .store block = .ok (real, attrs) →
      attrs.writeThrough = true ∨ attrs.cachingInhibited = true → chosen s.cfg.align.zeroBlock (.dcbz ra rb) →
      exec (.dcbz ra rb) s = trapped (.dcbz ra rb) .zeroBlock) ∧
    (s.cfg.hasExternalControl = true → ea.toNat % 4 ≠ 0 →
      (chosen s.cfg.align.external (.eciwx r ra rb) → exec (.eciwx r ra rb) s = trapped (.eciwx r ra rb) .other) ∧
      (chosen s.cfg.align.external (.ecowx r ra rb) → exec (.ecowx r ra rb) s = trapped (.ecowx r ra rb) .other)))

/-- Where a data access takes the Data Storage interrupt, with its DSISR and DAR, and which line of the translation table
answers. R130, R131, R133, R713 (log 8), for every load, store and cache instruction, eciwx and ecowx; the first byte that
fails is reported, truncated by the mode (D25, log 23). That registers and storage are unchanged when the access is stopped
is D27 (log 17); CR0 of a conditional store is free (log 14); that reservation instructions stop at direct-store and Write
Through storage is log 35, and that other accesses to direct-store storage fault log 28 (the model's choices). A conditional
store without the reservation takes the interrupt too (D16). -/
def Obligations.StorageInterrupts : Prop :=
  let bits (f : TranslationFault) (kind : AccessKind) : Word :=
    (if f.directStoreError then 0x80000000 else 0) ||| (if f.notFound then 0x40000000 else 0) |||
      (if f.protection then 0x08000000 else 0) ||| (if f.notSupported then 0x04000000 else 0) |||
      (if kind = .store then 0x02000000 else 0) ||| (if f.segmentMiss then 0x00200000 else 0)
  let unsupported (kind : AccessKind) : Word := if kind = .store then 0x06000000 else 0x04000000
  (∀ (s : State) (i : Instr) (regs : DsisrRegs) (cls : AccessClass) (kind : AccessKind) (ea : Dword) (n : Nat),
    let byte (k : Nat) : Dword := s.iea (ea + BitVec.ofNat 64 k)
    let answer (k : Nat) := translate s kind (if s.msrBit msrLE then byte k ^^^ 7 else byte k)
    let refusedBy (attrs : StorageAttrs) : Bool := attrs.directStore || (cls == .reserve && attrs.writeThrough)
    let passes (k : Nat) (real : Dword) : Prop := ∃ attrs, answer k = .ok (real, attrs) ∧ refusedBy attrs = false
    alignmentTraps i s cls kind (s.iea ea) n = false →
    (∀ k, k < n → (∀ j, j < k → ∃ real, passes j real) →
      (∀ f, answer k = .error f →
        accessReals i regs cls kind ea n s = .error (.interrupt (.dataStorage (bits f kind) (some (byte k))))) ∧
      (∀ real attrs, answer k = .ok (real, attrs) → refusedBy attrs = true →
        accessReals i regs cls kind ea n s =
          .error (if cls = .reserve ∨ cls = .external then .interrupt (.dataStorage (unsupported kind) (some (byte k)))
            else .fault .directStoreAccess))) ∧
    (∀ real : Nat → Dword, (∀ k, k < n → passes k (real k)) →
      accessReals i regs cls kind ea n s =
        .ok (if s.msrBit msrLE then ((List.range n).map real).reverse else (List.range n).map real))) ∧
  (∀ (s : State) (i : Instr) (a : Access), accessOf i s = some a → admission i s = .execute →
    let stopped : State :=
      if a.cls = .reserve ∧ a.kind = .store then (s.setCrField 0 (slice (s.free 1) 0 4)).drawn 1 else s
    (∀ c, a.reals i s = .error (.interrupt c) → exec i s = .next (takeInterrupt c stopped)) ∧
    (∀ f, a.reals i s = .error (.fault f) → exec i s = .fault f)) ∧
  (∀ (s : State) (ra rb : Gpr) (f : TranslationFault),
    let ea := s.iea ((if ra = 0 then 0 else s.x ra) + s.x rb)
    let block := (ea >>> s.cfg.blockLog2) <<< s.cfg.blockLog2
    let raised (kind : AccessKind) : Result := .next (takeInterrupt (.dataStorage (bits f kind) (some ea)) s)
    (translate s .load ea = .error f →
      exec (.icbi ra rb) s = raised .load ∧ exec (.dcbst ra rb) s = raised .load ∧ exec (.dcbf ra rb) s = raised .load) ∧
    (translate s .store ea = .error f → s.msrBit msrPR = false → exec (.dcbi ra rb) s = raised .store) ∧
    (translate s .store block = .error f → exec (.dcbz ra rb) s = raised .store)) ∧
  (∀ (s : State) (r ra rb : Gpr) (kind : AccessKind), s.cfg.hasExternalControl = true → s.msrBit msrDR = true →
    bit s.ear 0 = true → kind ≠ .ifetch →
    let i : Instr := if kind = .load then .eciwx r ra rb else .ecowx r ra rb
    let ea := s.iea ((if ra = 0 then 0 else s.x ra) + s.x rb)
    let answer := translate s kind (if s.msrBit msrLE then ea ^^^ 4 else ea)
    alignmentTraps i s .external kind ea 4 = false →
    (∀ f, answer = .error f → exec i s = .next (takeInterrupt (.dataStorage (bits f kind) (some ea)) s)) ∧
    (∀ real attrs, answer = .ok (real, attrs) → attrs.directStore = true →
      exec i s = .next (takeInterrupt (.dataStorage (unsupported kind) (some ea)) s))) ∧
  (∀ (s : State) (kind : AccessKind) (a : Dword),
     let applies (e : TranslationEntry) : Bool :=
       e.page == slice a 0 52 && e.kind == kind && e.privileged == !s.msrBit msrPR && e.conditions.all s.meets
     translate s kind a =
       if s.relocates kind then
         match (s.cfg.xlate.find? applies).map (·.result) with
         | none => .ok (a, {})
         | some (.ok page attrs) => .ok (page ++ slice a 52 12, attrs)
         | some (.fault causes) => .error causes
       else .ok (a, {}))

/-- DSISR after an Alignment interrupt identifies the instruction, in its own form or where the implementation chooses so in
the alternate one. R716, with bits 27:31 for the update forms and for lmw, lswi and lswx. Undefined fields come from a free value (log 16); the choice is a parameter (log 41). -/
def Obligations.AlignmentDsisr : Prop :=
  (∀ (impl64 : Bool) (w : Word) (regs : DsisrRegs) (free : Dword),
     let v := alignmentDsisr impl64 w regs free
     let op := slice w 0 6
     slice v 0 12 = 0 ∧ bit v 14 = false ∧
     (op = 31 → slice v 12 2 = 0 ∧ slice v 15 2 = slice w 29 2 ∧ bit v 17 = bit w 25 ∧
       slice v 18 4 = slice w 21 4) ∧
     (op ≠ 31 → slice v 15 2 = 0 ∧ bit v 17 = bit w 5 ∧ slice v 18 4 = slice w 1 4 ∧
       slice v 12 2 = if (op = 58 ∨ op = 62) ∧ impl64 = true then slice w 30 2 else 0) ∧
     (regs ≠ .zeroBlock → slice v 22 5 = slice w 6 5) ∧ (regs = .update → slice v 27 5 = slice w 11 5) ∧
     (∀ first count, regs = .outside first count →
       slice v 27 5 = slice w 11 5 ∨
         ∀ k : Nat, k < count → (slice v 27 5).toNat ≠ (first.toNat + k) % 32)) ∧
  (∀ (s : State) (i : Instr) (a : Access), accessOf i s = some a →
     match i with
     | .lmw rt _ _ => a.regs = .outside rt (32 - rt.toNat)
     | .lswi rt _ nb => a.regs = .outside rt (((if nb = 0 then 32 else nb.toNat) + 3) / 4)
     | .lswx rt _ _ => a.regs = .outside rt (((slice s.xer 25 7).toNat + 3) / 4)
     | .lbzu _ _ _ | .lbzux _ _ _ | .lhzu _ _ _ | .lhzux _ _ _ | .lhau _ _ _ | .lhaux _ _ _ | .lwzu _ _ _
     | .lwzux _ _ _ | .lwaux _ _ _ | .ldu _ _ _ | .ldux _ _ _ | .lfsu _ _ _ | .lfsux _ _ _ | .lfdu _ _ _
     | .lfdux _ _ _ | .stbu _ _ _ | .stbux _ _ _ | .sthu _ _ _ | .sthux _ _ _ | .stwu _ _ _ | .stwux _ _ _
     | .stdu _ _ _ | .stdux _ _ _ | .stfsu _ _ _ | .stfsux _ _ _ | .stfdu _ _ _ | .stfdux _ _ _ => a.regs = .update
     | _ => a.regs = .other) ∧
  (∀ (c : Config) (i j : Instr),
    let field (k : Instr) (f n : Nat) : BitVec n := slice (encode k) f n
    let code (k : Instr) : BitVec 10 := slice (alignmentDsisr c.impl64 (encode k) .other 0) 12 10
    (alternateForm i = none → reportedForm c i = i) ∧
    (alternateForm i = some j →
      reportedForm c i = (if c.alternateDsisr.contains (code i) then j else i) ∧
      field j 6 5 = field i 6 5 ∧ field j 11 5 = field i 11 5 ∧
      ∃ k, alternateForm j = some k ∧ field k 0 11 = field i 0 11 ∧ code k = code i)) ∧
  (∀ (s : State) (i j : Instr) (a : Access), alternateForm i = some j → accessOf i s = some a →
    ∃ b, accessOf j s = some b ∧ b.regs = a.regs ∧ b.cls = a.cls ∧ b.kind = a.kind ∧ b.bytes = a.bytes)

/-- Enabled requests are taken between instructions: a floating-point enabled exception first, then External, then the
Decrementer; with none and POW = 1 the machine stalls. 60_exceptions.md R715, R717, R719, R782 (4) to (6), 48_supervisor.md
R686. That POW = 1 stalls is log 21 and the kind of precise late interrupt log 19 (the model's choices). -/
def Obligations.AsynchronousInterrupts : Prop :=
  (∀ s : State, s.checkstop = false →
     (s.sresetReq = false → s.mcheckReq = false → s.fpEnabledException = false → s.extPending = true →
       s.msrBit msrEE = true →
       ∃ t, step s = .next (environment t) ∧ t.lastInterrupt = some .external ∧ t.extPending = true ∧
         t.srr0 = s.codeAddress s.pc ∧ t.srr1 = s.narrow (s.msr &&& ~~~ 0x783F0000) ∧
         t.msr = interruptMsr .external s ∧ t.msrBit msrEE = false ∧
         t.pc = s.narrow (s.vectorBase + 0x500) &&& ~~~ 3) ∧
     (s.msrBit msrEE = false → ∀ t, step s = .next t → t.lastInterrupt ≠ some .external)) ∧
  (∀ s : State, s.checkstop = false →
     (s.sresetReq = false → s.mcheckReq = false → s.fpEnabledException = false → s.extPending = false →
       s.decPending = true → s.msrBit msrEE = true →
       ∃ t, step s = .next (environment t) ∧ t.lastInterrupt = some .decrementer ∧ t.decPending = false ∧
         t.srr0 = s.codeAddress s.pc ∧ t.srr1 = s.narrow (s.msr &&& ~~~ 0x783F0000) ∧
         t.msr = interruptMsr .decrementer s ∧ t.pc = s.narrow (s.vectorBase + 0x900) &&& ~~~ 3) ∧
     (s.msrBit msrEE = false ∨ s.extPending = true →
       ∀ t, step s = .next t → t.lastInterrupt ≠ some .decrementer)) ∧
  (∀ s : State, s.checkstop = false → s.sresetReq = false → s.mcheckReq = false →
     (s.msrBit msrFE0 = true ∨ s.msrBit msrFE1 = true → bit s.fpscr 1 = true →
       ∃ t, step s = .next (environment t) ∧ t.lastInterrupt = some .program ∧ t.srr0 = s.codeAddress s.pc ∧
         t.srr1 = s.narrow (0x00110000 ||| (s.msr &&& ~~~ 0x783F0000)) ∧ t.msr = interruptMsr .program s ∧
         t.pc = s.narrow (s.vectorBase + 0x700) &&& ~~~ 3 ∧ t.extPending = s.extPending ∧
         t.decPending = s.decPending ∧ t.fpscr = s.fpscr) ∧
     ((s.msrBit msrFE0 = false ∧ s.msrBit msrFE1 = false) ∨ bit s.fpscr 1 = false →
       (s.extPending && s.msrBit msrEE) = false → (s.decPending && s.msrBit msrEE) = false →
       s.msrBit msrPOW = true → step s = .next (environment { s with lastInterrupt := none })))

/-- System Reset comes first, then Machine Check; without ME a Machine Check stops the machine, until a System Reset
restarts it. R710 to R712, R782 (1) to (3), R791 and R792. Log 22, the model's choice: the environment, and so the timers, still acts in
Checkstop, where R712 and R782 (1) say "do nothing"; storage stays through a reset out of Checkstop. Such a reset withdraws
the System Reset and Machine Check requests; the External level stays, and the Decrementer's request is free. -/
def Obligations.ResetAndMachineCheck : Prop :=
  ∀ s : State,
    let s0 := { s with lastInterrupt := none }
    (s.checkstop = false → s.sresetReq = true →
      step s = .next (environment (takeInterrupt .systemReset s0)) ∧
      (takeInterrupt .systemReset s0).srr0 = s.codeAddress s.pc ∧
      (takeInterrupt .systemReset s0).srr1 = s.narrow (s.msr &&& ~~~ 0x783F0000) ∧
      (takeInterrupt .systemReset s0).pc = s.narrow (s.vectorBase + 0x100) &&& ~~~ 3 ∧
      (takeInterrupt .systemReset s0).sresetReq = false) ∧
    (s.checkstop = false → s.sresetReq = false → s.mcheckReq = true →
      (s.msrBit msrME = true →
        step s = .next (environment (takeInterrupt .machineCheck s0)) ∧
        (takeInterrupt .machineCheck s0).msrBit msrME = false ∧
        (takeInterrupt .machineCheck s0).pc = s.narrow (s.vectorBase + 0x200) &&& ~~~ 3) ∧
      (s.msrBit msrME = false → step s = .next (environment { s0 with checkstop := true }))) ∧
    (s.checkstop = true → s.sresetReq = false → step s = .next (environment s0)) ∧
    (s.checkstop = true → s.sresetReq = true →
      ∃ t, step s = .next (environment t) ∧ t.msr = msrStored s.cfg s.cfg.msrReset ∧
        t.pc = t.codeAddress ((if t.msrBit msrIP then s.cfg.ipBase1 else s.cfg.ipBase0) + 0x100) ∧
        t.checkstop = false ∧ t.sresetReq = false ∧ t.mcheckReq = false ∧ t.lastInterrupt = some .systemReset ∧
        t.mem = s.mem ∧ t.cfg = s.cfg ∧ t.extPending = s.extPending)

/-- With SE, or BE and a branch, a completed instruction is followed by a Trace interrupt, unless it unmasked a
floating-point enabled exception; one that needs software assistance is replaced by a Floating-Point Assist interrupt.
R721, R722, R685 and R781; which MSR value is consulted, and the SRR1 status bits, are D24 (logs 16, 26); what needs
assistance is free (log 27, the model's choice). -/
def Obligations.TraceAndAssist : Prop :=
  ∀ (i : Instr) (s t : State),
    let branch : Prop := (∃ li aa lk, i = .b li aa lk) ∨ (∃ bo bi bd aa lk, i = .bc bo bi bd aa lk) ∨
      (∃ bo bi lk, i = .bclr bo bi lk) ∨ (∃ bo bi lk, i = .bcctr bo bi lk)
    let due : Prop := s.cfg.hasTrace = true ∧
      ((s.msrBit msrSE = true ∧ i ≠ .rfi) ∨ (s.msrBit msrBE = true ∧ branch))
    let enabled : Prop := (t.msrBit msrFE0 = true ∨ t.msrBit msrFE1 = true) ∧ bit t.fpscr 1 = true
    let op := (slice (encode i) 0 6).toNat
    (due → t.lastInterrupt = none → ¬ enabled →
      withTrace i s (.next t) = .next (takeInterrupt .trace t) ∧
      (takeInterrupt .trace t).srr0 = t.codeAddress t.pc ∧
      (takeInterrupt .trace t).msrBit msrSE = false ∧ (takeInterrupt .trace t).msrBit msrBE = false ∧
      (takeInterrupt .trace t).pc = t.narrow (t.vectorBase + 0xD00) &&& ~~~ 3) ∧
    (¬ due ∨ t.lastInterrupt ≠ none ∨ enabled → withTrace i s (.next t) = .next t) ∧
    (withAssist i s (.next t) = .next t ∨ withAssist i s (.next t) = .next (takeInterrupt .fpAssist s)) ∧
    (s.cfg.hasFpAssist = false ∨ t.lastInterrupt ≠ none ∨ (op ≠ 59 ∧ op ≠ 63) →
      withAssist i s (.next t) = .next t) ∧
    (takeInterrupt .fpAssist s).srr0 = s.codeAddress s.pc ∧
    (takeInterrupt .fpAssist s).pc = s.narrow (s.vectorBase + 0xE00) &&& ~~~ 3

/-- An instruction changes no user register but its destinations. The frame of every instruction over the user
registers; the status and mode registers are in `SystemFrame`. -/
def Obligations.RegisterFrame : Prop :=
  ∀ (i : Instr) (s t : State), exec i s = .next t →
    (∀ r : Gpr, writesGpr i s r = false → t.gpr[r.toNat]? = s.gpr[r.toNat]?) ∧
    (∀ r : Fpr, writesFpr i r = false → t.fpr[r.toNat]? = s.fpr[r.toNat]? ∧ t.fSingle r = s.fSingle r) ∧
    t.cr &&& ~~~ crWritten i = s.cr &&& ~~~ crWritten i ∧
    t.xer &&& ~~~ xerWritten i = s.xer &&& ~~~ xerWritten i ∧
    (writesFpscr i = false → t.fpscr = s.fpscr) ∧ (writesLr i = false → t.lr = s.lr) ∧
    (writesCtr i = false → t.ctr = s.ctr)

/-- An instruction changes no byte of storage but those it stores to. The frame of every instruction over storage;
storesAt uses accessReals and translate at the same operands as the meanings. That a store stopped by an interrupt changes
no byte at all is the model's choice, D27 (log 17): R770 lets the bytes before the boundary be stored. -/
def Obligations.MemoryFrame : Prop :=
  ∀ (i : Instr) (s t : State), s.mem.wf = true → exec i s = .next t →
    t.mem.wf = true ∧ ∀ a : Dword, a ∉ storesAt i s → t.mem.read a = s.mem.read a

/-- An instruction changes no system register but those its rule or an interrupt writes. The frame of every
instruction over the supervisor state; mtspr changes the register it names and no other. The marker and the record of
IBAT alterations are the model's own (logs 20, 30). That a translated load or store leaves SRR0 and SRR1 alone is the model's choice (log 38: R42 and R706 let it
modify them), and so is that nothing but mtspr changes PIR and that only mtspr and the instructions that write the FPSCR
change FPECR (log 31). -/
def Obligations.SystemFrame : Prop :=
  ∀ (i : Instr) (s t : State), s.lastInterrupt = none → exec i s = .next t →
    let notSpr (k : Nat) : Prop := ∀ n r, i = .mtspr n r → n.toNat ≠ k
    let notReserve : Prop := (∀ r a b, i ≠ .lwarx r a b) ∧ (∀ r a b, i ≠ .ldarx r a b) ∧
      (∀ r a b, i ≠ .stwcxDot r a b) ∧ (∀ r a b, i ≠ .stdcxDot r a b)
    let notSr : Prop := (∀ n r, i ≠ .mtsr n r) ∧ (∀ r b, i ≠ .mtsrin r b)
    let notExternal : Prop := (∀ r a b, i ≠ .eciwx r a b) ∧ (∀ r a b, i ≠ .ecowx r a b)
    t.cfg = s.cfg ∧ t.env = s.env ∧ t.extPending = s.extPending ∧ t.sresetReq = s.sresetReq ∧
    t.mcheckReq = s.mcheckReq ∧ t.checkstop = s.checkstop ∧
    (t.lastInterrupt = none → (∀ r, i ≠ .mtmsr r) → i ≠ .rfi → t.msr = s.msr) ∧
    (t.lastInterrupt = none →
      (notSpr 26 → t.srr0 = s.srr0) ∧ (notSpr 27 → t.srr1 = s.srr1) ∧ (notSpr 18 → t.dsisr = s.dsisr) ∧
      (notSpr 19 → t.dar = s.dar)) ∧
    (notSpr 25 → t.sdr1 = s.sdr1) ∧ (notSpr 280 → t.asr = s.asr) ∧ (notSpr 282 → t.ear = s.ear) ∧
    (notSpr 22 → t.dec = s.dec ∧ t.decPending = s.decPending) ∧ (notSpr 284 → notSpr 285 → t.tb = s.tb) ∧
    (notSpr 1023 → t.pir = s.pir) ∧
    (notSpr 1022 → s.cfg.fpecrPresent = false ∨ writesFpscr i = false → t.fpecr = s.fpecr) ∧
    (∀ k, k < 4 → notSpr (272 + k) → t.sprg[k]? = s.sprg[k]?) ∧
    (∀ k, k < 8 → notSpr (528 + k) → t.ibat[k]? = s.ibat[k]?) ∧
    (∀ k, k < 8 → notSpr (536 + k) → t.dbat[k]? = s.dbat[k]?) ∧
    (notSr → t.sr = s.sr) ∧ (notReserve → t.reserve = s.reserve) ∧
    ((∀ r a b, i ≠ .eciwx r a b) → t.extIn = s.extIn) ∧ (notExternal → t.extOut = s.extOut) ∧
    (notSr → notExternal → (∀ n r, i ≠ .mtspr n r) → (∀ r, i ≠ .mtmsr r) → i ≠ .rfi → t.flagged = s.flagged) ∧
    (t.lastInterrupt = none → i ≠ .isync → i ≠ .rfi → ∀ k, k < 8 → notSpr (528 + k) →
      t.ibatAltered[k]? = s.ibatAltered[k]?)

/-- Every step keeps the invariant. R34, R36, R38, R40, R52, R58 for every step from every state. -/
def Obligations.InvariantKept : Prop :=
  ∀ s t : State, s.Inv → step s = .next t → t.Inv

/-- With invalid forms illegal, no direct-store page, and alterations against Appendix L.4 executed or impossible (the
identity translation, and no MSR bit that needs a special sequence), every step answers a next state of such a
configuration. R782 and R808. The stops of the model are log 10, log 20, log 28 and log 30. -/
def Obligations.StepNeverStops : Prop :=
  (∀ s : State, s.cfg.total → ∃ t, step s = .next t ∧ t.cfg.total) ∧
  Config.reference.total ∧ Config.reference32.total

/-- A step from problem state changes no supervisor register but by taking an interrupt. R685 and R702 as a property
of the whole machine. That a translated fetch, load or store leaves SRR0 and SRR1 alone is the model's choice (log 38: R42
and R706 let it modify them), and so is that PIR stays, and FPECR but for a floating-point exception (log 31). -/
def Obligations.ProblemStateIsolation : Prop :=
  ∀ s t : State, s.checkstop = false → s.msrBit msrPR = true → step s = .next t →
    (∃ k, t.lastInterrupt = some k ∧ t.msr = interruptMsr k s ∧ t.msrBit msrPR = false ∧
      t.pc = s.narrow (s.vectorBase + vectorOffset k) &&& ~~~ 3) ∨
    (t.lastInterrupt = none ∧ t.msr = s.msr ∧ t.srr0 = s.srr0 ∧ t.srr1 = s.srr1 ∧ t.dsisr = s.dsisr ∧
      t.dar = s.dar ∧ t.sprg = s.sprg ∧ t.sdr1 = s.sdr1 ∧ t.asr = s.asr ∧ t.ear = s.ear ∧ t.ibat = s.ibat ∧
      t.dbat = s.dbat ∧ t.sr = s.sr ∧ t.pir = s.pir ∧
      (s.cfg.fpecrPresent = false → t.fpecr = s.fpecr))
end

