-- ==== Sys2Proof/Laws/Forms.lean ====
section
/-! SUPPORT. The slices and bits of an encoded word, form by form: what the decoder reads where the encoder put it. -/

namespace Sys2Proof.Laws

/-- A slice inside the high part of an append. -/
theorem slice_append_left {a b : Nat} (x : BitVec a) (y : BitVec b) (i n : Nat) (h : i + n ≤ a) :
    slice (x ++ y) i n = slice x i n := by
  apply BitVec.eq_of_getLsbD_eq
  intro k hk
  simp only [slice, BitVec.getLsbD_extractLsb', BitVec.getLsbD_append, hk, decide_true, Bool.true_and]
  rw [if_neg (by omega)]
  congr 1; omega

/-- A slice inside the low part of an append. -/
theorem slice_append_right {a b : Nat} (x : BitVec a) (y : BitVec b) (i n : Nat) (h : a ≤ i) (h' : i + n ≤ a + b) :
    slice (x ++ y) i n = slice y (i - a) n := by
  apply BitVec.eq_of_getLsbD_eq
  intro k hk
  simp only [slice, BitVec.getLsbD_extractLsb', BitVec.getLsbD_append, hk, decide_true, Bool.true_and]
  rw [if_pos (by omega)]
  congr 1; omega

/-- The slice that is the whole vector. -/
theorem slice_all {a : Nat} (x : BitVec a) : slice x 0 a = x := by
  apply BitVec.eq_of_getLsbD_eq
  intro k hk
  simp [slice, hk]

/-- A slice as two adjacent slices. -/
theorem slice_split {w : Nat} (x : BitVec w) (i a b : Nat) (h : i + (a + b) ≤ w) :
    slice x i (a + b) = slice x i a ++ slice x (i + a) b := by
  apply BitVec.eq_of_getLsbD_eq
  intro k hk
  simp only [slice, BitVec.getLsbD_extractLsb', BitVec.getLsbD_append, hk, decide_true, Bool.true_and]
  by_cases hb : k < b
  · rw [if_pos (by omega)]
    simp only [hb, decide_true, Bool.true_and]
    congr 1; omega
  · rw [if_neg (by omega)]
    have : k - b < a := by omega
    simp only [this, decide_true, Bool.true_and]
    congr 1; omega

/-- A bit of the high part of an append. -/
theorem bit_append_left {a b : Nat} (x : BitVec a) (y : BitVec b) (i : Nat) (h : i < a) :
    bit (x ++ y) i = bit x i := by
  simp only [bit, BitVec.getMsbD, BitVec.getLsbD_append]
  rw [if_neg (by omega)]
  have : i < a + b := by omega
  simp only [h, this, decide_true, Bool.true_and]
  congr 1; omega

/-- A bit of the low part of an append. -/
theorem bit_append_right {a b : Nat} (x : BitVec a) (y : BitVec b) (i : Nat) (h : a ≤ i) (h' : i < a + b) :
    bit (x ++ y) i = bit y (i - a) := by
  simp only [bit, BitVec.getMsbD, BitVec.getLsbD_append]
  rw [if_pos (by omega)]
  have : i - a < b := by omega
  simp only [h', this, decide_true, Bool.true_and]
  congr 1; omega

/-- The one bit of `b1`. -/
theorem bit_b1 (b : Bool) : bit (b1 b) 0 = b := by cases b <;> rfl

theorem encI_slice_0_6 (op : BitVec 6) (li : BitVec 24) (aa lk : Bool) :
    slice (encI op li aa lk) 0 6 = op := by
  unfold encI
  rw [slice_append_left _ _ _ _ (by omega), slice_append_left _ _ _ _ (by omega), slice_append_left _ _ _ _ (by omega)]
  all_goals exact slice_all _

theorem encI_slice_6_24 (op : BitVec 6) (li : BitVec 24) (aa lk : Bool) :
    slice (encI op li aa lk) 6 24 = li := by
  unfold encI
  rw [slice_append_left _ _ _ _ (by omega), slice_append_left _ _ _ _ (by omega), slice_append_right _ _ _ _ (by omega) (by omega)]
  all_goals exact slice_all _

theorem encI_bit_30 (op : BitVec 6) (li : BitVec 24) (aa lk : Bool) :
    bit (encI op li aa lk) 30 = aa := by
  unfold encI
  rw [bit_append_left _ _ _ (by omega), bit_append_right _ _ _ (by omega) (by omega)]
  all_goals exact bit_b1 _

theorem encI_bit_31 (op : BitVec 6) (li : BitVec 24) (aa lk : Bool) :
    bit (encI op li aa lk) 31 = lk := by
  unfold encI
  rw [bit_append_right _ _ _ (by omega) (by omega)]
  all_goals exact bit_b1 _

theorem encB_slice_0_6 (op : BitVec 6) (bo bi : BitVec 5) (bd : BitVec 14) (aa lk : Bool) :
    slice (encB op bo bi bd aa lk) 0 6 = op := by
  unfold encB
  rw [slice_append_left _ _ _ _ (by omega), slice_append_left _ _ _ _ (by omega), slice_append_left _ _ _ _ (by omega), slice_append_left _ _ _ _ (by omega), slice_append_left _ _ _ _ (by omega)]
  all_goals exact slice_all _

theorem encB_slice_6_5 (op : BitVec 6) (bo bi : BitVec 5) (bd : BitVec 14) (aa lk : Bool) :
    slice (encB op bo bi bd aa lk) 6 5 = bo := by
  unfold encB
  rw [slice_append_left _ _ _ _ (by omega), slice_append_left _ _ _ _ (by omega), slice_append_left _ _ _ _ (by omega), slice_append_left _ _ _ _ (by omega), slice_append_right _ _ _ _ (by omega) (by omega)]
  all_goals exact slice_all _

theorem encB_slice_11_5 (op : BitVec 6) (bo bi : BitVec 5) (bd : BitVec 14) (aa lk : Bool) :
    slice (encB op bo bi bd aa lk) 11 5 = bi := by
  unfold encB
  rw [slice_append_left _ _ _ _ (by omega), slice_append_left _ _ _ _ (by omega), slice_append_left _ _ _ _ (by omega), slice_append_right _ _ _ _ (by omega) (by omega)]
  all_goals exact slice_all _

theorem encB_slice_16_14 (op : BitVec 6) (bo bi : BitVec 5) (bd : BitVec 14) (aa lk : Bool) :
    slice (encB op bo bi bd aa lk) 16 14 = bd := by
  unfold encB
  rw [slice_append_left _ _ _ _ (by omega), slice_append_left _ _ _ _ (by omega), slice_append_right _ _ _ _ (by omega) (by omega)]
  all_goals exact slice_all _

theorem encB_bit_30 (op : BitVec 6) (bo bi : BitVec 5) (bd : BitVec 14) (aa lk : Bool) :
    bit (encB op bo bi bd aa lk) 30 = aa := by
  unfold encB
  rw [bit_append_left _ _ _ (by omega), bit_append_right _ _ _ (by omega) (by omega)]
  all_goals exact bit_b1 _

theorem encB_bit_31 (op : BitVec 6) (bo bi : BitVec 5) (bd : BitVec 14) (aa lk : Bool) :
    bit (encB op bo bi bd aa lk) 31 = lk := by
  unfold encB
  rw [bit_append_right _ _ _ (by omega) (by omega)]
  all_goals exact bit_b1 _

theorem encD_slice_0_6 (op : BitVec 6) (f1 f2 : BitVec 5) (d : BitVec 16) :
    slice (encD op f1 f2 d) 0 6 = op := by
  unfold encD
  rw [slice_append_left _ _ _ _ (by omega), slice_append_left _ _ _ _ (by omega), slice_append_left _ _ _ _ (by omega)]
  all_goals exact slice_all _

theorem encD_slice_6_3 (op : BitVec 6) (f1 f2 : BitVec 5) (d : BitVec 16) :
    slice (encD op f1 f2 d) 6 3 = (slice f1 0 3) := by
  unfold encD
  rw [slice_append_left _ _ _ _ (by omega), slice_append_left _ _ _ _ (by omega), slice_append_right _ _ _ _ (by omega) (by omega)]

theorem encD_slice_6_5 (op : BitVec 6) (f1 f2 : BitVec 5) (d : BitVec 16) :
    slice (encD op f1 f2 d) 6 5 = f1 := by
  unfold encD
  rw [slice_append_left _ _ _ _ (by omega), slice_append_left _ _ _ _ (by omega), slice_append_right _ _ _ _ (by omega) (by omega)]
  all_goals exact slice_all _

theorem encD_slice_9_1 (op : BitVec 6) (f1 f2 : BitVec 5) (d : BitVec 16) :
    slice (encD op f1 f2 d) 9 1 = (slice f1 3 1) := by
  unfold encD
  rw [slice_append_left _ _ _ _ (by omega), slice_append_left _ _ _ _ (by omega), slice_append_right _ _ _ _ (by omega) (by omega)]

theorem encD_slice_11_5 (op : BitVec 6) (f1 f2 : BitVec 5) (d : BitVec 16) :
    slice (encD op f1 f2 d) 11 5 = f2 := by
  unfold encD
  rw [slice_append_left _ _ _ _ (by omega), slice_append_right _ _ _ _ (by omega) (by omega)]
  all_goals exact slice_all _

theorem encD_slice_16_16 (op : BitVec 6) (f1 f2 : BitVec 5) (d : BitVec 16) :
    slice (encD op f1 f2 d) 16 16 = d := by
  unfold encD
  rw [slice_append_right _ _ _ _ (by omega) (by omega)]
  all_goals exact slice_all _

theorem encD_bit_10 (op : BitVec 6) (f1 f2 : BitVec 5) (d : BitVec 16) :
    bit (encD op f1 f2 d) 10 = bit f1 4 := by
  unfold encD
  rw [bit_append_left _ _ _ (by omega), bit_append_left _ _ _ (by omega), bit_append_right _ _ _ (by omega) (by omega)]

theorem encDS_slice_0_6 (op : BitVec 6) (f1 f2 : BitVec 5) (ds : BitVec 14) (xo : BitVec 2) :
    slice (encDS op f1 f2 ds xo) 0 6 = op := by
  unfold encDS
  rw [slice_append_left _ _ _ _ (by omega), slice_append_left _ _ _ _ (by omega), slice_append_left _ _ _ _ (by omega), slice_append_left _ _ _ _ (by omega)]
  all_goals exact slice_all _

theorem encDS_slice_6_5 (op : BitVec 6) (f1 f2 : BitVec 5) (ds : BitVec 14) (xo : BitVec 2) :
    slice (encDS op f1 f2 ds xo) 6 5 = f1 := by
  unfold encDS
  rw [slice_append_left _ _ _ _ (by omega), slice_append_left _ _ _ _ (by omega), slice_append_left _ _ _ _ (by omega), slice_append_right _ _ _ _ (by omega) (by omega)]
  all_goals exact slice_all _

theorem encDS_slice_11_5 (op : BitVec 6) (f1 f2 : BitVec 5) (ds : BitVec 14) (xo : BitVec 2) :
    slice (encDS op f1 f2 ds xo) 11 5 = f2 := by
  unfold encDS
  rw [slice_append_left _ _ _ _ (by omega), slice_append_left _ _ _ _ (by omega), slice_append_right _ _ _ _ (by omega) (by omega)]
  all_goals exact slice_all _

theorem encDS_slice_16_14 (op : BitVec 6) (f1 f2 : BitVec 5) (ds : BitVec 14) (xo : BitVec 2) :
    slice (encDS op f1 f2 ds xo) 16 14 = ds := by
  unfold encDS
  rw [slice_append_left _ _ _ _ (by omega), slice_append_right _ _ _ _ (by omega) (by omega)]
  all_goals exact slice_all _

theorem encDS_slice_30_2 (op : BitVec 6) (f1 f2 : BitVec 5) (ds : BitVec 14) (xo : BitVec 2) :
    slice (encDS op f1 f2 ds xo) 30 2 = xo := by
  unfold encDS
  rw [slice_append_right _ _ _ _ (by omega) (by omega)]
  all_goals exact slice_all _

theorem encX_slice_0_6 (op : BitVec 6) (f1 f2 f3 : BitVec 5) (xo : BitVec 10) (last : Bool) :
    slice (encX op f1 f2 f3 xo last) 0 6 = op := by
  unfold encX
  rw [slice_append_left _ _ _ _ (by omega), slice_append_left _ _ _ _ (by omega), slice_append_left _ _ _ _ (by omega), slice_append_left _ _ _ _ (by omega), slice_append_left _ _ _ _ (by omega)]
  all_goals exact slice_all _

theorem encX_slice_6_3 (op : BitVec 6) (f1 f2 f3 : BitVec 5) (xo : BitVec 10) (last : Bool) :
    slice (encX op f1 f2 f3 xo last) 6 3 = (slice f1 0 3) := by
  unfold encX
  rw [slice_append_left _ _ _ _ (by omega), slice_append_left _ _ _ _ (by omega), slice_append_left _ _ _ _ (by omega), slice_append_left _ _ _ _ (by omega), slice_append_right _ _ _ _ (by omega) (by omega)]

theorem encX_slice_6_5 (op : BitVec 6) (f1 f2 f3 : BitVec 5) (xo : BitVec 10) (last : Bool) :
    slice (encX op f1 f2 f3 xo last) 6 5 = f1 := by
  unfold encX
  rw [slice_append_left _ _ _ _ (by omega), slice_append_left _ _ _ _ (by omega), slice_append_left _ _ _ _ (by omega), slice_append_left _ _ _ _ (by omega), slice_append_right _ _ _ _ (by omega) (by omega)]
  all_goals exact slice_all _

theorem encX_slice_9_1 (op : BitVec 6) (f1 f2 f3 : BitVec 5) (xo : BitVec 10) (last : Bool) :
    slice (encX op f1 f2 f3 xo last) 9 1 = (slice f1 3 1) := by
  unfold encX
  rw [slice_append_left _ _ _ _ (by omega), slice_append_left _ _ _ _ (by omega), slice_append_left _ _ _ _ (by omega), slice_append_left _ _ _ _ (by omega), slice_append_right _ _ _ _ (by omega) (by omega)]

theorem encX_slice_9_2 (op : BitVec 6) (f1 f2 f3 : BitVec 5) (xo : BitVec 10) (last : Bool) :
    slice (encX op f1 f2 f3 xo last) 9 2 = (slice f1 3 2) := by
  unfold encX
  rw [slice_append_left _ _ _ _ (by omega), slice_append_left _ _ _ _ (by omega), slice_append_left _ _ _ _ (by omega), slice_append_left _ _ _ _ (by omega), slice_append_right _ _ _ _ (by omega) (by omega)]

theorem encX_slice_11_1 (op : BitVec 6) (f1 f2 f3 : BitVec 5) (xo : BitVec 10) (last : Bool) :
    slice (encX op f1 f2 f3 xo last) 11 1 = (slice f2 0 1) := by
  unfold encX
  rw [slice_append_left _ _ _ _ (by omega), slice_append_left _ _ _ _ (by omega), slice_append_left _ _ _ _ (by omega), slice_append_right _ _ _ _ (by omega) (by omega)]

theorem encX_slice_11_3 (op : BitVec 6) (f1 f2 f3 : BitVec 5) (xo : BitVec 10) (last : Bool) :
    slice (encX op f1 f2 f3 xo last) 11 3 = (slice f2 0 3) := by
  unfold encX
  rw [slice_append_left _ _ _ _ (by omega), slice_append_left _ _ _ _ (by omega), slice_append_left _ _ _ _ (by omega), slice_append_right _ _ _ _ (by omega) (by omega)]

theorem encX_slice_11_5 (op : BitVec 6) (f1 f2 f3 : BitVec 5) (xo : BitVec 10) (last : Bool) :
    slice (encX op f1 f2 f3 xo last) 11 5 = f2 := by
  unfold encX
  rw [slice_append_left _ _ _ _ (by omega), slice_append_left _ _ _ _ (by omega), slice_append_left _ _ _ _ (by omega), slice_append_right _ _ _ _ (by omega) (by omega)]
  all_goals exact slice_all _

theorem encX_slice_12_2 (op : BitVec 6) (f1 f2 f3 : BitVec 5) (xo : BitVec 10) (last : Bool) :
    slice (encX op f1 f2 f3 xo last) 12 2 = (slice f2 1 2) := by
  unfold encX
  rw [slice_append_left _ _ _ _ (by omega), slice_append_left _ _ _ _ (by omega), slice_append_left _ _ _ _ (by omega), slice_append_right _ _ _ _ (by omega) (by omega)]

theorem encX_slice_12_4 (op : BitVec 6) (f1 f2 f3 : BitVec 5) (xo : BitVec 10) (last : Bool) :
    slice (encX op f1 f2 f3 xo last) 12 4 = (slice f2 1 4) := by
  unfold encX
  rw [slice_append_left _ _ _ _ (by omega), slice_append_left _ _ _ _ (by omega), slice_append_left _ _ _ _ (by omega), slice_append_right _ _ _ _ (by omega) (by omega)]

theorem encX_slice_14_2 (op : BitVec 6) (f1 f2 f3 : BitVec 5) (xo : BitVec 10) (last : Bool) :
    slice (encX op f1 f2 f3 xo last) 14 2 = (slice f2 3 2) := by
  unfold encX
  rw [slice_append_left _ _ _ _ (by omega), slice_append_left _ _ _ _ (by omega), slice_append_left _ _ _ _ (by omega), slice_append_right _ _ _ _ (by omega) (by omega)]

theorem encX_slice_16_4 (op : BitVec 6) (f1 f2 f3 : BitVec 5) (xo : BitVec 10) (last : Bool) :
    slice (encX op f1 f2 f3 xo last) 16 4 = (slice f3 0 4) := by
  unfold encX
  rw [slice_append_left _ _ _ _ (by omega), slice_append_left _ _ _ _ (by omega), slice_append_right _ _ _ _ (by omega) (by omega)]

theorem encX_slice_16_5 (op : BitVec 6) (f1 f2 f3 : BitVec 5) (xo : BitVec 10) (last : Bool) :
    slice (encX op f1 f2 f3 xo last) 16 5 = f3 := by
  unfold encX
  rw [slice_append_left _ _ _ _ (by omega), slice_append_left _ _ _ _ (by omega), slice_append_right _ _ _ _ (by omega) (by omega)]
  all_goals exact slice_all _

theorem encX_slice_20_1 (op : BitVec 6) (f1 f2 f3 : BitVec 5) (xo : BitVec 10) (last : Bool) :
    slice (encX op f1 f2 f3 xo last) 20 1 = (slice f3 4 1) := by
  unfold encX
  rw [slice_append_left _ _ _ _ (by omega), slice_append_left _ _ _ _ (by omega), slice_append_right _ _ _ _ (by omega) (by omega)]

theorem encX_slice_21_10 (op : BitVec 6) (f1 f2 f3 : BitVec 5) (xo : BitVec 10) (last : Bool) :
    slice (encX op f1 f2 f3 xo last) 21 10 = xo := by
  unfold encX
  rw [slice_append_left _ _ _ _ (by omega), slice_append_right _ _ _ _ (by omega) (by omega)]
  all_goals exact slice_all _

theorem encX_slice_22_9 (op : BitVec 6) (f1 f2 f3 : BitVec 5) (xo : BitVec 10) (last : Bool) :
    slice (encX op f1 f2 f3 xo last) 22 9 = (slice xo 1 9) := by
  unfold encX
  rw [slice_append_left _ _ _ _ (by omega), slice_append_right _ _ _ _ (by omega) (by omega)]

theorem encX_slice_26_5 (op : BitVec 6) (f1 f2 f3 : BitVec 5) (xo : BitVec 10) (last : Bool) :
    slice (encX op f1 f2 f3 xo last) 26 5 = (slice xo 5 5) := by
  unfold encX
  rw [slice_append_left _ _ _ _ (by omega), slice_append_right _ _ _ _ (by omega) (by omega)]

theorem encX_slice_31_1 (op : BitVec 6) (f1 f2 f3 : BitVec 5) (xo : BitVec 10) (last : Bool) :
    slice (encX op f1 f2 f3 xo last) 31 1 = (b1 last) := by
  unfold encX
  rw [slice_append_right _ _ _ _ (by omega) (by omega)]
  all_goals exact slice_all _

theorem encX_bit_10 (op : BitVec 6) (f1 f2 f3 : BitVec 5) (xo : BitVec 10) (last : Bool) :
    bit (encX op f1 f2 f3 xo last) 10 = bit f1 4 := by
  unfold encX
  rw [bit_append_left _ _ _ (by omega), bit_append_left _ _ _ (by omega), bit_append_left _ _ _ (by omega), bit_append_left _ _ _ (by omega), bit_append_right _ _ _ (by omega) (by omega)]

theorem encX_bit_31 (op : BitVec 6) (f1 f2 f3 : BitVec 5) (xo : BitVec 10) (last : Bool) :
    bit (encX op f1 f2 f3 xo last) 31 = last := by
  unfold encX
  rw [bit_append_right _ _ _ (by omega) (by omega)]
  all_goals exact bit_b1 _

theorem encMtcrf_slice_0_6 (rs : BitVec 5) (fxm : BitVec 8) :
    slice (encMtcrf rs fxm) 0 6 = 31#6 := by
  unfold encMtcrf
  rw [slice_append_left _ _ _ _ (by omega), slice_append_left _ _ _ _ (by omega), slice_append_left _ _ _ _ (by omega), slice_append_left _ _ _ _ (by omega), slice_append_left _ _ _ _ (by omega), slice_append_left _ _ _ _ (by omega)]
  all_goals exact slice_all _

theorem encMtcrf_slice_6_5 (rs : BitVec 5) (fxm : BitVec 8) :
    slice (encMtcrf rs fxm) 6 5 = rs := by
  unfold encMtcrf
  rw [slice_append_left _ _ _ _ (by omega), slice_append_left _ _ _ _ (by omega), slice_append_left _ _ _ _ (by omega), slice_append_left _ _ _ _ (by omega), slice_append_left _ _ _ _ (by omega), slice_append_right _ _ _ _ (by omega) (by omega)]
  all_goals exact slice_all _

theorem encMtcrf_slice_11_1 (rs : BitVec 5) (fxm : BitVec 8) :
    slice (encMtcrf rs fxm) 11 1 = 0#1 := by
  unfold encMtcrf
  rw [slice_append_left _ _ _ _ (by omega), slice_append_left _ _ _ _ (by omega), slice_append_left _ _ _ _ (by omega), slice_append_left _ _ _ _ (by omega), slice_append_right _ _ _ _ (by omega) (by omega)]
  all_goals exact slice_all _

theorem encMtcrf_slice_12_8 (rs : BitVec 5) (fxm : BitVec 8) :
    slice (encMtcrf rs fxm) 12 8 = fxm := by
  unfold encMtcrf
  rw [slice_append_left _ _ _ _ (by omega), slice_append_left _ _ _ _ (by omega), slice_append_left _ _ _ _ (by omega), slice_append_right _ _ _ _ (by omega) (by omega)]
  all_goals exact slice_all _

theorem encMtcrf_slice_20_1 (rs : BitVec 5) (fxm : BitVec 8) :
    slice (encMtcrf rs fxm) 20 1 = 0#1 := by
  unfold encMtcrf
  rw [slice_append_left _ _ _ _ (by omega), slice_append_left _ _ _ _ (by omega), slice_append_right _ _ _ _ (by omega) (by omega)]
  all_goals exact slice_all _

theorem encMtcrf_slice_21_10 (rs : BitVec 5) (fxm : BitVec 8) :
    slice (encMtcrf rs fxm) 21 10 = 144#10 := by
  unfold encMtcrf
  rw [slice_append_left _ _ _ _ (by omega), slice_append_right _ _ _ _ (by omega) (by omega)]
  all_goals exact slice_all _

theorem encMtcrf_slice_22_9 (rs : BitVec 5) (fxm : BitVec 8) :
    slice (encMtcrf rs fxm) 22 9 = (slice 144#10 1 9) := by
  unfold encMtcrf
  rw [slice_append_left _ _ _ _ (by omega), slice_append_right _ _ _ _ (by omega) (by omega)]

theorem encMtcrf_slice_31_1 (rs : BitVec 5) (fxm : BitVec 8) :
    slice (encMtcrf rs fxm) 31 1 = 0#1 := by
  unfold encMtcrf
  rw [slice_append_right _ _ _ _ (by omega) (by omega)]
  all_goals exact slice_all _

theorem encXFL_slice_0_6 (flm : BitVec 8) (frb : BitVec 5) (rc : Bool) :
    slice (encXFL flm frb rc) 0 6 = 63#6 := by
  unfold encXFL
  rw [slice_append_left _ _ _ _ (by omega), slice_append_left _ _ _ _ (by omega), slice_append_left _ _ _ _ (by omega), slice_append_left _ _ _ _ (by omega), slice_append_left _ _ _ _ (by omega), slice_append_left _ _ _ _ (by omega)]
  all_goals exact slice_all _

theorem encXFL_slice_6_1 (flm : BitVec 8) (frb : BitVec 5) (rc : Bool) :
    slice (encXFL flm frb rc) 6 1 = 0#1 := by
  unfold encXFL
  rw [slice_append_left _ _ _ _ (by omega), slice_append_left _ _ _ _ (by omega), slice_append_left _ _ _ _ (by omega), slice_append_left _ _ _ _ (by omega), slice_append_left _ _ _ _ (by omega), slice_append_right _ _ _ _ (by omega) (by omega)]
  all_goals exact slice_all _

theorem encXFL_slice_7_8 (flm : BitVec 8) (frb : BitVec 5) (rc : Bool) :
    slice (encXFL flm frb rc) 7 8 = flm := by
  unfold encXFL
  rw [slice_append_left _ _ _ _ (by omega), slice_append_left _ _ _ _ (by omega), slice_append_left _ _ _ _ (by omega), slice_append_left _ _ _ _ (by omega), slice_append_right _ _ _ _ (by omega) (by omega)]
  all_goals exact slice_all _

theorem encXFL_slice_15_1 (flm : BitVec 8) (frb : BitVec 5) (rc : Bool) :
    slice (encXFL flm frb rc) 15 1 = 0#1 := by
  unfold encXFL
  rw [slice_append_left _ _ _ _ (by omega), slice_append_left _ _ _ _ (by omega), slice_append_left _ _ _ _ (by omega), slice_append_right _ _ _ _ (by omega) (by omega)]
  all_goals exact slice_all _

theorem encXFL_slice_16_5 (flm : BitVec 8) (frb : BitVec 5) (rc : Bool) :
    slice (encXFL flm frb rc) 16 5 = frb := by
  unfold encXFL
  rw [slice_append_left _ _ _ _ (by omega), slice_append_left _ _ _ _ (by omega), slice_append_right _ _ _ _ (by omega) (by omega)]
  all_goals exact slice_all _

theorem encXFL_slice_21_10 (flm : BitVec 8) (frb : BitVec 5) (rc : Bool) :
    slice (encXFL flm frb rc) 21 10 = 711#10 := by
  unfold encXFL
  rw [slice_append_left _ _ _ _ (by omega), slice_append_right _ _ _ _ (by omega) (by omega)]
  all_goals exact slice_all _

theorem encXFL_slice_26_5 (flm : BitVec 8) (frb : BitVec 5) (rc : Bool) :
    slice (encXFL flm frb rc) 26 5 = (slice 711#10 5 5) := by
  unfold encXFL
  rw [slice_append_left _ _ _ _ (by omega), slice_append_right _ _ _ _ (by omega) (by omega)]

theorem encXFL_bit_31 (flm : BitVec 8) (frb : BitVec 5) (rc : Bool) :
    bit (encXFL flm frb rc) 31 = rc := by
  unfold encXFL
  rw [bit_append_right _ _ _ (by omega) (by omega)]
  all_goals exact bit_b1 _

theorem encXS_slice_0_6 (rs ra : BitVec 5) (sh : BitVec 6) (rc : Bool) :
    slice (encXS rs ra sh rc) 0 6 = 31#6 := by
  unfold encXS
  rw [slice_append_left _ _ _ _ (by omega), slice_append_left _ _ _ _ (by omega), slice_append_left _ _ _ _ (by omega), slice_append_left _ _ _ _ (by omega), slice_append_left _ _ _ _ (by omega), slice_append_left _ _ _ _ (by omega)]
  all_goals exact slice_all _

theorem encXS_slice_6_5 (rs ra : BitVec 5) (sh : BitVec 6) (rc : Bool) :
    slice (encXS rs ra sh rc) 6 5 = rs := by
  unfold encXS
  rw [slice_append_left _ _ _ _ (by omega), slice_append_left _ _ _ _ (by omega), slice_append_left _ _ _ _ (by omega), slice_append_left _ _ _ _ (by omega), slice_append_left _ _ _ _ (by omega), slice_append_right _ _ _ _ (by omega) (by omega)]
  all_goals exact slice_all _

theorem encXS_slice_11_5 (rs ra : BitVec 5) (sh : BitVec 6) (rc : Bool) :
    slice (encXS rs ra sh rc) 11 5 = ra := by
  unfold encXS
  rw [slice_append_left _ _ _ _ (by omega), slice_append_left _ _ _ _ (by omega), slice_append_left _ _ _ _ (by omega), slice_append_left _ _ _ _ (by omega), slice_append_right _ _ _ _ (by omega) (by omega)]
  all_goals exact slice_all _

theorem encXS_slice_16_5 (rs ra : BitVec 5) (sh : BitVec 6) (rc : Bool) :
    slice (encXS rs ra sh rc) 16 5 = (slice sh 1 5) := by
  unfold encXS
  rw [slice_append_left _ _ _ _ (by omega), slice_append_left _ _ _ _ (by omega), slice_append_left _ _ _ _ (by omega), slice_append_right _ _ _ _ (by omega) (by omega)]
  all_goals exact slice_all _

theorem encXS_slice_21_10 (rs ra : BitVec 5) (sh : BitVec 6) (rc : Bool) :
    slice (encXS rs ra sh rc) 21 10 = 413#9 ++ (slice sh 0 1) := by
  unfold encXS
  rw [slice_split _ 21 9 1 (by omega)]
  rw [slice_append_left _ _ _ _ (by omega), slice_append_left _ _ _ _ (by omega), slice_append_right _ _ _ _ (by omega) (by omega)]
  rw [slice_append_left _ _ _ _ (by omega), slice_append_right _ _ _ _ (by omega) (by omega)]
  exact congrArg₂ _ (slice_all _) (slice_all _)

theorem encXS_slice_22_9 (rs ra : BitVec 5) (sh : BitVec 6) (rc : Bool) :
    slice (encXS rs ra sh rc) 22 9 = (slice 413#9 1 8) ++ (slice sh 0 1) := by
  unfold encXS
  rw [slice_split _ 22 8 1 (by omega)]
  rw [slice_append_left _ _ _ _ (by omega), slice_append_left _ _ _ _ (by omega), slice_append_right _ _ _ _ (by omega) (by omega)]
  rw [slice_append_left _ _ _ _ (by omega), slice_append_right _ _ _ _ (by omega) (by omega)]
  exact congrArg₂ _ rfl (slice_all _)

theorem encXS_slice_30_1 (rs ra : BitVec 5) (sh : BitVec 6) (rc : Bool) :
    slice (encXS rs ra sh rc) 30 1 = (slice sh 0 1) := by
  unfold encXS
  rw [slice_append_left _ _ _ _ (by omega), slice_append_right _ _ _ _ (by omega) (by omega)]
  all_goals exact slice_all _

theorem encXS_bit_31 (rs ra : BitVec 5) (sh : BitVec 6) (rc : Bool) :
    bit (encXS rs ra sh rc) 31 = rc := by
  unfold encXS
  rw [bit_append_right _ _ _ (by omega) (by omega)]
  all_goals exact bit_b1 _

theorem encXO_slice_0_6 (rt ra rb : BitVec 5) (oe : Bool) (xo : BitVec 9) (rc : Bool) :
    slice (encXO rt ra rb oe xo rc) 0 6 = 31#6 := by
  unfold encXO
  rw [slice_append_left _ _ _ _ (by omega), slice_append_left _ _ _ _ (by omega), slice_append_left _ _ _ _ (by omega), slice_append_left _ _ _ _ (by omega), slice_append_left _ _ _ _ (by omega), slice_append_left _ _ _ _ (by omega)]
  all_goals exact slice_all _

theorem encXO_slice_6_5 (rt ra rb : BitVec 5) (oe : Bool) (xo : BitVec 9) (rc : Bool) :
    slice (encXO rt ra rb oe xo rc) 6 5 = rt := by
  unfold encXO
  rw [slice_append_left _ _ _ _ (by omega), slice_append_left _ _ _ _ (by omega), slice_append_left _ _ _ _ (by omega), slice_append_left _ _ _ _ (by omega), slice_append_left _ _ _ _ (by omega), slice_append_right _ _ _ _ (by omega) (by omega)]
  all_goals exact slice_all _

theorem encXO_slice_11_5 (rt ra rb : BitVec 5) (oe : Bool) (xo : BitVec 9) (rc : Bool) :
    slice (encXO rt ra rb oe xo rc) 11 5 = ra := by
  unfold encXO
  rw [slice_append_left _ _ _ _ (by omega), slice_append_left _ _ _ _ (by omega), slice_append_left _ _ _ _ (by omega), slice_append_left _ _ _ _ (by omega), slice_append_right _ _ _ _ (by omega) (by omega)]
  all_goals exact slice_all _

theorem encXO_slice_16_5 (rt ra rb : BitVec 5) (oe : Bool) (xo : BitVec 9) (rc : Bool) :
    slice (encXO rt ra rb oe xo rc) 16 5 = rb := by
  unfold encXO
  rw [slice_append_left _ _ _ _ (by omega), slice_append_left _ _ _ _ (by omega), slice_append_left _ _ _ _ (by omega), slice_append_right _ _ _ _ (by omega) (by omega)]
  all_goals exact slice_all _

theorem encXO_slice_21_1 (rt ra rb : BitVec 5) (oe : Bool) (xo : BitVec 9) (rc : Bool) :
    slice (encXO rt ra rb oe xo rc) 21 1 = (b1 oe) := by
  unfold encXO
  rw [slice_append_left _ _ _ _ (by omega), slice_append_left _ _ _ _ (by omega), slice_append_right _ _ _ _ (by omega) (by omega)]
  all_goals exact slice_all _

theorem encXO_slice_21_10 (rt ra rb : BitVec 5) (oe : Bool) (xo : BitVec 9) (rc : Bool) :
    slice (encXO rt ra rb oe xo rc) 21 10 = (b1 oe) ++ xo := by
  unfold encXO
  rw [slice_split _ 21 1 9 (by omega)]
  rw [slice_append_left _ _ _ _ (by omega), slice_append_left _ _ _ _ (by omega), slice_append_right _ _ _ _ (by omega) (by omega)]
  rw [slice_append_left _ _ _ _ (by omega), slice_append_right _ _ _ _ (by omega) (by omega)]
  exact congrArg₂ _ (slice_all _) (slice_all _)

theorem encXO_slice_22_9 (rt ra rb : BitVec 5) (oe : Bool) (xo : BitVec 9) (rc : Bool) :
    slice (encXO rt ra rb oe xo rc) 22 9 = xo := by
  unfold encXO
  rw [slice_append_left _ _ _ _ (by omega), slice_append_right _ _ _ _ (by omega) (by omega)]
  all_goals exact slice_all _

theorem encXO_bit_21 (rt ra rb : BitVec 5) (oe : Bool) (xo : BitVec 9) (rc : Bool) :
    bit (encXO rt ra rb oe xo rc) 21 = oe := by
  unfold encXO
  rw [bit_append_left _ _ _ (by omega), bit_append_left _ _ _ (by omega), bit_append_right _ _ _ (by omega) (by omega)]
  all_goals exact bit_b1 _

theorem encXO_bit_31 (rt ra rb : BitVec 5) (oe : Bool) (xo : BitVec 9) (rc : Bool) :
    bit (encXO rt ra rb oe xo rc) 31 = rc := by
  unfold encXO
  rw [bit_append_right _ _ _ (by omega) (by omega)]
  all_goals exact bit_b1 _

theorem encA_slice_0_6 (op : BitVec 6) (frt fra frb frc xo : BitVec 5) (rc : Bool) :
    slice (encA op frt fra frb frc xo rc) 0 6 = op := by
  unfold encA
  rw [slice_append_left _ _ _ _ (by omega), slice_append_left _ _ _ _ (by omega), slice_append_left _ _ _ _ (by omega), slice_append_left _ _ _ _ (by omega), slice_append_left _ _ _ _ (by omega), slice_append_left _ _ _ _ (by omega)]
  all_goals exact slice_all _

theorem encA_slice_6_5 (op : BitVec 6) (frt fra frb frc xo : BitVec 5) (rc : Bool) :
    slice (encA op frt fra frb frc xo rc) 6 5 = frt := by
  unfold encA
  rw [slice_append_left _ _ _ _ (by omega), slice_append_left _ _ _ _ (by omega), slice_append_left _ _ _ _ (by omega), slice_append_left _ _ _ _ (by omega), slice_append_left _ _ _ _ (by omega), slice_append_right _ _ _ _ (by omega) (by omega)]
  all_goals exact slice_all _

theorem encA_slice_11_5 (op : BitVec 6) (frt fra frb frc xo : BitVec 5) (rc : Bool) :
    slice (encA op frt fra frb frc xo rc) 11 5 = fra := by
  unfold encA
  rw [slice_append_left _ _ _ _ (by omega), slice_append_left _ _ _ _ (by omega), slice_append_left _ _ _ _ (by omega), slice_append_left _ _ _ _ (by omega), slice_append_right _ _ _ _ (by omega) (by omega)]
  all_goals exact slice_all _

theorem encA_slice_16_5 (op : BitVec 6) (frt fra frb frc xo : BitVec 5) (rc : Bool) :
    slice (encA op frt fra frb frc xo rc) 16 5 = frb := by
  unfold encA
  rw [slice_append_left _ _ _ _ (by omega), slice_append_left _ _ _ _ (by omega), slice_append_left _ _ _ _ (by omega), slice_append_right _ _ _ _ (by omega) (by omega)]
  all_goals exact slice_all _

theorem encA_slice_21_5 (op : BitVec 6) (frt fra frb frc xo : BitVec 5) (rc : Bool) :
    slice (encA op frt fra frb frc xo rc) 21 5 = frc := by
  unfold encA
  rw [slice_append_left _ _ _ _ (by omega), slice_append_left _ _ _ _ (by omega), slice_append_right _ _ _ _ (by omega) (by omega)]
  all_goals exact slice_all _

theorem encA_slice_21_10 (op : BitVec 6) (frt fra frb frc xo : BitVec 5) (rc : Bool) :
    slice (encA op frt fra frb frc xo rc) 21 10 = frc ++ xo := by
  unfold encA
  rw [slice_split _ 21 5 5 (by omega)]
  rw [slice_append_left _ _ _ _ (by omega), slice_append_left _ _ _ _ (by omega), slice_append_right _ _ _ _ (by omega) (by omega)]
  rw [slice_append_left _ _ _ _ (by omega), slice_append_right _ _ _ _ (by omega) (by omega)]
  exact congrArg₂ _ (slice_all _) (slice_all _)

theorem encA_slice_26_5 (op : BitVec 6) (frt fra frb frc xo : BitVec 5) (rc : Bool) :
    slice (encA op frt fra frb frc xo rc) 26 5 = xo := by
  unfold encA
  rw [slice_append_left _ _ _ _ (by omega), slice_append_right _ _ _ _ (by omega) (by omega)]
  all_goals exact slice_all _

theorem encA_bit_31 (op : BitVec 6) (frt fra frb frc xo : BitVec 5) (rc : Bool) :
    bit (encA op frt fra frb frc xo rc) 31 = rc := by
  unfold encA
  rw [bit_append_right _ _ _ (by omega) (by omega)]
  all_goals exact bit_b1 _

theorem encM_slice_0_6 (op : BitVec 6) (rs ra f3 mb me : BitVec 5) (rc : Bool) :
    slice (encM op rs ra f3 mb me rc) 0 6 = op := by
  unfold encM
  rw [slice_append_left _ _ _ _ (by omega), slice_append_left _ _ _ _ (by omega), slice_append_left _ _ _ _ (by omega), slice_append_left _ _ _ _ (by omega), slice_append_left _ _ _ _ (by omega), slice_append_left _ _ _ _ (by omega)]
  all_goals exact slice_all _

theorem encM_slice_6_5 (op : BitVec 6) (rs ra f3 mb me : BitVec 5) (rc : Bool) :
    slice (encM op rs ra f3 mb me rc) 6 5 = rs := by
  unfold encM
  rw [slice_append_left _ _ _ _ (by omega), slice_append_left _ _ _ _ (by omega), slice_append_left _ _ _ _ (by omega), slice_append_left _ _ _ _ (by omega), slice_append_left _ _ _ _ (by omega), slice_append_right _ _ _ _ (by omega) (by omega)]
  all_goals exact slice_all _

theorem encM_slice_11_5 (op : BitVec 6) (rs ra f3 mb me : BitVec 5) (rc : Bool) :
    slice (encM op rs ra f3 mb me rc) 11 5 = ra := by
  unfold encM
  rw [slice_append_left _ _ _ _ (by omega), slice_append_left _ _ _ _ (by omega), slice_append_left _ _ _ _ (by omega), slice_append_left _ _ _ _ (by omega), slice_append_right _ _ _ _ (by omega) (by omega)]
  all_goals exact slice_all _

theorem encM_slice_16_5 (op : BitVec 6) (rs ra f3 mb me : BitVec 5) (rc : Bool) :
    slice (encM op rs ra f3 mb me rc) 16 5 = f3 := by
  unfold encM
  rw [slice_append_left _ _ _ _ (by omega), slice_append_left _ _ _ _ (by omega), slice_append_left _ _ _ _ (by omega), slice_append_right _ _ _ _ (by omega) (by omega)]
  all_goals exact slice_all _

theorem encM_slice_21_5 (op : BitVec 6) (rs ra f3 mb me : BitVec 5) (rc : Bool) :
    slice (encM op rs ra f3 mb me rc) 21 5 = mb := by
  unfold encM
  rw [slice_append_left _ _ _ _ (by omega), slice_append_left _ _ _ _ (by omega), slice_append_right _ _ _ _ (by omega) (by omega)]
  all_goals exact slice_all _

theorem encM_slice_26_5 (op : BitVec 6) (rs ra f3 mb me : BitVec 5) (rc : Bool) :
    slice (encM op rs ra f3 mb me rc) 26 5 = me := by
  unfold encM
  rw [slice_append_left _ _ _ _ (by omega), slice_append_right _ _ _ _ (by omega) (by omega)]
  all_goals exact slice_all _

theorem encM_bit_31 (op : BitVec 6) (rs ra f3 mb me : BitVec 5) (rc : Bool) :
    bit (encM op rs ra f3 mb me rc) 31 = rc := by
  unfold encM
  rw [bit_append_right _ _ _ (by omega) (by omega)]
  all_goals exact bit_b1 _

theorem encMD_slice_0_6 (rs ra : BitVec 5) (sh m : BitVec 6) (xo : BitVec 3) (rc : Bool) :
    slice (encMD rs ra sh m xo rc) 0 6 = 30#6 := by
  unfold encMD
  rw [slice_append_left _ _ _ _ (by omega), slice_append_left _ _ _ _ (by omega), slice_append_left _ _ _ _ (by omega), slice_append_left _ _ _ _ (by omega), slice_append_left _ _ _ _ (by omega), slice_append_left _ _ _ _ (by omega), slice_append_left _ _ _ _ (by omega), slice_append_left _ _ _ _ (by omega)]
  all_goals exact slice_all _

theorem encMD_slice_6_5 (rs ra : BitVec 5) (sh m : BitVec 6) (xo : BitVec 3) (rc : Bool) :
    slice (encMD rs ra sh m xo rc) 6 5 = rs := by
  unfold encMD
  rw [slice_append_left _ _ _ _ (by omega), slice_append_left _ _ _ _ (by omega), slice_append_left _ _ _ _ (by omega), slice_append_left _ _ _ _ (by omega), slice_append_left _ _ _ _ (by omega), slice_append_left _ _ _ _ (by omega), slice_append_left _ _ _ _ (by omega), slice_append_right _ _ _ _ (by omega) (by omega)]
  all_goals exact slice_all _

theorem encMD_slice_11_5 (rs ra : BitVec 5) (sh m : BitVec 6) (xo : BitVec 3) (rc : Bool) :
    slice (encMD rs ra sh m xo rc) 11 5 = ra := by
  unfold encMD
  rw [slice_append_left _ _ _ _ (by omega), slice_append_left _ _ _ _ (by omega), slice_append_left _ _ _ _ (by omega), slice_append_left _ _ _ _ (by omega), slice_append_left _ _ _ _ (by omega), slice_append_left _ _ _ _ (by omega), slice_append_right _ _ _ _ (by omega) (by omega)]
  all_goals exact slice_all _

theorem encMD_slice_16_5 (rs ra : BitVec 5) (sh m : BitVec 6) (xo : BitVec 3) (rc : Bool) :
    slice (encMD rs ra sh m xo rc) 16 5 = (slice sh 1 5) := by
  unfold encMD
  rw [slice_append_left _ _ _ _ (by omega), slice_append_left _ _ _ _ (by omega), slice_append_left _ _ _ _ (by omega), slice_append_left _ _ _ _ (by omega), slice_append_left _ _ _ _ (by omega), slice_append_right _ _ _ _ (by omega) (by omega)]
  all_goals exact slice_all _

theorem encMD_slice_21_5 (rs ra : BitVec 5) (sh m : BitVec 6) (xo : BitVec 3) (rc : Bool) :
    slice (encMD rs ra sh m xo rc) 21 5 = (slice m 1 5) := by
  unfold encMD
  rw [slice_append_left _ _ _ _ (by omega), slice_append_left _ _ _ _ (by omega), slice_append_left _ _ _ _ (by omega), slice_append_left _ _ _ _ (by omega), slice_append_right _ _ _ _ (by omega) (by omega)]
  all_goals exact slice_all _

theorem encMD_slice_26_1 (rs ra : BitVec 5) (sh m : BitVec 6) (xo : BitVec 3) (rc : Bool) :
    slice (encMD rs ra sh m xo rc) 26 1 = (slice m 0 1) := by
  unfold encMD
  rw [slice_append_left _ _ _ _ (by omega), slice_append_left _ _ _ _ (by omega), slice_append_left _ _ _ _ (by omega), slice_append_right _ _ _ _ (by omega) (by omega)]
  all_goals exact slice_all _

theorem encMD_slice_27_3 (rs ra : BitVec 5) (sh m : BitVec 6) (xo : BitVec 3) (rc : Bool) :
    slice (encMD rs ra sh m xo rc) 27 3 = xo := by
  unfold encMD
  rw [slice_append_left _ _ _ _ (by omega), slice_append_left _ _ _ _ (by omega), slice_append_right _ _ _ _ (by omega) (by omega)]
  all_goals exact slice_all _

theorem encMD_slice_27_4 (rs ra : BitVec 5) (sh m : BitVec 6) (xo : BitVec 3) (rc : Bool) :
    slice (encMD rs ra sh m xo rc) 27 4 = xo ++ (slice sh 0 1) := by
  unfold encMD
  rw [slice_split _ 27 3 1 (by omega)]
  rw [slice_append_left _ _ _ _ (by omega), slice_append_left _ _ _ _ (by omega), slice_append_right _ _ _ _ (by omega) (by omega)]
  rw [slice_append_left _ _ _ _ (by omega), slice_append_right _ _ _ _ (by omega) (by omega)]
  exact congrArg₂ _ (slice_all _) (slice_all _)

theorem encMD_slice_30_1 (rs ra : BitVec 5) (sh m : BitVec 6) (xo : BitVec 3) (rc : Bool) :
    slice (encMD rs ra sh m xo rc) 30 1 = (slice sh 0 1) := by
  unfold encMD
  rw [slice_append_left _ _ _ _ (by omega), slice_append_right _ _ _ _ (by omega) (by omega)]
  all_goals exact slice_all _

theorem encMD_bit_31 (rs ra : BitVec 5) (sh m : BitVec 6) (xo : BitVec 3) (rc : Bool) :
    bit (encMD rs ra sh m xo rc) 31 = rc := by
  unfold encMD
  rw [bit_append_right _ _ _ (by omega) (by omega)]
  all_goals exact bit_b1 _

theorem encMDS_slice_0_6 (rs ra rb : BitVec 5) (m : BitVec 6) (xo : BitVec 4) (rc : Bool) :
    slice (encMDS rs ra rb m xo rc) 0 6 = 30#6 := by
  unfold encMDS
  rw [slice_append_left _ _ _ _ (by omega), slice_append_left _ _ _ _ (by omega), slice_append_left _ _ _ _ (by omega), slice_append_left _ _ _ _ (by omega), slice_append_left _ _ _ _ (by omega), slice_append_left _ _ _ _ (by omega), slice_append_left _ _ _ _ (by omega)]
  all_goals exact slice_all _

theorem encMDS_slice_6_5 (rs ra rb : BitVec 5) (m : BitVec 6) (xo : BitVec 4) (rc : Bool) :
    slice (encMDS rs ra rb m xo rc) 6 5 = rs := by
  unfold encMDS
  rw [slice_append_left _ _ _ _ (by omega), slice_append_left _ _ _ _ (by omega), slice_append_left _ _ _ _ (by omega), slice_append_left _ _ _ _ (by omega), slice_append_left _ _ _ _ (by omega), slice_append_left _ _ _ _ (by omega), slice_append_right _ _ _ _ (by omega) (by omega)]
  all_goals exact slice_all _

theorem encMDS_slice_11_5 (rs ra rb : BitVec 5) (m : BitVec 6) (xo : BitVec 4) (rc : Bool) :
    slice (encMDS rs ra rb m xo rc) 11 5 = ra := by
  unfold encMDS
  rw [slice_append_left _ _ _ _ (by omega), slice_append_left _ _ _ _ (by omega), slice_append_left _ _ _ _ (by omega), slice_append_left _ _ _ _ (by omega), slice_append_left _ _ _ _ (by omega), slice_append_right _ _ _ _ (by omega) (by omega)]
  all_goals exact slice_all _

theorem encMDS_slice_16_5 (rs ra rb : BitVec 5) (m : BitVec 6) (xo : BitVec 4) (rc : Bool) :
    slice (encMDS rs ra rb m xo rc) 16 5 = rb := by
  unfold encMDS
  rw [slice_append_left _ _ _ _ (by omega), slice_append_left _ _ _ _ (by omega), slice_append_left _ _ _ _ (by omega), slice_append_left _ _ _ _ (by omega), slice_append_right _ _ _ _ (by omega) (by omega)]
  all_goals exact slice_all _

theorem encMDS_slice_21_5 (rs ra rb : BitVec 5) (m : BitVec 6) (xo : BitVec 4) (rc : Bool) :
    slice (encMDS rs ra rb m xo rc) 21 5 = (slice m 1 5) := by
  unfold encMDS
  rw [slice_append_left _ _ _ _ (by omega), slice_append_left _ _ _ _ (by omega), slice_append_left _ _ _ _ (by omega), slice_append_right _ _ _ _ (by omega) (by omega)]
  all_goals exact slice_all _

theorem encMDS_slice_26_1 (rs ra rb : BitVec 5) (m : BitVec 6) (xo : BitVec 4) (rc : Bool) :
    slice (encMDS rs ra rb m xo rc) 26 1 = (slice m 0 1) := by
  unfold encMDS
  rw [slice_append_left _ _ _ _ (by omega), slice_append_left _ _ _ _ (by omega), slice_append_right _ _ _ _ (by omega) (by omega)]
  all_goals exact slice_all _

theorem encMDS_slice_27_3 (rs ra rb : BitVec 5) (m : BitVec 6) (xo : BitVec 4) (rc : Bool) :
    slice (encMDS rs ra rb m xo rc) 27 3 = (slice xo 0 3) := by
  unfold encMDS
  rw [slice_append_left _ _ _ _ (by omega), slice_append_right _ _ _ _ (by omega) (by omega)]

theorem encMDS_slice_27_4 (rs ra rb : BitVec 5) (m : BitVec 6) (xo : BitVec 4) (rc : Bool) :
    slice (encMDS rs ra rb m xo rc) 27 4 = xo := by
  unfold encMDS
  rw [slice_append_left _ _ _ _ (by omega), slice_append_right _ _ _ _ (by omega) (by omega)]
  all_goals exact slice_all _

theorem encMDS_bit_31 (rs ra rb : BitVec 5) (m : BitVec 6) (xo : BitVec 4) (rc : Bool) :
    bit (encMDS rs ra rb m xo rc) 31 = rc := by
  unfold encMDS
  rw [bit_append_right _ _ _ (by omega) (by omega)]
  all_goals exact bit_b1 _

end Sys2Proof.Laws
end

