-- ==== Sys2Proof/Laws/Memory.lean ====
section
/-! SUPPORT. Storage: reading after writing, and the canonical form that every operation keeps. -/

namespace Sys2Proof.Machine

/-- A list of rising cells above `low` is one above anything smaller. -/
theorem wfCells_weaken {l l' : Nat} {cs : List Host.Cell} (h : wfCells (some l) cs = true) (hl : l' ≤ l) :
    wfCells (some l') cs = true := by
  cases cs with
  | nil => rfl
  | cons c rest =>
    simp only [wfCells, Bool.and_eq_true, decide_eq_true_eq] at h ⊢
    exact ⟨⟨⟨by omega, h.1.1.2⟩, h.1.2⟩, h.2⟩

/-- A list of rising cells above `low` is rising. -/
theorem wfCells_none {l : Nat} {cs : List Host.Cell} (h : wfCells (some l) cs = true) : wfCells none cs = true := by
  cases cs with
  | nil => rfl
  | cons c rest =>
    simp only [wfCells, Bool.and_eq_true, decide_eq_true_eq] at h ⊢
    exact ⟨⟨⟨trivial, h.1.1.2⟩, h.1.2⟩, h.2⟩

/-- An address at or below the bound of a canonical list is not listed. -/
theorem readCells_low {l a : Nat} {cs : List Host.Cell} (h : wfCells (some l) cs = true) (ha : a ≤ l) :
    readCells cs a = unlistedByte := by
  induction cs generalizing l with
  | nil => rfl
  | cons c rest ih =>
    simp only [wfCells, Bool.and_eq_true, decide_eq_true_eq] at h
    rw [readCells, if_neg (by omega)]
    exact ih h.2 (by omega)

/-- A write above `low` keeps a canonical list above `low`. -/
theorem wfCells_write_some {l a : Nat} {v : Byte} {cs : List Host.Cell} (h : wfCells (some l) cs = true) (hl : l < a)
    (ha : a < 2 ^ 64) : wfCells (some l) (writeCells cs a v) = true := by
  induction cs generalizing l with
  | nil =>
    by_cases hv : v = unlistedByte <;> simp [writeCells, wfCells, hv, hl]
    omega
  | cons c rest ih =>
    have h' := h
    simp only [wfCells, Bool.and_eq_true, decide_eq_true_eq] at h'
    unfold writeCells
    split
    · split
      · exact h
      · rename_i hlt hv
        simp only [wfCells, Bool.and_eq_true, decide_eq_true_eq]
        exact ⟨⟨⟨hl, ha⟩, by simpa using hv⟩, ⟨⟨hlt, h'.1.1.2⟩, h'.1.2⟩, h'.2⟩
    · split
      · split
        · exact wfCells_weaken h'.2 (by omega)
        · rename_i heq hv
          simp only [wfCells, Bool.and_eq_true, decide_eq_true_eq]
          exact ⟨⟨⟨hl, ha⟩, by simpa using hv⟩, heq ▸ h'.2⟩
      · rename_i hge hne
        simp only [wfCells, Bool.and_eq_true, decide_eq_true_eq]
        exact ⟨⟨⟨h'.1.1.1, h'.1.1.2⟩, h'.1.2⟩, ih h'.2 (by omega)⟩

/-- A write keeps a canonical list canonical. -/
theorem wfCells_write {a : Nat} {v : Byte} {cs : List Host.Cell} (h : wfCells none cs = true) (ha : a < 2 ^ 64) :
    wfCells none (writeCells cs a v) = true := by
  cases cs with
  | nil =>
    by_cases hv : v = unlistedByte <;> simp [writeCells, wfCells, hv]
    omega
  | cons c rest =>
    have h' := h
    simp only [wfCells, Bool.and_eq_true, decide_eq_true_eq] at h'
    unfold writeCells
    split
    · split
      · exact h
      · rename_i hlt hv
        simp only [wfCells, Bool.and_eq_true, decide_eq_true_eq]
        exact ⟨⟨⟨trivial, ha⟩, by simpa using hv⟩, ⟨⟨hlt, h'.1.1.2⟩, h'.1.2⟩, h'.2⟩
    · split
      · split
        · exact wfCells_none h'.2
        · rename_i heq hv
          simp only [wfCells, Bool.and_eq_true, decide_eq_true_eq]
          exact ⟨⟨⟨trivial, ha⟩, by simpa using hv⟩, heq ▸ h'.2⟩
      · simp only [wfCells, Bool.and_eq_true, decide_eq_true_eq]
        exact ⟨⟨⟨trivial, h'.1.1.2⟩, h'.1.2⟩, wfCells_write_some h'.2 (by omega) ha⟩

/-- Writing one byte keeps the canonical form. -/
theorem Memory.wf_write {m : Memory} (h : m.wf = true) (a : Dword) (v : Byte) : (m.write a v).wf = true :=
  wfCells_write h a.isLt

/-- Writing bytes keeps the canonical form. -/
theorem Memory.wf_writeAll {m : Memory} (h : m.wf = true) (as : List Dword) (vs : List Byte) :
    (m.writeAll as vs).wf = true := by
  induction as generalizing m vs with
  | nil => cases vs <;> exact h
  | cons a as ih =>
    cases vs with
    | nil => exact h
    | cons v vs => exact ih (Memory.wf_write h a v) vs

/-- What a canonical list holds above `low` after a write. -/
theorem readCells_write_some {l a b : Nat} {v : Byte} {cs : List Host.Cell} (h : wfCells (some l) cs = true) :
    readCells (writeCells cs a v) b = if b = a then v else readCells cs b := by
  induction cs generalizing l with
  | nil =>
    by_cases hv : v = unlistedByte <;> by_cases hb : b = a <;> simp [writeCells, readCells, hv, hb]
  | cons c rest ih =>
    simp only [wfCells, Bool.and_eq_true, decide_eq_true_eq] at h
    unfold writeCells
    split
    · rename_i hlt
      split
      · rename_i hv
        by_cases hb : b = a
        · subst hb
          rw [if_pos rfl, readCells, if_neg (by omega), readCells_low h.2 (by omega), hv]
        · rw [if_neg hb]
      · rw [readCells]
    · split
      · rename_i heq
        split
        · rename_i hv
          by_cases hb : b = a
          · subst hb
            rw [if_pos rfl, readCells_low h.2 (by omega), hv]
          · rw [if_neg hb, readCells, if_neg (by omega)]
        · rw [readCells]
          by_cases hb : b = a
          · rw [if_pos hb, if_pos hb]
          · rw [if_neg hb, if_neg hb, readCells, if_neg (by omega)]
      · rename_i hne
        rw [readCells, readCells, ih h.2]
        by_cases hb : b = c.1
        · rw [if_pos hb, if_pos hb, if_neg (by omega)]
        · rw [if_neg hb, if_neg hb]

/-- The byte at `b` after a write at `a`. -/
theorem Memory.read_write {m : Memory} (h : m.wf = true) (a b : Dword) (v : Byte) :
    (m.write a v).read b = if b = a then v else m.read b := by
  have key : readCells (writeCells m.cells a.toNat v) b.toNat
      = if b.toNat = a.toNat then v else readCells m.cells b.toNat := by
    obtain ⟨cells⟩ := m
    cases cells with
    | nil =>
      by_cases hv : v = unlistedByte <;> by_cases hb : b.toNat = a.toNat <;> simp [writeCells, readCells, hv, hb]
    | cons c rest =>
      have h' := h
      simp only [Memory.wf, wfCells, Bool.and_eq_true, decide_eq_true_eq] at h'
      by_cases hlow : c.1 = 0
      · unfold writeCells
        rw [if_neg (by omega)]
        split
        · rename_i heq
          split
          · rename_i hv
            by_cases hb : b.toNat = a.toNat
            · rw [if_pos hb, hb, readCells_low h'.2 (by omega), hv]
            · rw [if_neg hb, readCells, if_neg (by omega)]
          · rw [readCells]
            by_cases hb : b.toNat = a.toNat
            · rw [if_pos hb, if_pos hb]
            · rw [if_neg hb, if_neg hb, readCells, if_neg (by omega)]
        · rename_i hne
          rw [readCells, readCells, readCells_write_some h'.2]
          by_cases hb : b.toNat = c.1
          · rw [if_pos hb, if_pos hb, if_neg (by omega)]
          · rw [if_neg hb, if_neg hb]
      · have : wfCells (some 0) (c :: rest) = true := by
          simp only [wfCells, Bool.and_eq_true, decide_eq_true_eq]
          exact ⟨⟨⟨by omega, h'.1.1.2⟩, h'.1.2⟩, h'.2⟩
        exact readCells_write_some this
  simp only [Memory.read, Memory.write, key, ← BitVec.toNat_inj]

/-- A byte outside the addresses written reads as before. -/
theorem Memory.read_writeAll_other {m : Memory} (h : m.wf = true) {as : List Dword} {vs : List Byte} {b : Dword}
    (hb : b ∉ as) : (m.writeAll as vs).read b = m.read b := by
  induction as generalizing m vs with
  | nil => cases vs <;> rfl
  | cons a as ih =>
    cases vs with
    | nil => rfl
    | cons v vs =>
      rw [Memory.writeAll, ih (Memory.wf_write h a v) (by simp_all), Memory.read_write h, if_neg (by simp_all)]

/-- Bytes written at distinct addresses are read back. -/
theorem Memory.readAll_writeAll {m : Memory} (h : m.wf = true) {as : List Dword} {vs : List Byte} (hd : as.Nodup)
    (hl : as.length = vs.length) : (m.writeAll as vs).readAll as = vs := by
  induction as generalizing m vs with
  | nil => cases vs <;> simp_all [Memory.readAll]
  | cons a as ih =>
    cases vs with
    | nil => simp at hl
    | cons v vs =>
      rw [List.nodup_cons] at hd
      have hw := Memory.wf_write h a v
      have tail := ih hw hd.2 (by simpa using hl)
      simp only [Memory.writeAll, Memory.readAll, List.map_cons] at tail ⊢
      rw [Memory.read_writeAll_other hw hd.1, Memory.read_write h, if_pos rfl, tail]

end Sys2Proof.Machine
end

