-- ==== Sys2Proof/Laws/State.lean ====
section
/-! SUPPORT. One lemma for each field and each update of the state, true by unfolding the update once; and for the updates
that branch, one lemma that names the only field they can change. -/

namespace Sys2Proof.Machine

variable (s : State)

/-! `State.setX` -/

@[simp] theorem State.setX_gpr (r : Gpr) (v : Dword) : (s.setX r v).gpr = s.gpr.set r.toNat (s.narrow v) (by have := r.isLt; omega) := rfl
@[simp] theorem State.setX_fpr (r : Gpr) (v : Dword) : (s.setX r v).fpr = s.fpr := rfl
@[simp] theorem State.setX_fprSingle (r : Gpr) (v : Dword) : (s.setX r v).fprSingle = s.fprSingle := rfl
@[simp] theorem State.setX_cr (r : Gpr) (v : Dword) : (s.setX r v).cr = s.cr := rfl
@[simp] theorem State.setX_lr (r : Gpr) (v : Dword) : (s.setX r v).lr = s.lr := rfl
@[simp] theorem State.setX_ctr (r : Gpr) (v : Dword) : (s.setX r v).ctr = s.ctr := rfl
@[simp] theorem State.setX_pc (r : Gpr) (v : Dword) : (s.setX r v).pc = s.pc := rfl
@[simp] theorem State.setX_xer (r : Gpr) (v : Dword) : (s.setX r v).xer = s.xer := rfl
@[simp] theorem State.setX_fpscr (r : Gpr) (v : Dword) : (s.setX r v).fpscr = s.fpscr := rfl
@[simp] theorem State.setX_msr (r : Gpr) (v : Dword) : (s.setX r v).msr = s.msr := rfl
@[simp] theorem State.setX_srr0 (r : Gpr) (v : Dword) : (s.setX r v).srr0 = s.srr0 := rfl
@[simp] theorem State.setX_srr1 (r : Gpr) (v : Dword) : (s.setX r v).srr1 = s.srr1 := rfl
@[simp] theorem State.setX_dar (r : Gpr) (v : Dword) : (s.setX r v).dar = s.dar := rfl
@[simp] theorem State.setX_dsisr (r : Gpr) (v : Dword) : (s.setX r v).dsisr = s.dsisr := rfl
@[simp] theorem State.setX_sprg (r : Gpr) (v : Dword) : (s.setX r v).sprg = s.sprg := rfl
@[simp] theorem State.setX_dec (r : Gpr) (v : Dword) : (s.setX r v).dec = s.dec := rfl
@[simp] theorem State.setX_tb (r : Gpr) (v : Dword) : (s.setX r v).tb = s.tb := rfl
@[simp] theorem State.setX_sdr1 (r : Gpr) (v : Dword) : (s.setX r v).sdr1 = s.sdr1 := rfl
@[simp] theorem State.setX_asr (r : Gpr) (v : Dword) : (s.setX r v).asr = s.asr := rfl
@[simp] theorem State.setX_ear (r : Gpr) (v : Dword) : (s.setX r v).ear = s.ear := rfl
@[simp] theorem State.setX_ibat (r : Gpr) (v : Dword) : (s.setX r v).ibat = s.ibat := rfl
@[simp] theorem State.setX_dbat (r : Gpr) (v : Dword) : (s.setX r v).dbat = s.dbat := rfl
@[simp] theorem State.setX_sr (r : Gpr) (v : Dword) : (s.setX r v).sr = s.sr := rfl
@[simp] theorem State.setX_pir (r : Gpr) (v : Dword) : (s.setX r v).pir = s.pir := rfl
@[simp] theorem State.setX_fpecr (r : Gpr) (v : Dword) : (s.setX r v).fpecr = s.fpecr := rfl
@[simp] theorem State.setX_reserve (r : Gpr) (v : Dword) : (s.setX r v).reserve = s.reserve := rfl
@[simp] theorem State.setX_decPending (r : Gpr) (v : Dword) : (s.setX r v).decPending = s.decPending := rfl
@[simp] theorem State.setX_extPending (r : Gpr) (v : Dword) : (s.setX r v).extPending = s.extPending := rfl
@[simp] theorem State.setX_sresetReq (r : Gpr) (v : Dword) : (s.setX r v).sresetReq = s.sresetReq := rfl
@[simp] theorem State.setX_mcheckReq (r : Gpr) (v : Dword) : (s.setX r v).mcheckReq = s.mcheckReq := rfl
@[simp] theorem State.setX_checkstop (r : Gpr) (v : Dword) : (s.setX r v).checkstop = s.checkstop := rfl
@[simp] theorem State.setX_mem (r : Gpr) (v : Dword) : (s.setX r v).mem = s.mem := rfl
@[simp] theorem State.setX_cfg (r : Gpr) (v : Dword) : (s.setX r v).cfg = s.cfg := rfl
@[simp] theorem State.setX_draws (r : Gpr) (v : Dword) : (s.setX r v).draws = s.draws := rfl
@[simp] theorem State.setX_lastInterrupt (r : Gpr) (v : Dword) : (s.setX r v).lastInterrupt = s.lastInterrupt := rfl
@[simp] theorem State.setX_flagged (r : Gpr) (v : Dword) : (s.setX r v).flagged = s.flagged := rfl
@[simp] theorem State.setX_ibatAltered (r : Gpr) (v : Dword) : (s.setX r v).ibatAltered = s.ibatAltered := rfl
@[simp] theorem State.setX_env (r : Gpr) (v : Dword) : (s.setX r v).env = s.env := rfl
@[simp] theorem State.setX_extIn (r : Gpr) (v : Dword) : (s.setX r v).extIn = s.extIn := rfl
@[simp] theorem State.setX_extOut (r : Gpr) (v : Dword) : (s.setX r v).extOut = s.extOut := rfl

/-! `State.setF` -/

@[simp] theorem State.setF_gpr (r : Fpr) (v : Dword) (single : Bool) : (s.setF r v single).gpr = s.gpr := rfl
@[simp] theorem State.setF_fpr (r : Fpr) (v : Dword) (single : Bool) : (s.setF r v single).fpr = s.fpr.set r.toNat v (by have := r.isLt; omega) := rfl
@[simp] theorem State.setF_fprSingle (r : Fpr) (v : Dword) (single : Bool) : (s.setF r v single).fprSingle = withBit s.fprSingle (31 - r.toNat) single := rfl
@[simp] theorem State.setF_cr (r : Fpr) (v : Dword) (single : Bool) : (s.setF r v single).cr = s.cr := rfl
@[simp] theorem State.setF_lr (r : Fpr) (v : Dword) (single : Bool) : (s.setF r v single).lr = s.lr := rfl
@[simp] theorem State.setF_ctr (r : Fpr) (v : Dword) (single : Bool) : (s.setF r v single).ctr = s.ctr := rfl
@[simp] theorem State.setF_pc (r : Fpr) (v : Dword) (single : Bool) : (s.setF r v single).pc = s.pc := rfl
@[simp] theorem State.setF_xer (r : Fpr) (v : Dword) (single : Bool) : (s.setF r v single).xer = s.xer := rfl
@[simp] theorem State.setF_fpscr (r : Fpr) (v : Dword) (single : Bool) : (s.setF r v single).fpscr = s.fpscr := rfl
@[simp] theorem State.setF_msr (r : Fpr) (v : Dword) (single : Bool) : (s.setF r v single).msr = s.msr := rfl
@[simp] theorem State.setF_srr0 (r : Fpr) (v : Dword) (single : Bool) : (s.setF r v single).srr0 = s.srr0 := rfl
@[simp] theorem State.setF_srr1 (r : Fpr) (v : Dword) (single : Bool) : (s.setF r v single).srr1 = s.srr1 := rfl
@[simp] theorem State.setF_dar (r : Fpr) (v : Dword) (single : Bool) : (s.setF r v single).dar = s.dar := rfl
@[simp] theorem State.setF_dsisr (r : Fpr) (v : Dword) (single : Bool) : (s.setF r v single).dsisr = s.dsisr := rfl
@[simp] theorem State.setF_sprg (r : Fpr) (v : Dword) (single : Bool) : (s.setF r v single).sprg = s.sprg := rfl
@[simp] theorem State.setF_dec (r : Fpr) (v : Dword) (single : Bool) : (s.setF r v single).dec = s.dec := rfl
@[simp] theorem State.setF_tb (r : Fpr) (v : Dword) (single : Bool) : (s.setF r v single).tb = s.tb := rfl
@[simp] theorem State.setF_sdr1 (r : Fpr) (v : Dword) (single : Bool) : (s.setF r v single).sdr1 = s.sdr1 := rfl
@[simp] theorem State.setF_asr (r : Fpr) (v : Dword) (single : Bool) : (s.setF r v single).asr = s.asr := rfl
@[simp] theorem State.setF_ear (r : Fpr) (v : Dword) (single : Bool) : (s.setF r v single).ear = s.ear := rfl
@[simp] theorem State.setF_ibat (r : Fpr) (v : Dword) (single : Bool) : (s.setF r v single).ibat = s.ibat := rfl
@[simp] theorem State.setF_dbat (r : Fpr) (v : Dword) (single : Bool) : (s.setF r v single).dbat = s.dbat := rfl
@[simp] theorem State.setF_sr (r : Fpr) (v : Dword) (single : Bool) : (s.setF r v single).sr = s.sr := rfl
@[simp] theorem State.setF_pir (r : Fpr) (v : Dword) (single : Bool) : (s.setF r v single).pir = s.pir := rfl
@[simp] theorem State.setF_fpecr (r : Fpr) (v : Dword) (single : Bool) : (s.setF r v single).fpecr = s.fpecr := rfl
@[simp] theorem State.setF_reserve (r : Fpr) (v : Dword) (single : Bool) : (s.setF r v single).reserve = s.reserve := rfl
@[simp] theorem State.setF_decPending (r : Fpr) (v : Dword) (single : Bool) : (s.setF r v single).decPending = s.decPending := rfl
@[simp] theorem State.setF_extPending (r : Fpr) (v : Dword) (single : Bool) : (s.setF r v single).extPending = s.extPending := rfl
@[simp] theorem State.setF_sresetReq (r : Fpr) (v : Dword) (single : Bool) : (s.setF r v single).sresetReq = s.sresetReq := rfl
@[simp] theorem State.setF_mcheckReq (r : Fpr) (v : Dword) (single : Bool) : (s.setF r v single).mcheckReq = s.mcheckReq := rfl
@[simp] theorem State.setF_checkstop (r : Fpr) (v : Dword) (single : Bool) : (s.setF r v single).checkstop = s.checkstop := rfl
@[simp] theorem State.setF_mem (r : Fpr) (v : Dword) (single : Bool) : (s.setF r v single).mem = s.mem := rfl
@[simp] theorem State.setF_cfg (r : Fpr) (v : Dword) (single : Bool) : (s.setF r v single).cfg = s.cfg := rfl
@[simp] theorem State.setF_draws (r : Fpr) (v : Dword) (single : Bool) : (s.setF r v single).draws = s.draws := rfl
@[simp] theorem State.setF_lastInterrupt (r : Fpr) (v : Dword) (single : Bool) : (s.setF r v single).lastInterrupt = s.lastInterrupt := rfl
@[simp] theorem State.setF_flagged (r : Fpr) (v : Dword) (single : Bool) : (s.setF r v single).flagged = s.flagged := rfl
@[simp] theorem State.setF_ibatAltered (r : Fpr) (v : Dword) (single : Bool) : (s.setF r v single).ibatAltered = s.ibatAltered := rfl
@[simp] theorem State.setF_env (r : Fpr) (v : Dword) (single : Bool) : (s.setF r v single).env = s.env := rfl
@[simp] theorem State.setF_extIn (r : Fpr) (v : Dword) (single : Bool) : (s.setF r v single).extIn = s.extIn := rfl
@[simp] theorem State.setF_extOut (r : Fpr) (v : Dword) (single : Bool) : (s.setF r v single).extOut = s.extOut := rfl

/-! `State.setCrField` -/

@[simp] theorem State.setCrField_gpr (n : CrField) (v : BitVec 4) : (s.setCrField n v).gpr = s.gpr := rfl
@[simp] theorem State.setCrField_fpr (n : CrField) (v : BitVec 4) : (s.setCrField n v).fpr = s.fpr := rfl
@[simp] theorem State.setCrField_fprSingle (n : CrField) (v : BitVec 4) : (s.setCrField n v).fprSingle = s.fprSingle := rfl
@[simp] theorem State.setCrField_cr (n : CrField) (v : BitVec 4) : (s.setCrField n v).cr = withSlice s.cr (4 * n.toNat) v := rfl
@[simp] theorem State.setCrField_lr (n : CrField) (v : BitVec 4) : (s.setCrField n v).lr = s.lr := rfl
@[simp] theorem State.setCrField_ctr (n : CrField) (v : BitVec 4) : (s.setCrField n v).ctr = s.ctr := rfl
@[simp] theorem State.setCrField_pc (n : CrField) (v : BitVec 4) : (s.setCrField n v).pc = s.pc := rfl
@[simp] theorem State.setCrField_xer (n : CrField) (v : BitVec 4) : (s.setCrField n v).xer = s.xer := rfl
@[simp] theorem State.setCrField_fpscr (n : CrField) (v : BitVec 4) : (s.setCrField n v).fpscr = s.fpscr := rfl
@[simp] theorem State.setCrField_msr (n : CrField) (v : BitVec 4) : (s.setCrField n v).msr = s.msr := rfl
@[simp] theorem State.setCrField_srr0 (n : CrField) (v : BitVec 4) : (s.setCrField n v).srr0 = s.srr0 := rfl
@[simp] theorem State.setCrField_srr1 (n : CrField) (v : BitVec 4) : (s.setCrField n v).srr1 = s.srr1 := rfl
@[simp] theorem State.setCrField_dar (n : CrField) (v : BitVec 4) : (s.setCrField n v).dar = s.dar := rfl
@[simp] theorem State.setCrField_dsisr (n : CrField) (v : BitVec 4) : (s.setCrField n v).dsisr = s.dsisr := rfl
@[simp] theorem State.setCrField_sprg (n : CrField) (v : BitVec 4) : (s.setCrField n v).sprg = s.sprg := rfl
@[simp] theorem State.setCrField_dec (n : CrField) (v : BitVec 4) : (s.setCrField n v).dec = s.dec := rfl
@[simp] theorem State.setCrField_tb (n : CrField) (v : BitVec 4) : (s.setCrField n v).tb = s.tb := rfl
@[simp] theorem State.setCrField_sdr1 (n : CrField) (v : BitVec 4) : (s.setCrField n v).sdr1 = s.sdr1 := rfl
@[simp] theorem State.setCrField_asr (n : CrField) (v : BitVec 4) : (s.setCrField n v).asr = s.asr := rfl
@[simp] theorem State.setCrField_ear (n : CrField) (v : BitVec 4) : (s.setCrField n v).ear = s.ear := rfl
@[simp] theorem State.setCrField_ibat (n : CrField) (v : BitVec 4) : (s.setCrField n v).ibat = s.ibat := rfl
@[simp] theorem State.setCrField_dbat (n : CrField) (v : BitVec 4) : (s.setCrField n v).dbat = s.dbat := rfl
@[simp] theorem State.setCrField_sr (n : CrField) (v : BitVec 4) : (s.setCrField n v).sr = s.sr := rfl
@[simp] theorem State.setCrField_pir (n : CrField) (v : BitVec 4) : (s.setCrField n v).pir = s.pir := rfl
@[simp] theorem State.setCrField_fpecr (n : CrField) (v : BitVec 4) : (s.setCrField n v).fpecr = s.fpecr := rfl
@[simp] theorem State.setCrField_reserve (n : CrField) (v : BitVec 4) : (s.setCrField n v).reserve = s.reserve := rfl
@[simp] theorem State.setCrField_decPending (n : CrField) (v : BitVec 4) : (s.setCrField n v).decPending = s.decPending := rfl
@[simp] theorem State.setCrField_extPending (n : CrField) (v : BitVec 4) : (s.setCrField n v).extPending = s.extPending := rfl
@[simp] theorem State.setCrField_sresetReq (n : CrField) (v : BitVec 4) : (s.setCrField n v).sresetReq = s.sresetReq := rfl
@[simp] theorem State.setCrField_mcheckReq (n : CrField) (v : BitVec 4) : (s.setCrField n v).mcheckReq = s.mcheckReq := rfl
@[simp] theorem State.setCrField_checkstop (n : CrField) (v : BitVec 4) : (s.setCrField n v).checkstop = s.checkstop := rfl
@[simp] theorem State.setCrField_mem (n : CrField) (v : BitVec 4) : (s.setCrField n v).mem = s.mem := rfl
@[simp] theorem State.setCrField_cfg (n : CrField) (v : BitVec 4) : (s.setCrField n v).cfg = s.cfg := rfl
@[simp] theorem State.setCrField_draws (n : CrField) (v : BitVec 4) : (s.setCrField n v).draws = s.draws := rfl
@[simp] theorem State.setCrField_lastInterrupt (n : CrField) (v : BitVec 4) : (s.setCrField n v).lastInterrupt = s.lastInterrupt := rfl
@[simp] theorem State.setCrField_flagged (n : CrField) (v : BitVec 4) : (s.setCrField n v).flagged = s.flagged := rfl
@[simp] theorem State.setCrField_ibatAltered (n : CrField) (v : BitVec 4) : (s.setCrField n v).ibatAltered = s.ibatAltered := rfl
@[simp] theorem State.setCrField_env (n : CrField) (v : BitVec 4) : (s.setCrField n v).env = s.env := rfl
@[simp] theorem State.setCrField_extIn (n : CrField) (v : BitVec 4) : (s.setCrField n v).extIn = s.extIn := rfl
@[simp] theorem State.setCrField_extOut (n : CrField) (v : BitVec 4) : (s.setCrField n v).extOut = s.extOut := rfl

/-! `State.setCa` -/

@[simp] theorem State.setCa_gpr (c : Bool) : (s.setCa c).gpr = s.gpr := rfl
@[simp] theorem State.setCa_fpr (c : Bool) : (s.setCa c).fpr = s.fpr := rfl
@[simp] theorem State.setCa_fprSingle (c : Bool) : (s.setCa c).fprSingle = s.fprSingle := rfl
@[simp] theorem State.setCa_cr (c : Bool) : (s.setCa c).cr = s.cr := rfl
@[simp] theorem State.setCa_lr (c : Bool) : (s.setCa c).lr = s.lr := rfl
@[simp] theorem State.setCa_ctr (c : Bool) : (s.setCa c).ctr = s.ctr := rfl
@[simp] theorem State.setCa_pc (c : Bool) : (s.setCa c).pc = s.pc := rfl
@[simp] theorem State.setCa_xer (c : Bool) : (s.setCa c).xer = withBit s.xer 2 c := rfl
@[simp] theorem State.setCa_fpscr (c : Bool) : (s.setCa c).fpscr = s.fpscr := rfl
@[simp] theorem State.setCa_msr (c : Bool) : (s.setCa c).msr = s.msr := rfl
@[simp] theorem State.setCa_srr0 (c : Bool) : (s.setCa c).srr0 = s.srr0 := rfl
@[simp] theorem State.setCa_srr1 (c : Bool) : (s.setCa c).srr1 = s.srr1 := rfl
@[simp] theorem State.setCa_dar (c : Bool) : (s.setCa c).dar = s.dar := rfl
@[simp] theorem State.setCa_dsisr (c : Bool) : (s.setCa c).dsisr = s.dsisr := rfl
@[simp] theorem State.setCa_sprg (c : Bool) : (s.setCa c).sprg = s.sprg := rfl
@[simp] theorem State.setCa_dec (c : Bool) : (s.setCa c).dec = s.dec := rfl
@[simp] theorem State.setCa_tb (c : Bool) : (s.setCa c).tb = s.tb := rfl
@[simp] theorem State.setCa_sdr1 (c : Bool) : (s.setCa c).sdr1 = s.sdr1 := rfl
@[simp] theorem State.setCa_asr (c : Bool) : (s.setCa c).asr = s.asr := rfl
@[simp] theorem State.setCa_ear (c : Bool) : (s.setCa c).ear = s.ear := rfl
@[simp] theorem State.setCa_ibat (c : Bool) : (s.setCa c).ibat = s.ibat := rfl
@[simp] theorem State.setCa_dbat (c : Bool) : (s.setCa c).dbat = s.dbat := rfl
@[simp] theorem State.setCa_sr (c : Bool) : (s.setCa c).sr = s.sr := rfl
@[simp] theorem State.setCa_pir (c : Bool) : (s.setCa c).pir = s.pir := rfl
@[simp] theorem State.setCa_fpecr (c : Bool) : (s.setCa c).fpecr = s.fpecr := rfl
@[simp] theorem State.setCa_reserve (c : Bool) : (s.setCa c).reserve = s.reserve := rfl
@[simp] theorem State.setCa_decPending (c : Bool) : (s.setCa c).decPending = s.decPending := rfl
@[simp] theorem State.setCa_extPending (c : Bool) : (s.setCa c).extPending = s.extPending := rfl
@[simp] theorem State.setCa_sresetReq (c : Bool) : (s.setCa c).sresetReq = s.sresetReq := rfl
@[simp] theorem State.setCa_mcheckReq (c : Bool) : (s.setCa c).mcheckReq = s.mcheckReq := rfl
@[simp] theorem State.setCa_checkstop (c : Bool) : (s.setCa c).checkstop = s.checkstop := rfl
@[simp] theorem State.setCa_mem (c : Bool) : (s.setCa c).mem = s.mem := rfl
@[simp] theorem State.setCa_cfg (c : Bool) : (s.setCa c).cfg = s.cfg := rfl
@[simp] theorem State.setCa_draws (c : Bool) : (s.setCa c).draws = s.draws := rfl
@[simp] theorem State.setCa_lastInterrupt (c : Bool) : (s.setCa c).lastInterrupt = s.lastInterrupt := rfl
@[simp] theorem State.setCa_flagged (c : Bool) : (s.setCa c).flagged = s.flagged := rfl
@[simp] theorem State.setCa_ibatAltered (c : Bool) : (s.setCa c).ibatAltered = s.ibatAltered := rfl
@[simp] theorem State.setCa_env (c : Bool) : (s.setCa c).env = s.env := rfl
@[simp] theorem State.setCa_extIn (c : Bool) : (s.setCa c).extIn = s.extIn := rfl
@[simp] theorem State.setCa_extOut (c : Bool) : (s.setCa c).extOut = s.extOut := rfl

/-! `State.advance` -/

@[simp] theorem State.advance_gpr : (s.advance).gpr = s.gpr := rfl
@[simp] theorem State.advance_fpr : (s.advance).fpr = s.fpr := rfl
@[simp] theorem State.advance_fprSingle : (s.advance).fprSingle = s.fprSingle := rfl
@[simp] theorem State.advance_cr : (s.advance).cr = s.cr := rfl
@[simp] theorem State.advance_lr : (s.advance).lr = s.lr := rfl
@[simp] theorem State.advance_ctr : (s.advance).ctr = s.ctr := rfl
@[simp] theorem State.advance_pc : (s.advance).pc = s.nextPc := rfl
@[simp] theorem State.advance_xer : (s.advance).xer = s.xer := rfl
@[simp] theorem State.advance_fpscr : (s.advance).fpscr = s.fpscr := rfl
@[simp] theorem State.advance_msr : (s.advance).msr = s.msr := rfl
@[simp] theorem State.advance_srr0 : (s.advance).srr0 = s.srr0 := rfl
@[simp] theorem State.advance_srr1 : (s.advance).srr1 = s.srr1 := rfl
@[simp] theorem State.advance_dar : (s.advance).dar = s.dar := rfl
@[simp] theorem State.advance_dsisr : (s.advance).dsisr = s.dsisr := rfl
@[simp] theorem State.advance_sprg : (s.advance).sprg = s.sprg := rfl
@[simp] theorem State.advance_dec : (s.advance).dec = s.dec := rfl
@[simp] theorem State.advance_tb : (s.advance).tb = s.tb := rfl
@[simp] theorem State.advance_sdr1 : (s.advance).sdr1 = s.sdr1 := rfl
@[simp] theorem State.advance_asr : (s.advance).asr = s.asr := rfl
@[simp] theorem State.advance_ear : (s.advance).ear = s.ear := rfl
@[simp] theorem State.advance_ibat : (s.advance).ibat = s.ibat := rfl
@[simp] theorem State.advance_dbat : (s.advance).dbat = s.dbat := rfl
@[simp] theorem State.advance_sr : (s.advance).sr = s.sr := rfl
@[simp] theorem State.advance_pir : (s.advance).pir = s.pir := rfl
@[simp] theorem State.advance_fpecr : (s.advance).fpecr = s.fpecr := rfl
@[simp] theorem State.advance_reserve : (s.advance).reserve = s.reserve := rfl
@[simp] theorem State.advance_decPending : (s.advance).decPending = s.decPending := rfl
@[simp] theorem State.advance_extPending : (s.advance).extPending = s.extPending := rfl
@[simp] theorem State.advance_sresetReq : (s.advance).sresetReq = s.sresetReq := rfl
@[simp] theorem State.advance_mcheckReq : (s.advance).mcheckReq = s.mcheckReq := rfl
@[simp] theorem State.advance_checkstop : (s.advance).checkstop = s.checkstop := rfl
@[simp] theorem State.advance_mem : (s.advance).mem = s.mem := rfl
@[simp] theorem State.advance_cfg : (s.advance).cfg = s.cfg := rfl
@[simp] theorem State.advance_draws : (s.advance).draws = s.draws := rfl
@[simp] theorem State.advance_lastInterrupt : (s.advance).lastInterrupt = s.lastInterrupt := rfl
@[simp] theorem State.advance_flagged : (s.advance).flagged = s.flagged := rfl
@[simp] theorem State.advance_ibatAltered : (s.advance).ibatAltered = s.ibatAltered := rfl
@[simp] theorem State.advance_env : (s.advance).env = s.env := rfl
@[simp] theorem State.advance_extIn : (s.advance).extIn = s.extIn := rfl
@[simp] theorem State.advance_extOut : (s.advance).extOut = s.extOut := rfl

/-! `State.goTo` -/

@[simp] theorem State.goTo_gpr (a : Dword) : (s.goTo a).gpr = s.gpr := rfl
@[simp] theorem State.goTo_fpr (a : Dword) : (s.goTo a).fpr = s.fpr := rfl
@[simp] theorem State.goTo_fprSingle (a : Dword) : (s.goTo a).fprSingle = s.fprSingle := rfl
@[simp] theorem State.goTo_cr (a : Dword) : (s.goTo a).cr = s.cr := rfl
@[simp] theorem State.goTo_lr (a : Dword) : (s.goTo a).lr = s.lr := rfl
@[simp] theorem State.goTo_ctr (a : Dword) : (s.goTo a).ctr = s.ctr := rfl
@[simp] theorem State.goTo_pc (a : Dword) : (s.goTo a).pc = s.codeAddress a := rfl
@[simp] theorem State.goTo_xer (a : Dword) : (s.goTo a).xer = s.xer := rfl
@[simp] theorem State.goTo_fpscr (a : Dword) : (s.goTo a).fpscr = s.fpscr := rfl
@[simp] theorem State.goTo_msr (a : Dword) : (s.goTo a).msr = s.msr := rfl
@[simp] theorem State.goTo_srr0 (a : Dword) : (s.goTo a).srr0 = s.srr0 := rfl
@[simp] theorem State.goTo_srr1 (a : Dword) : (s.goTo a).srr1 = s.srr1 := rfl
@[simp] theorem State.goTo_dar (a : Dword) : (s.goTo a).dar = s.dar := rfl
@[simp] theorem State.goTo_dsisr (a : Dword) : (s.goTo a).dsisr = s.dsisr := rfl
@[simp] theorem State.goTo_sprg (a : Dword) : (s.goTo a).sprg = s.sprg := rfl
@[simp] theorem State.goTo_dec (a : Dword) : (s.goTo a).dec = s.dec := rfl
@[simp] theorem State.goTo_tb (a : Dword) : (s.goTo a).tb = s.tb := rfl
@[simp] theorem State.goTo_sdr1 (a : Dword) : (s.goTo a).sdr1 = s.sdr1 := rfl
@[simp] theorem State.goTo_asr (a : Dword) : (s.goTo a).asr = s.asr := rfl
@[simp] theorem State.goTo_ear (a : Dword) : (s.goTo a).ear = s.ear := rfl
@[simp] theorem State.goTo_ibat (a : Dword) : (s.goTo a).ibat = s.ibat := rfl
@[simp] theorem State.goTo_dbat (a : Dword) : (s.goTo a).dbat = s.dbat := rfl
@[simp] theorem State.goTo_sr (a : Dword) : (s.goTo a).sr = s.sr := rfl
@[simp] theorem State.goTo_pir (a : Dword) : (s.goTo a).pir = s.pir := rfl
@[simp] theorem State.goTo_fpecr (a : Dword) : (s.goTo a).fpecr = s.fpecr := rfl
@[simp] theorem State.goTo_reserve (a : Dword) : (s.goTo a).reserve = s.reserve := rfl
@[simp] theorem State.goTo_decPending (a : Dword) : (s.goTo a).decPending = s.decPending := rfl
@[simp] theorem State.goTo_extPending (a : Dword) : (s.goTo a).extPending = s.extPending := rfl
@[simp] theorem State.goTo_sresetReq (a : Dword) : (s.goTo a).sresetReq = s.sresetReq := rfl
@[simp] theorem State.goTo_mcheckReq (a : Dword) : (s.goTo a).mcheckReq = s.mcheckReq := rfl
@[simp] theorem State.goTo_checkstop (a : Dword) : (s.goTo a).checkstop = s.checkstop := rfl
@[simp] theorem State.goTo_mem (a : Dword) : (s.goTo a).mem = s.mem := rfl
@[simp] theorem State.goTo_cfg (a : Dword) : (s.goTo a).cfg = s.cfg := rfl
@[simp] theorem State.goTo_draws (a : Dword) : (s.goTo a).draws = s.draws := rfl
@[simp] theorem State.goTo_lastInterrupt (a : Dword) : (s.goTo a).lastInterrupt = s.lastInterrupt := rfl
@[simp] theorem State.goTo_flagged (a : Dword) : (s.goTo a).flagged = s.flagged := rfl
@[simp] theorem State.goTo_ibatAltered (a : Dword) : (s.goTo a).ibatAltered = s.ibatAltered := rfl
@[simp] theorem State.goTo_env (a : Dword) : (s.goTo a).env = s.env := rfl
@[simp] theorem State.goTo_extIn (a : Dword) : (s.goTo a).extIn = s.extIn := rfl
@[simp] theorem State.goTo_extOut (a : Dword) : (s.goTo a).extOut = s.extOut := rfl

/-! `State.drawn` -/

@[simp] theorem State.drawn_gpr (k : Nat) : (s.drawn k).gpr = s.gpr := rfl
@[simp] theorem State.drawn_fpr (k : Nat) : (s.drawn k).fpr = s.fpr := rfl
@[simp] theorem State.drawn_fprSingle (k : Nat) : (s.drawn k).fprSingle = s.fprSingle := rfl
@[simp] theorem State.drawn_cr (k : Nat) : (s.drawn k).cr = s.cr := rfl
@[simp] theorem State.drawn_lr (k : Nat) : (s.drawn k).lr = s.lr := rfl
@[simp] theorem State.drawn_ctr (k : Nat) : (s.drawn k).ctr = s.ctr := rfl
@[simp] theorem State.drawn_pc (k : Nat) : (s.drawn k).pc = s.pc := rfl
@[simp] theorem State.drawn_xer (k : Nat) : (s.drawn k).xer = s.xer := rfl
@[simp] theorem State.drawn_fpscr (k : Nat) : (s.drawn k).fpscr = s.fpscr := rfl
@[simp] theorem State.drawn_msr (k : Nat) : (s.drawn k).msr = s.msr := rfl
@[simp] theorem State.drawn_srr0 (k : Nat) : (s.drawn k).srr0 = s.srr0 := rfl
@[simp] theorem State.drawn_srr1 (k : Nat) : (s.drawn k).srr1 = s.srr1 := rfl
@[simp] theorem State.drawn_dar (k : Nat) : (s.drawn k).dar = s.dar := rfl
@[simp] theorem State.drawn_dsisr (k : Nat) : (s.drawn k).dsisr = s.dsisr := rfl
@[simp] theorem State.drawn_sprg (k : Nat) : (s.drawn k).sprg = s.sprg := rfl
@[simp] theorem State.drawn_dec (k : Nat) : (s.drawn k).dec = s.dec := rfl
@[simp] theorem State.drawn_tb (k : Nat) : (s.drawn k).tb = s.tb := rfl
@[simp] theorem State.drawn_sdr1 (k : Nat) : (s.drawn k).sdr1 = s.sdr1 := rfl
@[simp] theorem State.drawn_asr (k : Nat) : (s.drawn k).asr = s.asr := rfl
@[simp] theorem State.drawn_ear (k : Nat) : (s.drawn k).ear = s.ear := rfl
@[simp] theorem State.drawn_ibat (k : Nat) : (s.drawn k).ibat = s.ibat := rfl
@[simp] theorem State.drawn_dbat (k : Nat) : (s.drawn k).dbat = s.dbat := rfl
@[simp] theorem State.drawn_sr (k : Nat) : (s.drawn k).sr = s.sr := rfl
@[simp] theorem State.drawn_pir (k : Nat) : (s.drawn k).pir = s.pir := rfl
@[simp] theorem State.drawn_fpecr (k : Nat) : (s.drawn k).fpecr = s.fpecr := rfl
@[simp] theorem State.drawn_reserve (k : Nat) : (s.drawn k).reserve = s.reserve := rfl
@[simp] theorem State.drawn_decPending (k : Nat) : (s.drawn k).decPending = s.decPending := rfl
@[simp] theorem State.drawn_extPending (k : Nat) : (s.drawn k).extPending = s.extPending := rfl
@[simp] theorem State.drawn_sresetReq (k : Nat) : (s.drawn k).sresetReq = s.sresetReq := rfl
@[simp] theorem State.drawn_mcheckReq (k : Nat) : (s.drawn k).mcheckReq = s.mcheckReq := rfl
@[simp] theorem State.drawn_checkstop (k : Nat) : (s.drawn k).checkstop = s.checkstop := rfl
@[simp] theorem State.drawn_mem (k : Nat) : (s.drawn k).mem = s.mem := rfl
@[simp] theorem State.drawn_cfg (k : Nat) : (s.drawn k).cfg = s.cfg := rfl
@[simp] theorem State.drawn_draws (k : Nat) : (s.drawn k).draws = s.draws + k := rfl
@[simp] theorem State.drawn_lastInterrupt (k : Nat) : (s.drawn k).lastInterrupt = s.lastInterrupt := rfl
@[simp] theorem State.drawn_flagged (k : Nat) : (s.drawn k).flagged = s.flagged := rfl
@[simp] theorem State.drawn_ibatAltered (k : Nat) : (s.drawn k).ibatAltered = s.ibatAltered := rfl
@[simp] theorem State.drawn_env (k : Nat) : (s.drawn k).env = s.env := rfl
@[simp] theorem State.drawn_extIn (k : Nat) : (s.drawn k).extIn = s.extIn := rfl
@[simp] theorem State.drawn_extOut (k : Nat) : (s.drawn k).extOut = s.extOut := rfl

/-! `State.withFpReason` -/

@[simp] theorem State.withFpReason_gpr (b : Bool) : (s.withFpReason b).gpr = s.gpr := rfl
@[simp] theorem State.withFpReason_fpr (b : Bool) : (s.withFpReason b).fpr = s.fpr := rfl
@[simp] theorem State.withFpReason_fprSingle (b : Bool) : (s.withFpReason b).fprSingle = s.fprSingle := rfl
@[simp] theorem State.withFpReason_cr (b : Bool) : (s.withFpReason b).cr = s.cr := rfl
@[simp] theorem State.withFpReason_lr (b : Bool) : (s.withFpReason b).lr = s.lr := rfl
@[simp] theorem State.withFpReason_ctr (b : Bool) : (s.withFpReason b).ctr = s.ctr := rfl
@[simp] theorem State.withFpReason_pc (b : Bool) : (s.withFpReason b).pc = s.pc := rfl
@[simp] theorem State.withFpReason_xer (b : Bool) : (s.withFpReason b).xer = s.xer := rfl
@[simp] theorem State.withFpReason_fpscr (b : Bool) : (s.withFpReason b).fpscr = s.fpscr := rfl
@[simp] theorem State.withFpReason_msr (b : Bool) : (s.withFpReason b).msr = s.msr := rfl
@[simp] theorem State.withFpReason_srr0 (b : Bool) : (s.withFpReason b).srr0 = s.srr0 := rfl
@[simp] theorem State.withFpReason_srr1 (b : Bool) : (s.withFpReason b).srr1 = s.srr1 := rfl
@[simp] theorem State.withFpReason_dar (b : Bool) : (s.withFpReason b).dar = s.dar := rfl
@[simp] theorem State.withFpReason_dsisr (b : Bool) : (s.withFpReason b).dsisr = s.dsisr := rfl
@[simp] theorem State.withFpReason_sprg (b : Bool) : (s.withFpReason b).sprg = s.sprg := rfl
@[simp] theorem State.withFpReason_dec (b : Bool) : (s.withFpReason b).dec = s.dec := rfl
@[simp] theorem State.withFpReason_tb (b : Bool) : (s.withFpReason b).tb = s.tb := rfl
@[simp] theorem State.withFpReason_sdr1 (b : Bool) : (s.withFpReason b).sdr1 = s.sdr1 := rfl
@[simp] theorem State.withFpReason_asr (b : Bool) : (s.withFpReason b).asr = s.asr := rfl
@[simp] theorem State.withFpReason_ear (b : Bool) : (s.withFpReason b).ear = s.ear := rfl
@[simp] theorem State.withFpReason_ibat (b : Bool) : (s.withFpReason b).ibat = s.ibat := rfl
@[simp] theorem State.withFpReason_dbat (b : Bool) : (s.withFpReason b).dbat = s.dbat := rfl
@[simp] theorem State.withFpReason_sr (b : Bool) : (s.withFpReason b).sr = s.sr := rfl
@[simp] theorem State.withFpReason_pir (b : Bool) : (s.withFpReason b).pir = s.pir := rfl
@[simp] theorem State.withFpReason_fpecr (b : Bool) : (s.withFpReason b).fpecr =
    if s.cfg.fpecrPresent && b then lowWord (s.free 0) else s.fpecr := rfl
@[simp] theorem State.withFpReason_reserve (b : Bool) : (s.withFpReason b).reserve = s.reserve := rfl
@[simp] theorem State.withFpReason_decPending (b : Bool) : (s.withFpReason b).decPending = s.decPending := rfl
@[simp] theorem State.withFpReason_extPending (b : Bool) : (s.withFpReason b).extPending = s.extPending := rfl
@[simp] theorem State.withFpReason_sresetReq (b : Bool) : (s.withFpReason b).sresetReq = s.sresetReq := rfl
@[simp] theorem State.withFpReason_mcheckReq (b : Bool) : (s.withFpReason b).mcheckReq = s.mcheckReq := rfl
@[simp] theorem State.withFpReason_checkstop (b : Bool) : (s.withFpReason b).checkstop = s.checkstop := rfl
@[simp] theorem State.withFpReason_mem (b : Bool) : (s.withFpReason b).mem = s.mem := rfl
@[simp] theorem State.withFpReason_cfg (b : Bool) : (s.withFpReason b).cfg = s.cfg := rfl
@[simp] theorem State.withFpReason_draws (b : Bool) : (s.withFpReason b).draws = s.draws + 1 := rfl
@[simp] theorem State.withFpReason_lastInterrupt (b : Bool) : (s.withFpReason b).lastInterrupt = s.lastInterrupt := rfl
@[simp] theorem State.withFpReason_flagged (b : Bool) : (s.withFpReason b).flagged = s.flagged := rfl
@[simp] theorem State.withFpReason_ibatAltered (b : Bool) : (s.withFpReason b).ibatAltered = s.ibatAltered := rfl
@[simp] theorem State.withFpReason_env (b : Bool) : (s.withFpReason b).env = s.env := rfl
@[simp] theorem State.withFpReason_extIn (b : Bool) : (s.withFpReason b).extIn = s.extIn := rfl
@[simp] theorem State.withFpReason_extOut (b : Bool) : (s.withFpReason b).extOut = s.extOut := rfl

/-! `State.stored` -/

@[simp] theorem State.stored_gpr (rs : List Dword) (v : Dword) : (s.stored rs v).gpr = s.gpr := rfl
@[simp] theorem State.stored_fpr (rs : List Dword) (v : Dword) : (s.stored rs v).fpr = s.fpr := rfl
@[simp] theorem State.stored_fprSingle (rs : List Dword) (v : Dword) : (s.stored rs v).fprSingle = s.fprSingle := rfl
@[simp] theorem State.stored_cr (rs : List Dword) (v : Dword) : (s.stored rs v).cr = s.cr := rfl
@[simp] theorem State.stored_lr (rs : List Dword) (v : Dword) : (s.stored rs v).lr = s.lr := rfl
@[simp] theorem State.stored_ctr (rs : List Dword) (v : Dword) : (s.stored rs v).ctr = s.ctr := rfl
@[simp] theorem State.stored_pc (rs : List Dword) (v : Dword) : (s.stored rs v).pc = s.pc := rfl
@[simp] theorem State.stored_xer (rs : List Dword) (v : Dword) : (s.stored rs v).xer = s.xer := rfl
@[simp] theorem State.stored_fpscr (rs : List Dword) (v : Dword) : (s.stored rs v).fpscr = s.fpscr := rfl
@[simp] theorem State.stored_msr (rs : List Dword) (v : Dword) : (s.stored rs v).msr = s.msr := rfl
@[simp] theorem State.stored_srr0 (rs : List Dword) (v : Dword) : (s.stored rs v).srr0 = s.srr0 := rfl
@[simp] theorem State.stored_srr1 (rs : List Dword) (v : Dword) : (s.stored rs v).srr1 = s.srr1 := rfl
@[simp] theorem State.stored_dar (rs : List Dword) (v : Dword) : (s.stored rs v).dar = s.dar := rfl
@[simp] theorem State.stored_dsisr (rs : List Dword) (v : Dword) : (s.stored rs v).dsisr = s.dsisr := rfl
@[simp] theorem State.stored_sprg (rs : List Dword) (v : Dword) : (s.stored rs v).sprg = s.sprg := rfl
@[simp] theorem State.stored_dec (rs : List Dword) (v : Dword) : (s.stored rs v).dec = s.dec := rfl
@[simp] theorem State.stored_tb (rs : List Dword) (v : Dword) : (s.stored rs v).tb = s.tb := rfl
@[simp] theorem State.stored_sdr1 (rs : List Dword) (v : Dword) : (s.stored rs v).sdr1 = s.sdr1 := rfl
@[simp] theorem State.stored_asr (rs : List Dword) (v : Dword) : (s.stored rs v).asr = s.asr := rfl
@[simp] theorem State.stored_ear (rs : List Dword) (v : Dword) : (s.stored rs v).ear = s.ear := rfl
@[simp] theorem State.stored_ibat (rs : List Dword) (v : Dword) : (s.stored rs v).ibat = s.ibat := rfl
@[simp] theorem State.stored_dbat (rs : List Dword) (v : Dword) : (s.stored rs v).dbat = s.dbat := rfl
@[simp] theorem State.stored_sr (rs : List Dword) (v : Dword) : (s.stored rs v).sr = s.sr := rfl
@[simp] theorem State.stored_pir (rs : List Dword) (v : Dword) : (s.stored rs v).pir = s.pir := rfl
@[simp] theorem State.stored_fpecr (rs : List Dword) (v : Dword) : (s.stored rs v).fpecr = s.fpecr := rfl
@[simp] theorem State.stored_reserve (rs : List Dword) (v : Dword) : (s.stored rs v).reserve = s.reserve := rfl
@[simp] theorem State.stored_decPending (rs : List Dword) (v : Dword) : (s.stored rs v).decPending = s.decPending := rfl
@[simp] theorem State.stored_extPending (rs : List Dword) (v : Dword) : (s.stored rs v).extPending = s.extPending := rfl
@[simp] theorem State.stored_sresetReq (rs : List Dword) (v : Dword) : (s.stored rs v).sresetReq = s.sresetReq := rfl
@[simp] theorem State.stored_mcheckReq (rs : List Dword) (v : Dword) : (s.stored rs v).mcheckReq = s.mcheckReq := rfl
@[simp] theorem State.stored_checkstop (rs : List Dword) (v : Dword) : (s.stored rs v).checkstop = s.checkstop := rfl
@[simp] theorem State.stored_mem (rs : List Dword) (v : Dword) : (s.stored rs v).mem = s.mem.writeAll rs (bytesOfValue rs.length v) := rfl
@[simp] theorem State.stored_cfg (rs : List Dword) (v : Dword) : (s.stored rs v).cfg = s.cfg := rfl
@[simp] theorem State.stored_draws (rs : List Dword) (v : Dword) : (s.stored rs v).draws = s.draws := rfl
@[simp] theorem State.stored_lastInterrupt (rs : List Dword) (v : Dword) : (s.stored rs v).lastInterrupt = s.lastInterrupt := rfl
@[simp] theorem State.stored_flagged (rs : List Dword) (v : Dword) : (s.stored rs v).flagged = s.flagged := rfl
@[simp] theorem State.stored_ibatAltered (rs : List Dword) (v : Dword) : (s.stored rs v).ibatAltered = s.ibatAltered := rfl
@[simp] theorem State.stored_env (rs : List Dword) (v : Dword) : (s.stored rs v).env = s.env := rfl
@[simp] theorem State.stored_extIn (rs : List Dword) (v : Dword) : (s.stored rs v).extIn = s.extIn := rfl
@[simp] theorem State.stored_extOut (rs : List Dword) (v : Dword) : (s.stored rs v).extOut = s.extOut := rfl

/-! `State.withFpscr` -/

@[simp] theorem State.withFpscr_gpr (v : Word) : (s.withFpscr v).gpr = s.gpr := rfl
@[simp] theorem State.withFpscr_fpr (v : Word) : (s.withFpscr v).fpr = s.fpr := rfl
@[simp] theorem State.withFpscr_fprSingle (v : Word) : (s.withFpscr v).fprSingle = s.fprSingle := rfl
@[simp] theorem State.withFpscr_cr (v : Word) : (s.withFpscr v).cr = s.cr := rfl
@[simp] theorem State.withFpscr_lr (v : Word) : (s.withFpscr v).lr = s.lr := rfl
@[simp] theorem State.withFpscr_ctr (v : Word) : (s.withFpscr v).ctr = s.ctr := rfl
@[simp] theorem State.withFpscr_pc (v : Word) : (s.withFpscr v).pc = s.pc := rfl
@[simp] theorem State.withFpscr_xer (v : Word) : (s.withFpscr v).xer = s.xer := rfl
@[simp] theorem State.withFpscr_fpscr (v : Word) : (s.withFpscr v).fpscr = fpscrSummed s.cfg v := rfl
@[simp] theorem State.withFpscr_msr (v : Word) : (s.withFpscr v).msr = s.msr := rfl
@[simp] theorem State.withFpscr_srr0 (v : Word) : (s.withFpscr v).srr0 = s.srr0 := rfl
@[simp] theorem State.withFpscr_srr1 (v : Word) : (s.withFpscr v).srr1 = s.srr1 := rfl
@[simp] theorem State.withFpscr_dar (v : Word) : (s.withFpscr v).dar = s.dar := rfl
@[simp] theorem State.withFpscr_dsisr (v : Word) : (s.withFpscr v).dsisr = s.dsisr := rfl
@[simp] theorem State.withFpscr_sprg (v : Word) : (s.withFpscr v).sprg = s.sprg := rfl
@[simp] theorem State.withFpscr_dec (v : Word) : (s.withFpscr v).dec = s.dec := rfl
@[simp] theorem State.withFpscr_tb (v : Word) : (s.withFpscr v).tb = s.tb := rfl
@[simp] theorem State.withFpscr_sdr1 (v : Word) : (s.withFpscr v).sdr1 = s.sdr1 := rfl
@[simp] theorem State.withFpscr_asr (v : Word) : (s.withFpscr v).asr = s.asr := rfl
@[simp] theorem State.withFpscr_ear (v : Word) : (s.withFpscr v).ear = s.ear := rfl
@[simp] theorem State.withFpscr_ibat (v : Word) : (s.withFpscr v).ibat = s.ibat := rfl
@[simp] theorem State.withFpscr_dbat (v : Word) : (s.withFpscr v).dbat = s.dbat := rfl
@[simp] theorem State.withFpscr_sr (v : Word) : (s.withFpscr v).sr = s.sr := rfl
@[simp] theorem State.withFpscr_pir (v : Word) : (s.withFpscr v).pir = s.pir := rfl
@[simp] theorem State.withFpscr_fpecr (v : Word) : (s.withFpscr v).fpecr = s.fpecr := rfl
@[simp] theorem State.withFpscr_reserve (v : Word) : (s.withFpscr v).reserve = s.reserve := rfl
@[simp] theorem State.withFpscr_decPending (v : Word) : (s.withFpscr v).decPending = s.decPending := rfl
@[simp] theorem State.withFpscr_extPending (v : Word) : (s.withFpscr v).extPending = s.extPending := rfl
@[simp] theorem State.withFpscr_sresetReq (v : Word) : (s.withFpscr v).sresetReq = s.sresetReq := rfl
@[simp] theorem State.withFpscr_mcheckReq (v : Word) : (s.withFpscr v).mcheckReq = s.mcheckReq := rfl
@[simp] theorem State.withFpscr_checkstop (v : Word) : (s.withFpscr v).checkstop = s.checkstop := rfl
@[simp] theorem State.withFpscr_mem (v : Word) : (s.withFpscr v).mem = s.mem := rfl
@[simp] theorem State.withFpscr_cfg (v : Word) : (s.withFpscr v).cfg = s.cfg := rfl
@[simp] theorem State.withFpscr_draws (v : Word) : (s.withFpscr v).draws = s.draws := rfl
@[simp] theorem State.withFpscr_lastInterrupt (v : Word) : (s.withFpscr v).lastInterrupt = s.lastInterrupt := rfl
@[simp] theorem State.withFpscr_flagged (v : Word) : (s.withFpscr v).flagged = s.flagged := rfl
@[simp] theorem State.withFpscr_ibatAltered (v : Word) : (s.withFpscr v).ibatAltered = s.ibatAltered := rfl
@[simp] theorem State.withFpscr_env (v : Word) : (s.withFpscr v).env = s.env := rfl
@[simp] theorem State.withFpscr_extIn (v : Word) : (s.withFpscr v).extIn = s.extIn := rfl
@[simp] theorem State.withFpscr_extOut (v : Word) : (s.withFpscr v).extOut = s.extOut := rfl

/-! `State.setSr` -/

@[simp] theorem State.setSr_gpr (n : BitVec 4) (v : Word) : (s.setSr n v).gpr = s.gpr := rfl
@[simp] theorem State.setSr_fpr (n : BitVec 4) (v : Word) : (s.setSr n v).fpr = s.fpr := rfl
@[simp] theorem State.setSr_fprSingle (n : BitVec 4) (v : Word) : (s.setSr n v).fprSingle = s.fprSingle := rfl
@[simp] theorem State.setSr_cr (n : BitVec 4) (v : Word) : (s.setSr n v).cr = s.cr := rfl
@[simp] theorem State.setSr_lr (n : BitVec 4) (v : Word) : (s.setSr n v).lr = s.lr := rfl
@[simp] theorem State.setSr_ctr (n : BitVec 4) (v : Word) : (s.setSr n v).ctr = s.ctr := rfl
@[simp] theorem State.setSr_pc (n : BitVec 4) (v : Word) : (s.setSr n v).pc = s.pc := rfl
@[simp] theorem State.setSr_xer (n : BitVec 4) (v : Word) : (s.setSr n v).xer = s.xer := rfl
@[simp] theorem State.setSr_fpscr (n : BitVec 4) (v : Word) : (s.setSr n v).fpscr = s.fpscr := rfl
@[simp] theorem State.setSr_msr (n : BitVec 4) (v : Word) : (s.setSr n v).msr = s.msr := rfl
@[simp] theorem State.setSr_srr0 (n : BitVec 4) (v : Word) : (s.setSr n v).srr0 = s.srr0 := rfl
@[simp] theorem State.setSr_srr1 (n : BitVec 4) (v : Word) : (s.setSr n v).srr1 = s.srr1 := rfl
@[simp] theorem State.setSr_dar (n : BitVec 4) (v : Word) : (s.setSr n v).dar = s.dar := rfl
@[simp] theorem State.setSr_dsisr (n : BitVec 4) (v : Word) : (s.setSr n v).dsisr = s.dsisr := rfl
@[simp] theorem State.setSr_sprg (n : BitVec 4) (v : Word) : (s.setSr n v).sprg = s.sprg := rfl
@[simp] theorem State.setSr_dec (n : BitVec 4) (v : Word) : (s.setSr n v).dec = s.dec := rfl
@[simp] theorem State.setSr_tb (n : BitVec 4) (v : Word) : (s.setSr n v).tb = s.tb := rfl
@[simp] theorem State.setSr_sdr1 (n : BitVec 4) (v : Word) : (s.setSr n v).sdr1 = s.sdr1 := rfl
@[simp] theorem State.setSr_asr (n : BitVec 4) (v : Word) : (s.setSr n v).asr = s.asr := rfl
@[simp] theorem State.setSr_ear (n : BitVec 4) (v : Word) : (s.setSr n v).ear = s.ear := rfl
@[simp] theorem State.setSr_ibat (n : BitVec 4) (v : Word) : (s.setSr n v).ibat = s.ibat := rfl
@[simp] theorem State.setSr_dbat (n : BitVec 4) (v : Word) : (s.setSr n v).dbat = s.dbat := rfl
@[simp] theorem State.setSr_sr (n : BitVec 4) (v : Word) : (s.setSr n v).sr = s.sr.set n.toNat v (by have := n.isLt; omega) := rfl
@[simp] theorem State.setSr_pir (n : BitVec 4) (v : Word) : (s.setSr n v).pir = s.pir := rfl
@[simp] theorem State.setSr_fpecr (n : BitVec 4) (v : Word) : (s.setSr n v).fpecr = s.fpecr := rfl
@[simp] theorem State.setSr_reserve (n : BitVec 4) (v : Word) : (s.setSr n v).reserve = s.reserve := rfl
@[simp] theorem State.setSr_decPending (n : BitVec 4) (v : Word) : (s.setSr n v).decPending = s.decPending := rfl
@[simp] theorem State.setSr_extPending (n : BitVec 4) (v : Word) : (s.setSr n v).extPending = s.extPending := rfl
@[simp] theorem State.setSr_sresetReq (n : BitVec 4) (v : Word) : (s.setSr n v).sresetReq = s.sresetReq := rfl
@[simp] theorem State.setSr_mcheckReq (n : BitVec 4) (v : Word) : (s.setSr n v).mcheckReq = s.mcheckReq := rfl
@[simp] theorem State.setSr_checkstop (n : BitVec 4) (v : Word) : (s.setSr n v).checkstop = s.checkstop := rfl
@[simp] theorem State.setSr_mem (n : BitVec 4) (v : Word) : (s.setSr n v).mem = s.mem := rfl
@[simp] theorem State.setSr_cfg (n : BitVec 4) (v : Word) : (s.setSr n v).cfg = s.cfg := rfl
@[simp] theorem State.setSr_draws (n : BitVec 4) (v : Word) : (s.setSr n v).draws = s.draws := rfl
@[simp] theorem State.setSr_lastInterrupt (n : BitVec 4) (v : Word) : (s.setSr n v).lastInterrupt = s.lastInterrupt := rfl
@[simp] theorem State.setSr_flagged (n : BitVec 4) (v : Word) : (s.setSr n v).flagged = s.flagged := rfl
@[simp] theorem State.setSr_ibatAltered (n : BitVec 4) (v : Word) : (s.setSr n v).ibatAltered = s.ibatAltered := rfl
@[simp] theorem State.setSr_env (n : BitVec 4) (v : Word) : (s.setSr n v).env = s.env := rfl
@[simp] theorem State.setSr_extIn (n : BitVec 4) (v : Word) : (s.setSr n v).extIn = s.extIn := rfl
@[simp] theorem State.setSr_extOut (n : BitVec 4) (v : Word) : (s.setSr n v).extOut = s.extOut := rfl

/-! `takeInterrupt` -/

@[simp] theorem State.takeInterrupt_gpr (c : Cause) : (takeInterrupt c s).gpr = s.gpr := rfl
@[simp] theorem State.takeInterrupt_fpr (c : Cause) : (takeInterrupt c s).fpr = s.fpr := rfl
@[simp] theorem State.takeInterrupt_fprSingle (c : Cause) : (takeInterrupt c s).fprSingle = s.fprSingle := rfl
@[simp] theorem State.takeInterrupt_cr (c : Cause) : (takeInterrupt c s).cr = s.cr := rfl
@[simp] theorem State.takeInterrupt_lr (c : Cause) : (takeInterrupt c s).lr = s.lr := rfl
@[simp] theorem State.takeInterrupt_ctr (c : Cause) : (takeInterrupt c s).ctr = s.ctr := rfl
@[simp] theorem State.takeInterrupt_pc (c : Cause) : (takeInterrupt c s).pc = s.narrow (s.vectorBase + vectorOffset c.kind) &&& ~~~ 3#64 := rfl
@[simp] theorem State.takeInterrupt_xer (c : Cause) : (takeInterrupt c s).xer = s.xer := rfl
@[simp] theorem State.takeInterrupt_fpscr (c : Cause) : (takeInterrupt c s).fpscr = s.fpscr := rfl
@[simp] theorem State.takeInterrupt_msr (c : Cause) : (takeInterrupt c s).msr = interruptMsr c.kind s := rfl
@[simp] theorem State.takeInterrupt_srr0 (c : Cause) : (takeInterrupt c s).srr0 = c.srr0 s := rfl
@[simp] theorem State.takeInterrupt_srr1 (c : Cause) : (takeInterrupt c s).srr1 = c.srr1 s := rfl
@[simp] theorem State.takeInterrupt_dar (c : Cause) : (takeInterrupt c s).dar = c.dar s := rfl
@[simp] theorem State.takeInterrupt_dsisr (c : Cause) : (takeInterrupt c s).dsisr = c.dsisr s := rfl
@[simp] theorem State.takeInterrupt_sprg (c : Cause) : (takeInterrupt c s).sprg = s.sprg := rfl
@[simp] theorem State.takeInterrupt_dec (c : Cause) : (takeInterrupt c s).dec = s.dec := rfl
@[simp] theorem State.takeInterrupt_tb (c : Cause) : (takeInterrupt c s).tb = s.tb := rfl
@[simp] theorem State.takeInterrupt_sdr1 (c : Cause) : (takeInterrupt c s).sdr1 = s.sdr1 := rfl
@[simp] theorem State.takeInterrupt_asr (c : Cause) : (takeInterrupt c s).asr = s.asr := rfl
@[simp] theorem State.takeInterrupt_ear (c : Cause) : (takeInterrupt c s).ear = s.ear := rfl
@[simp] theorem State.takeInterrupt_ibat (c : Cause) : (takeInterrupt c s).ibat = s.ibat := rfl
@[simp] theorem State.takeInterrupt_dbat (c : Cause) : (takeInterrupt c s).dbat = s.dbat := rfl
@[simp] theorem State.takeInterrupt_sr (c : Cause) : (takeInterrupt c s).sr = s.sr := rfl
@[simp] theorem State.takeInterrupt_pir (c : Cause) : (takeInterrupt c s).pir = s.pir := rfl
@[simp] theorem State.takeInterrupt_fpecr (c : Cause) : (takeInterrupt c s).fpecr = c.fpecr s := rfl
@[simp] theorem State.takeInterrupt_reserve (c : Cause) : (takeInterrupt c s).reserve = s.reserve := rfl
@[simp] theorem State.takeInterrupt_decPending (c : Cause) : (takeInterrupt c s).decPending = (s.decPending && c.kind != .decrementer) := rfl
@[simp] theorem State.takeInterrupt_extPending (c : Cause) : (takeInterrupt c s).extPending = s.extPending := rfl
@[simp] theorem State.takeInterrupt_sresetReq (c : Cause) : (takeInterrupt c s).sresetReq = (s.sresetReq && c.kind != .systemReset) := rfl
@[simp] theorem State.takeInterrupt_mcheckReq (c : Cause) : (takeInterrupt c s).mcheckReq = (s.mcheckReq && c.kind != .machineCheck) := rfl
@[simp] theorem State.takeInterrupt_checkstop (c : Cause) : (takeInterrupt c s).checkstop = s.checkstop := rfl
@[simp] theorem State.takeInterrupt_mem (c : Cause) : (takeInterrupt c s).mem = s.mem := rfl
@[simp] theorem State.takeInterrupt_cfg (c : Cause) : (takeInterrupt c s).cfg = s.cfg := rfl
@[simp] theorem State.takeInterrupt_draws (c : Cause) : (takeInterrupt c s).draws = s.draws + 2 := rfl
@[simp] theorem State.takeInterrupt_lastInterrupt (c : Cause) : (takeInterrupt c s).lastInterrupt = some c.kind := rfl
@[simp] theorem State.takeInterrupt_flagged (c : Cause) : (takeInterrupt c s).flagged = s.flagged := rfl
@[simp] theorem State.takeInterrupt_ibatAltered (c : Cause) : (takeInterrupt c s).ibatAltered = if c.synchronizes s then noneAltered else s.ibatAltered := rfl
@[simp] theorem State.takeInterrupt_env (c : Cause) : (takeInterrupt c s).env = s.env := rfl
@[simp] theorem State.takeInterrupt_extIn (c : Cause) : (takeInterrupt c s).extIn = s.extIn := rfl
@[simp] theorem State.takeInterrupt_extOut (c : Cause) : (takeInterrupt c s).extOut = s.extOut := rfl

/-! `tick` -/

@[simp] theorem State.tick_gpr : (tick s).gpr = s.gpr := rfl
@[simp] theorem State.tick_fpr : (tick s).fpr = s.fpr := rfl
@[simp] theorem State.tick_fprSingle : (tick s).fprSingle = s.fprSingle := rfl
@[simp] theorem State.tick_cr : (tick s).cr = s.cr := rfl
@[simp] theorem State.tick_lr : (tick s).lr = s.lr := rfl
@[simp] theorem State.tick_ctr : (tick s).ctr = s.ctr := rfl
@[simp] theorem State.tick_pc : (tick s).pc = s.pc := rfl
@[simp] theorem State.tick_xer : (tick s).xer = s.xer := rfl
@[simp] theorem State.tick_fpscr : (tick s).fpscr = s.fpscr := rfl
@[simp] theorem State.tick_msr : (tick s).msr = s.msr := rfl
@[simp] theorem State.tick_srr0 : (tick s).srr0 = s.srr0 := rfl
@[simp] theorem State.tick_srr1 : (tick s).srr1 = s.srr1 := rfl
@[simp] theorem State.tick_dar : (tick s).dar = s.dar := rfl
@[simp] theorem State.tick_dsisr : (tick s).dsisr = s.dsisr := rfl
@[simp] theorem State.tick_sprg : (tick s).sprg = s.sprg := rfl
@[simp] theorem State.tick_dec : (tick s).dec = s.dec - 1 := rfl
@[simp] theorem State.tick_tb : (tick s).tb = s.tb + 1 := rfl
@[simp] theorem State.tick_sdr1 : (tick s).sdr1 = s.sdr1 := rfl
@[simp] theorem State.tick_asr : (tick s).asr = s.asr := rfl
@[simp] theorem State.tick_ear : (tick s).ear = s.ear := rfl
@[simp] theorem State.tick_ibat : (tick s).ibat = s.ibat := rfl
@[simp] theorem State.tick_dbat : (tick s).dbat = s.dbat := rfl
@[simp] theorem State.tick_sr : (tick s).sr = s.sr := rfl
@[simp] theorem State.tick_pir : (tick s).pir = s.pir := rfl
@[simp] theorem State.tick_fpecr : (tick s).fpecr = s.fpecr := rfl
@[simp] theorem State.tick_reserve : (tick s).reserve = s.reserve := rfl
@[simp] theorem State.tick_decPending : (tick s).decPending = (s.decPending || (!bit s.dec 0 && bit (s.dec - 1) 0)) := rfl
@[simp] theorem State.tick_extPending : (tick s).extPending = s.extPending := rfl
@[simp] theorem State.tick_sresetReq : (tick s).sresetReq = s.sresetReq := rfl
@[simp] theorem State.tick_mcheckReq : (tick s).mcheckReq = s.mcheckReq := rfl
@[simp] theorem State.tick_checkstop : (tick s).checkstop = s.checkstop := rfl
@[simp] theorem State.tick_mem : (tick s).mem = s.mem := rfl
@[simp] theorem State.tick_cfg : (tick s).cfg = s.cfg := rfl
@[simp] theorem State.tick_draws : (tick s).draws = s.draws := rfl
@[simp] theorem State.tick_lastInterrupt : (tick s).lastInterrupt = s.lastInterrupt := rfl
@[simp] theorem State.tick_flagged : (tick s).flagged = s.flagged := rfl
@[simp] theorem State.tick_ibatAltered : (tick s).ibatAltered = s.ibatAltered := rfl
@[simp] theorem State.tick_env : (tick s).env = s.env := rfl
@[simp] theorem State.tick_extIn : (tick s).extIn = s.extIn := rfl
@[simp] theorem State.tick_extOut : (tick s).extOut = s.extOut := rfl

/-! Updates that branch -/

/-- `record` changes the CR only. -/
theorem State.record_shape (rc : Bool) (r : Dword) : s.record rc r = { s with cr := (s.record rc r).cr } := by
  unfold State.record; split <;> rfl

/-- `recordFree` changes the CR only. -/
theorem State.recordFree_shape (rc : Bool) (v : Dword) :
    s.recordFree rc v = { s with cr := (s.recordFree rc v).cr } := by
  unfold State.recordFree; split <;> rfl

/-- `recordFp` changes the CR only. -/
theorem State.recordFp_shape (rc : Bool) : s.recordFp rc = { s with cr := (s.recordFp rc).cr } := by
  unfold State.recordFp; split <;> rfl

/-- `setOv` changes the XER only. -/
theorem State.setOv_shape (oe ov : Bool) : s.setOv oe ov = { s with xer := (s.setOv oe ov).xer } := by
  unfold State.setOv; split <;> rfl

/-- `link` changes the LR only. -/
theorem State.link_shape (lk : Bool) : s.link lk = { s with lr := (s.link lk).lr } := by
  unfold State.link; split <;> rfl

/-- `setXs` changes the GPRs only. -/
theorem State.setXs_shape (r : Gpr) (vs : List Dword) : s.setXs r vs = { s with gpr := (s.setXs r vs).gpr } := by
  induction vs generalizing s r with
  | nil => rfl
  | cons v vs ih => rw [State.setXs, ih]; rfl

/-- `withFpResult` changes the FPRs, their provenance and the FPSCR only. -/
theorem State.withFpResult_shape (frt : Fpr) (single : Bool) (r : FpResult) :
    s.withFpResult frt single r =
      { s with
        fpr := (s.withFpResult frt single r).fpr
        fprSingle := (s.withFpResult frt single r).fprSingle
        fpscr := (s.withFpResult frt single r).fpscr } := by
  unfold State.withFpResult; cases r.value <;> rfl

/-- `ticks` changes the Time Base, the Decrementer and its request only. -/
theorem ticks_shape (n : Nat) :
    ticks n s = { s with tb := (ticks n s).tb, dec := (ticks n s).dec, decPending := (ticks n s).decPending } := by
  induction n generalizing s with
  | zero => rfl
  | succ n ih => rw [ticks, ih]; rfl

/-- `foreignStores` changes storage and the reservation only. -/
theorem foreignStores_shape (cs : List Host.Cell) :
    foreignStores cs s = { s with mem := (foreignStores cs s).mem, reserve := (foreignStores cs s).reserve } := by
  induction cs generalizing s with
  | nil => rfl
  | cons c cs ih => rw [foreignStores, ih]; rfl

/-- `writeSpr` changes these registers only. -/
theorem writeSpr_shape (n : SprNum) (v : Dword) :
    writeSpr n v s =
      { s with
        xer := (writeSpr n v s).xer, lr := (writeSpr n v s).lr, ctr := (writeSpr n v s).ctr
        dsisr := (writeSpr n v s).dsisr, dar := (writeSpr n v s).dar, dec := (writeSpr n v s).dec
        decPending := (writeSpr n v s).decPending, sdr1 := (writeSpr n v s).sdr1, srr0 := (writeSpr n v s).srr0
        srr1 := (writeSpr n v s).srr1, asr := (writeSpr n v s).asr, ear := (writeSpr n v s).ear
        tb := (writeSpr n v s).tb, fpecr := (writeSpr n v s).fpecr, pir := (writeSpr n v s).pir
        sprg := (writeSpr n v s).sprg, ibat := (writeSpr n v s).ibat, dbat := (writeSpr n v s).dbat
        ibatAltered := (writeSpr n v s).ibatAltered } := by
  unfold writeSpr; split <;> first | rfl | (split; rfl; split; rfl; split <;> rfl)

/-- Events change the inputs, the Time Base and the Decrementer, storage and the reservation only. -/
theorem happenAll_shape (es : List EnvEvent) :
    happenAll es s =
      { s with
        tb := (happenAll es s).tb, dec := (happenAll es s).dec, decPending := (happenAll es s).decPending
        sresetReq := (happenAll es s).sresetReq, mcheckReq := (happenAll es s).mcheckReq
        extPending := (happenAll es s).extPending, reserve := (happenAll es s).reserve
        mem := (happenAll es s).mem } := by
  induction es generalizing s with
  | nil => rfl
  | cons e es ih =>
    rw [happenAll, ih]
    cases e <;> simp only [happen]
    · rw [ticks_shape]
    · rw [foreignStores_shape]

/-- The environment changes the inputs, the Time Base and the Decrementer, storage and the reservation only. -/
theorem environment_shape :
    environment s =
      { s with
        tb := (environment s).tb, dec := (environment s).dec, decPending := (environment s).decPending
        sresetReq := (environment s).sresetReq, mcheckReq := (environment s).mcheckReq
        extPending := (environment s).extPending, reserve := (environment s).reserve, mem := (environment s).mem
        env := (environment s).env } := by
  unfold environment
  cases s.env with
  | nil => rw [ticks_shape]
  | cons es rest => dsimp only; rw [happenAll_shape]

end Sys2Proof.Machine
end

