-- ==== Sys2Proof/Laws/Ops.lean ====
section
/-! SUPPORT. For each shared operation, once, everything it can do: what it answers, and which case holds when it answers a
next state. Also that the operations that store a register value store what they read back. -/

namespace Sys2Proof.Machine

/-! ## The decode-time checks -/

/-- An instruction the checks admit runs its body. -/
theorem admitted_of_execute {i : Instr} {s : State} (h : admission i s = .execute) (body : Result) :
    admitted i s body = body := by
  unfold admitted; rw [h]

/-- What the checks and the body can answer: the body's next state, or one interrupt in the state before. -/
theorem admitted_cases {i : Instr} {s t : State} {body : Result} (h : admitted i s body = .next t) :
    (admission i s = .execute ∧ body = .next t) ∨ (∃ c, admission i s = .raise c ∧ t = takeInterrupt c s) ∨
      (admission i s = .invalidForm ∧ s.cfg.invalidForm = .illegal ∧ t = takeInterrupt (.program .illegal) s) := by
  unfold admitted at h
  split at h
  · exact .inl ⟨‹_›, h⟩
  · rename_i c hc
    exact .inr (.inl ⟨c, hc, by simpa [interrupt] using h.symm⟩)
  · rename_i hf
    unfold invalidForm at h
    split at h
    · exact .inr (.inr ⟨hf, ‹_›, by simpa [interrupt] using h.symm⟩)
    · cases h

/-- An instruction of no special requirement and of valid form is admitted in every state. -/
theorem admission_free {i : Instr} {s : State} (hr : i.req s.cfg = {}) (hf : i.formValid = true)
    (hh : i.formValidHere s.cfg s.xer = true) : admission i s = .execute := by
  unfold admission admissionBeforeForm
  simp [hr, hf, hh, implemented]

/-- When the checks admit an instruction: it exists here, its privilege and the FPU allow it, and its form is valid. -/
theorem admission_execute_iff (i : Instr) (s : State) :
    admission i s = .execute ↔
      implemented (i.req s.cfg) s.cfg = true ∧ ((i.req s.cfg).priv = true → s.msrBit msrPR = false) ∧
        ((i.req s.cfg).fp = true → s.msrBit msrFP = true) ∧ i.formValid = true ∧
        i.formValidHere s.cfg s.xer = true := by
  unfold admission admissionBeforeForm
  dsimp only
  generalize implemented (i.req s.cfg) s.cfg = a
  generalize (i.req s.cfg).priv = b
  generalize (i.req s.cfg).fp = c
  generalize s.msrBit msrPR = d
  generalize s.msrBit msrFP = e
  generalize i.formValid = f
  generalize i.formValidHere s.cfg s.xer = g
  cases a <;> cases b <;> cases c <;> cases d <;> cases e <;> cases f <;> cases g <;> simp

/-- A word with a reserved bit set ends in one interrupt, or in the refusal its policy names. -/
theorem reservedBitsForm_cases {i : Instr} {s t : State} (h : reservedBitsForm i s = .next t) :
    ∃ c, t = takeInterrupt c s := by
  unfold reservedBitsForm at h
  split at h
  · rename_i c _
    exact ⟨c, by simpa [interrupt] using h.symm⟩
  · unfold invalidForm at h
    split at h
    · exact ⟨_, by simpa [interrupt] using h.symm⟩
    · cases h

/-! ## Alterations of a context, and External Control -/

/-- A pair that instruction fetch uses, for this instruction or the next one (R807). -/
theorem ibatInUse_iff {s : State} {n : Nat} :
    ibatInUse s n = true ↔ s.msrBit msrIR = true ∧ ∃ a, (a = s.pc ∨ a = s.nextPc) ∧
      (fetchAttrs { s with pc := a }).block = some (BitVec.ofNat 2 n) := by
  simp [ibatInUse, ibatMaps, and_or_left]

/-- What an alteration of an IBAT register that breaks R807 is. -/
theorem ibatBroken_iff {s t : State} {k : Nat} :
    ibatBroken s k t = true ↔ s.msrBit msrIR = true ∧ ibatChange s t k ≠ 0 ∧
      ((ibatInUse s (k / 2) = true ∧ ibatFieldAltered s t k = true) ∨ sameCode s t = false ∨
        ((ibatInUse s (k / 2) = true ∨ ibatInUse t (k / 2) = true) ∧ fetchedBytes { t with pc := s.nextPc } = none) ∨
        (ibatInUse t (k / 2) = true ∧ ibatFieldAltered s t k = true ∧
          s.ibatAltered[otherHalf k]?.getD false = true)) := by
  simp [ibatBroken, ibatUnsequenced, and_assoc, or_assoc]

/-- The Key bits of an IBAT register are always free (R807). -/
theorem ibatBroken_of_keys {s t : State} {k : Nat} (h : ibatChange s t k = 0) : ibatBroken s k t = false := by
  simp [ibatBroken, h]

/-- A pair whose other register is not altered since the last context synchronizing operation needs no sequence (R807: "a
single mtspr suffices"). -/
theorem ibatUnsequenced_of_single {s t : State} {k : Nat} (h : s.ibatAltered[otherHalf k]?.getD false = false) :
    ibatUnsequenced s k t = false := by
  simp [ibatUnsequenced, h]

/-- Writing an IBAT register changes it and adds at most itself to the record. -/
theorem State.alterIbat_shape (s : State) (k : Nat) (v : Dword) :
    s.alterIbat k v = { s with
      ibat := s.ibat.setIfInBounds k (s.narrow v)
      ibatAltered := (s.alterIbat k v).ibatAltered } := rfl

/-- An alteration within the requirements of Appendix L.4 happens. -/
theorem contextAltered_of_kept {broken : Bool} (h : broken = false) (t : State) : contextAltered broken t = .next t := by
  rw [h]; rfl

/-- An alteration that answers a next state kept the requirements, or broke them where the configuration executes it. -/
theorem contextAltered_cases {broken : Bool} {t u : State} (h : contextAltered broken t = .next u) :
    (broken = false ∧ u = t) ∨ (broken = true ∧ t.cfg.context = .execute ∧ u = { t with flagged := true }) := by
  unfold contextAltered at h
  split at h
  · split at h
    · cases h
    · exact .inr ⟨‹_›, ‹_›, by simpa using h.symm⟩
  · rename_i hb
    exact .inl ⟨by simpa using hb, by simpa using h.symm⟩

/-- An external control operation runs its body, in a marked state where data relocation is off. -/
theorem externalControl_cases {s t : State} {body : State → Result} (h : externalControl s body = .next t) :
    (s.msrBit msrDR = true ∧ body s = .next t) ∨
      (s.msrBit msrDR = false ∧ s.cfg.invalidForm = .illegal ∧ body { s with flagged := true } = .next t) := by
  unfold externalControl at h
  split at h
  · exact .inl ⟨‹_›, h⟩
  · rename_i hd
    split at h
    · exact .inr ⟨by simpa using hd, ‹_›, h⟩
    · cases h

/-! ## Data accesses -/

/-- The line of the table that answers is the first one that applies. -/
theorem findTranslation_eq_find (s : State) (l : List TranslationEntry) (page : BitVec 52) (kind : AccessKind)
    (priv : Bool) :
    findTranslation s l page kind priv =
      (l.find? fun e => e.page == page && e.kind == kind && e.privileged == priv && e.conditions.all s.meets).map
        (·.result) := by
  induction l with
  | nil => rfl
  | cons e l ih =>
    rw [findTranslation, List.find?_cons, ih]
    by_cases h : e.page = page ∧ e.kind = kind ∧ e.privileged = priv ∧ e.conditions.all s.meets = true
    · rw [if_pos h]
      obtain ⟨h1, h2, h3, h4⟩ := h
      simp only [h1, h2, h3, h4, beq_self_eq_true, Bool.and_true]
      rfl
    · rw [if_neg h]
      have hb : (e.page == page && e.kind == kind && e.privileged == priv && e.conditions.all s.meets) = false := by
        rw [Bool.eq_false_iff]
        intro hc
        simp only [Bool.and_eq_true, beq_iff_eq] at hc
        exact h ⟨hc.1.1.1, hc.1.1.2, hc.1.2, hc.2⟩
      rw [hb]

/-- With relocation off an address is its own translation. -/
theorem translate_untranslated {s : State} {kind : AccessKind} (h : s.relocates kind = false) (a : Dword) :
    translate s kind a = .ok (a, {}) := by
  unfold translate; rw [h]; rfl

/-- A stopped access that answers a next state took one interrupt. -/
theorem Stop.outcome_cases {e : Stop} {s t : State} (h : e.outcome s = .next t) : ∃ c, t = takeInterrupt c s := by
  cases e with
  | interrupt c => exact ⟨c, by simpa [Stop.outcome, Machine.interrupt] using h.symm⟩
  | fault f => cases h

/-- A load that answers a next state did its transfer and its body, or took one interrupt. -/
theorem memRead_cases {i : Instr} {regs : DsisrRegs} {cls : AccessClass} {ea : Dword} {n : Nat} {s t : State}
    {body : Dword → Result} (h : memRead i regs cls ea n s body = .next t) :
    (∃ rs, accessReals i regs cls .load ea n s = .ok rs ∧ body (valueOfBytes (s.mem.readAll rs)) = .next t) ∨
      ∃ c, t = takeInterrupt c s := by
  unfold memRead at h
  split at h
  · exact .inr (Stop.outcome_cases h)
  · exact .inl ⟨_, ‹_›, h⟩

/-- A load whose access the checks allow. -/
theorem memRead_of_ok {i : Instr} {regs : DsisrRegs} {cls : AccessClass} {ea : Dword} {n : Nat} {s : State}
    {rs : List Dword} (h : accessReals i regs cls .load ea n s = .ok rs) (body : Dword → Result) :
    memRead i regs cls ea n s body = body (valueOfBytes (s.mem.readAll rs)) := by
  unfold memRead; rw [h]

/-- A store that answers a next state did its transfer and its body, or took one interrupt. -/
theorem memWrite_cases {i : Instr} {regs : DsisrRegs} {cls : AccessClass} {ea : Dword} {n : Nat} {v : Dword}
    {s t : State} {body : State → Result} (h : memWrite i regs cls ea n v s body = .next t) :
    (∃ rs, accessReals i regs cls .store ea n s = .ok rs ∧ body (s.stored rs v) = .next t) ∨
      ∃ c, t = takeInterrupt c s := by
  unfold memWrite at h
  split at h
  · exact .inr (Stop.outcome_cases h)
  · exact .inl ⟨_, ‹_›, h⟩

/-- A store whose access the checks allow. -/
theorem memWrite_of_ok {i : Instr} {regs : DsisrRegs} {cls : AccessClass} {ea : Dword} {n : Nat} {v : Dword}
    {s : State} {rs : List Dword} (h : accessReals i regs cls .store ea n s = .ok rs) (body : State → Result) :
    memWrite i regs cls ea n v s body = body (s.stored rs v) := by
  unfold memWrite; rw [h]

/-- Bytes whose translations all succeed, outside direct-store segments, are all reached. -/
theorem bytesReal_map {s : State} {cls : AccessClass} {kind : AccessKind} {as : List Dword} {f : Dword → Dword}
    (h : ∀ a ∈ as, byteReal s cls kind a = .ok (f a)) : bytesReal s cls kind as = .ok (as.map f) := by
  induction as with
  | nil => rfl
  | cons a as ih =>
    rw [bytesReal, h a (by simp), ih fun b hb => h b (by simp [hb])]
    rfl

/-- With translation off a byte is at its storage address. -/
theorem byteReal_untranslated {s : State} {kind : AccessKind} (h : s.relocates kind = false) (cls : AccessClass)
    (a : Dword) : byteReal s cls kind a = .ok (storageAddress s a) := by
  unfold byteReal
  rw [translate_untranslated h]
  cases cls <;> rfl

/-- When an implementation's choice for a case of R112 traps an access. -/
theorem choiceTraps_iff (c : AlignChoice) (i : Instr) (ea : Dword) (s : State) :
    choiceTraps c i ea s = true ↔
      c = .trap ∨ (c = .byAccess ∧ Config.alignTraps (encode i) ea s.msr = true) := by
  cases c <;> simp [choiceTraps]

/-- The first byte that fails stops the access. -/
theorem bytesReal_first {s : State} {cls : AccessClass} {kind : AccessKind} {as bs : List Dword} {a : Dword} {e : Stop}
    (h : ∀ b ∈ as, ∃ r, byteReal s cls kind b = .ok r) (ha : byteReal s cls kind a = .error e) :
    bytesReal s cls kind (as ++ a :: bs) = .error e := by
  induction as with
  | nil => rw [List.nil_append, bytesReal, ha]
  | cons b as ih =>
    obtain ⟨r, hr⟩ := h b (by simp)
    rw [List.cons_append, bytesReal, hr, ih fun c hc => h c (by simp [hc])]

/-- A misaligned operand the policy traps is stopped by the Alignment interrupt. -/
theorem accessReals_of_traps {i : Instr} {regs : DsisrRegs} {cls : AccessClass} {kind : AccessKind} {ea : Dword} {n : Nat}
    {s : State} (h : alignmentTraps i s cls kind (s.iea ea) n = true) :
    accessReals i regs cls kind ea n s = .error (.interrupt (alignmentCause i regs ea s)) := by
  rw [accessReals, if_pos h]

/-- Else its bytes decide: all of them, or what stopped one. -/
theorem accessReals_of_not_traps {i : Instr} {regs : DsisrRegs} {cls : AccessClass} {kind : AccessKind} {ea : Dword}
    {n : Nat} {s : State} (h : alignmentTraps i s cls kind (s.iea ea) n = false) :
    (∀ e, bytesReal s cls kind (operandBytes s ea n) = .error e → accessReals i regs cls kind ea n s = .error e) ∧
    (∀ rs, bytesReal s cls kind (operandBytes s ea n) = .ok rs →
      accessReals i regs cls kind ea n s = .ok (if s.msrBit msrLE then rs.reverse else rs)) := by
  constructor <;> intro x hx <;> rw [accessReals, if_neg (by simp [h]), hx]

/-- An instruction without an alternate form reports its own. -/
theorem reportedForm_of_none {c : Config} {i : Instr} (h : alternateForm i = none) : reportedForm c i = i := by
  rw [reportedForm, h]

/-! ## Floating point -/

/-- Steps 5 and 6 of `FPArith`: CR1, then the next instruction or the Program interrupt. -/
theorem fpFinish_cases {rc : Bool} {s t : State} (h : fpFinish rc s = .next t) :
    ((s.recordFp rc).fpEnabledException = false ∧ t = (s.recordFp rc).advance) ∨
      ((s.recordFp rc).fpEnabledException = true ∧ t = takeInterrupt (.program .fpEnabled) (s.recordFp rc)) := by
  unfold fpFinish at h
  dsimp only at h
  split at h
  · exact .inr ⟨‹_›, by simpa [interrupt] using h.symm⟩
  · rename_i hf
    exact .inl ⟨by simpa using hf, by simpa [completed] using h.symm⟩

/-- The reason of an exception is noted only where one occurred and there is an FPECR. -/
theorem withFpReason_fpecr_eq {s : State} {occurred : Bool} (h : occurred = false ∨ s.cfg.fpecrPresent = false) :
    (s.withFpReason occurred).fpecr = s.fpecr := by
  rcases h with h | h <;> simp [h]

/-- An interrupt leaves the FPECR alone, but for those of a floating-point exception where there is one. -/
theorem cause_fpecr_eq {c : Cause} {s : State} (h : c.floating = false ∨ s.cfg.fpecrPresent = false) :
    c.fpecr s = s.fpecr := by
  rcases h with h | h <;> simp [Cause.fpecr, h]

/-- Delivering a result: the FPSCR is what step 4 of R558 makes it, and every register but FRT, the FPSCR and the FPECR stays. -/
theorem delivering_shape (s : State) (frt : Fpr) (single : Bool) (r : FpResult) :
    (s.delivering frt single r).fpscr = (s.withFpResult frt single r).fpscr ∧
      (s.delivering frt single r).fpr = (s.withFpResult frt single r).fpr ∧
      { s.delivering frt single r with
        fpr := s.fpr, fprSingle := s.fprSingle, fpscr := s.fpscr, fpecr := s.fpecr, draws := s.draws } = s := by
  refine ⟨rfl, rfl, ?_⟩
  unfold State.delivering State.withFpResult
  cases r.value <;> rfl

/-- `fpFinish` always answers a next state. -/
theorem fpFinish_runs (rc : Bool) (s : State) : runs (fpFinish rc s) := by
  unfold fpFinish
  dsimp only
  split
  · exact ⟨_, rfl⟩
  · exact ⟨_, rfl⟩

/-! ## What is stored reads back -/

/-- A bit after one bit was replaced. -/
theorem bit_withBit {w : Nat} (x : BitVec w) {i j : Nat} (b : Bool) (hi : i < w) (hj : j < w) :
    bit (withBit x i b) j = if j = i then b else bit x j := by
  have hk : w - 1 - j < w := by omega
  by_cases hij : j = i
  · subst hij
    cases b <;> simp [bit, withBit, oneBit, BitVec.getMsbD, hj, hk]
  · have hne : ¬ w - 1 - j = w - 1 - i := by omega
    cases b <;> simp [bit, withBit, oneBit, BitVec.getMsbD, hj, hk, hij, hne]

/-- The VX bits do not depend on a bit that is none of them. -/
theorem fpInvalid_withBit (x : Word) (i : Nat) (b : Bool) (hi : i < 32) (hf : bit fpInvalidBits i = false) :
    withBit x i b &&& fpInvalidBits = x &&& fpInvalidBits := by
  apply BitVec.eq_of_getMsbD_eq
  intro j hj
  have h := bit_withBit x b hi hj
  simp only [bit] at h hf
  rw [BitVec.getMsbD_and, BitVec.getMsbD_and, h]
  split
  · subst_vars; simp [hf]
  · rfl

/-- Recomputing the summary bits twice is recomputing them once. -/
theorem fpscrSummed_idem (k : Config) (v : Word) : fpscrSummed k (fpscrSummed k v) = fpscrSummed k v := by
  have hvx : ∀ a b c : Bool,
      withBit (withBit (withBit v 20 a) 2 b) 1 c &&& fpInvalidBits = v &&& fpInvalidBits := by
    intro a b c
    rw [fpInvalid_withBit _ 1 c (by omega) (by decide), fpInvalid_withBit _ 2 b (by omega) (by decide),
      fpInvalid_withBit _ 20 a (by omega) (by decide)]
  have hbit : ∀ (a b c : Bool) (j : Nat), j < 32 → j ≠ 20 → j ≠ 2 → j ≠ 1 →
      bit (withBit (withBit (withBit v 20 a) 2 b) 1 c) j = bit v j := by
    intro a b c j hj h20 h2 h1
    rw [bit_withBit _ c (by omega) hj, if_neg h1, bit_withBit _ b (by omega) hj, if_neg h2,
      bit_withBit _ a (by omega) hj, if_neg h20]
  have h20 : ∀ a b c : Bool, bit (withBit (withBit (withBit v 20 a) 2 b) 1 c) 20 = a := by
    intro a b c
    rw [bit_withBit _ c (by omega) (by omega), if_neg (by omega), bit_withBit _ b (by omega) (by omega),
      if_neg (by omega), bit_withBit _ a (by omega) (by omega), if_pos rfl]
  have swap : ∀ a b c : Bool,
      withBit (withBit (withBit (withBit (withBit (withBit v 20 a) 2 b) 1 c) 20 a) 2 b) 1 c
        = withBit (withBit (withBit v 20 a) 2 b) 1 c := by
    intro a b c
    apply BitVec.eq_of_getMsbD_eq
    intro j hj
    change bit _ j = bit _ j
    simp only [bit_withBit _ _ (show 1 < 32 by omega) hj, bit_withBit _ _ (show 2 < 32 by omega) hj,
      bit_withBit _ _ (show 20 < 32 by omega) hj]
    split
    · rfl
    · split
      · rfl
      · split <;> rfl
  unfold fpscrSummed
  simp only [hvx, hbit _ _ _ 24 (by omega) (by omega) (by omega) (by omega),
    hbit _ _ _ 3 (by omega) (by omega) (by omega) (by omega),
    hbit _ _ _ 25 (by omega) (by omega) (by omega) (by omega),
    hbit _ _ _ 4 (by omega) (by omega) (by omega) (by omega),
    hbit _ _ _ 26 (by omega) (by omega) (by omega) (by omega),
    hbit _ _ _ 5 (by omega) (by omega) (by omega) (by omega),
    hbit _ _ _ 27 (by omega) (by omega) (by omega) (by omega),
    hbit _ _ _ 6 (by omega) (by omega) (by omega) (by omega),
    hbit _ _ _ 28 (by omega) (by omega) (by omega) (by omega), h20, Bool.and_self_left, swap]

/-- Storing twice through one mask is storing once. -/
theorem and_idem {w : Nat} (v m : BitVec w) : v &&& m &&& m = v &&& m := by
  rw [BitVec.and_assoc, BitVec.and_self]

/-- What the MSR holds is stored unchanged. -/
theorem msrStored_idem (c : Config) (v : Dword) : msrStored c (msrStored c v) = msrStored c v := and_idem _ _

/-- What the XER holds is stored unchanged. -/
theorem xerStored_idem (c : Config) (v : Word) : xerStored c (xerStored c v) = xerStored c v := and_idem _ _

/-- What the EAR holds is stored unchanged. -/
theorem earStored_idem (c : Config) (v : Word) : earStored c (earStored c v) = earStored c v := and_idem _ _

/-- Truncating an address to 32 bits twice is truncating it once. -/
theorem zext_lowWord_idem (v : Dword) : zext (lowWord (zext (lowWord v))) = zext (lowWord v) := by
  apply BitVec.eq_of_getLsbD_eq
  intro k hk
  by_cases h32 : k < 32 <;> simp [zext, lowWord, h32, hk]

/-- Truncating to 32 bits and clearing the low-order two bits commute. -/
theorem zext_lowWord_clear (x : Dword) : zext (lowWord (x &&& ~~~ 3#64)) = zext (lowWord x) &&& ~~~ 3#64 := by
  apply BitVec.eq_of_getLsbD_eq
  intro k hk
  simp only [zext, lowWord, BitVec.getLsbD_setWidth, BitVec.getLsbD_and]
  by_cases h32 : k < 32 <;> simp [h32, hk]

/-- An address as `pc` holds it is held unchanged. -/
theorem State.codeAddress_idem (s : State) (v : Dword) : s.codeAddress (s.codeAddress v) = s.codeAddress v := by
  unfold State.codeAddress State.iea
  split
  · exact and_idem _ _
  · rw [zext_lowWord_clear, zext_lowWord_idem, BitVec.and_assoc, BitVec.and_self]

end Sys2Proof.Machine
end

