-- ==== Sys2Proof/Laws/PerInstr.lean ====
section
/-! SUPPORT. For every instruction: its word falls in a row of the opcode map and has no reserved bit set. -/

namespace Sys2Proof.Laws.Encoded

/-- The word falls in a row of the opcode map (30_encoding.md R190 to R196), with its reserved bits 0 (R183). -/
def InRow (w : Word) : Prop := ∃ r, findRow w = some r ∧ r.reserved.all (fieldClear w) = true

/-- The encoded word of `i` falls in a row of the opcode map, with its reserved bits 0. -/
def Statement (i : Instr) : Prop := InRow (encode i)

/-- A CR field number, a reserved bit and L: the reserved bit is 0. -/
theorem fieldBfL_reserved (bf : CrField) (l : Bool) : slice (fieldBfL bf l) 3 1 = 0 := by
  unfold fieldBfL
  rw [slice_append_left _ _ _ _ (by omega), slice_append_right _ _ _ _ (by omega) (by omega)]
  rfl

/-- A CR field number and two reserved bits: they are 0. -/
theorem fieldBf_reserved (bf : CrField) : slice (fieldBf bf) 3 2 = 0 := by
  unfold fieldBf
  rw [slice_append_right _ _ _ _ (by omega) (by omega)]
  rfl

/-- The field of `mtfsfi` that holds U and a reserved bit. -/
theorem fieldU_reserved (u : BitVec 4) : slice (u ++ 0#1) 4 1 = 0 := by
  rw [slice_append_right _ _ _ _ (by omega) (by omega)]
  rfl

/-- The field of the Segment Register moves that holds a reserved bit and SR. -/
theorem fieldSr_reserved (sr : BitVec 4) : slice (0#1 ++ sr) 0 1 = 0 := by
  rw [slice_append_left _ _ _ _ (by omega)]
  rfl

theorem b (li : BitVec 24) (aa lk : Bool) : Statement (.b li aa lk) := by
  show InRow (encI 18#6 li aa lk)
  exact ⟨_, (by simp only [findRow, key, encI_slice_0_6]; rfl), (by rfl)⟩

theorem bc (bo : BitVec 5) (bi : CrBit) (bd : BitVec 14) (aa lk : Bool) : Statement (.bc bo bi bd aa lk) := by
  show InRow (encB 16#6 bo bi bd aa lk)
  exact ⟨_, (by simp only [findRow, key, encB_slice_0_6]; rfl), (by rfl)⟩

theorem bclr (bo : BitVec 5) (bi : CrBit) (lk : Bool) : Statement (.bclr bo bi lk) := by
  show InRow (encX 19#6 bo bi 0 16#10 lk)
  exact ⟨_, (by simp only [findRow, key, encX_slice_0_6, encX_slice_21_10]; rfl), (by simp only [List.all_cons, List.all_nil, fieldClear, encX_slice_16_5]; rfl)⟩

theorem bcctr (bo : BitVec 5) (bi : CrBit) (lk : Bool) : Statement (.bcctr bo bi lk) := by
  show InRow (encX 19#6 bo bi 0 528#10 lk)
  exact ⟨_, (by simp only [findRow, key, encX_slice_0_6, encX_slice_21_10]; rfl), (by simp only [List.all_cons, List.all_nil, fieldClear, encX_slice_16_5]; rfl)⟩

theorem sc : Statement (.sc) := by
  exact ⟨rowSc, rfl, rfl⟩

theorem crand (bt ba bb : CrBit) : Statement (.crand bt ba bb) := by
  show InRow (encX 19#6 bt ba bb 257#10 false)
  exact ⟨_, (by simp only [findRow, key, encX_slice_0_6, encX_slice_21_10]; rfl), (by simp only [List.all_cons, List.all_nil, fieldClear, encX_slice_31_1]; rfl)⟩

theorem cror (bt ba bb : CrBit) : Statement (.cror bt ba bb) := by
  show InRow (encX 19#6 bt ba bb 449#10 false)
  exact ⟨_, (by simp only [findRow, key, encX_slice_0_6, encX_slice_21_10]; rfl), (by simp only [List.all_cons, List.all_nil, fieldClear, encX_slice_31_1]; rfl)⟩

theorem crxor (bt ba bb : CrBit) : Statement (.crxor bt ba bb) := by
  show InRow (encX 19#6 bt ba bb 193#10 false)
  exact ⟨_, (by simp only [findRow, key, encX_slice_0_6, encX_slice_21_10]; rfl), (by simp only [List.all_cons, List.all_nil, fieldClear, encX_slice_31_1]; rfl)⟩

theorem crnand (bt ba bb : CrBit) : Statement (.crnand bt ba bb) := by
  show InRow (encX 19#6 bt ba bb 225#10 false)
  exact ⟨_, (by simp only [findRow, key, encX_slice_0_6, encX_slice_21_10]; rfl), (by simp only [List.all_cons, List.all_nil, fieldClear, encX_slice_31_1]; rfl)⟩

theorem crnor (bt ba bb : CrBit) : Statement (.crnor bt ba bb) := by
  show InRow (encX 19#6 bt ba bb 33#10 false)
  exact ⟨_, (by simp only [findRow, key, encX_slice_0_6, encX_slice_21_10]; rfl), (by simp only [List.all_cons, List.all_nil, fieldClear, encX_slice_31_1]; rfl)⟩

theorem creqv (bt ba bb : CrBit) : Statement (.creqv bt ba bb) := by
  show InRow (encX 19#6 bt ba bb 289#10 false)
  exact ⟨_, (by simp only [findRow, key, encX_slice_0_6, encX_slice_21_10]; rfl), (by simp only [List.all_cons, List.all_nil, fieldClear, encX_slice_31_1]; rfl)⟩

theorem crandc (bt ba bb : CrBit) : Statement (.crandc bt ba bb) := by
  show InRow (encX 19#6 bt ba bb 129#10 false)
  exact ⟨_, (by simp only [findRow, key, encX_slice_0_6, encX_slice_21_10]; rfl), (by simp only [List.all_cons, List.all_nil, fieldClear, encX_slice_31_1]; rfl)⟩

theorem crorc (bt ba bb : CrBit) : Statement (.crorc bt ba bb) := by
  show InRow (encX 19#6 bt ba bb 417#10 false)
  exact ⟨_, (by simp only [findRow, key, encX_slice_0_6, encX_slice_21_10]; rfl), (by simp only [List.all_cons, List.all_nil, fieldClear, encX_slice_31_1]; rfl)⟩

theorem mcrf (bf bfa : CrField) : Statement (.mcrf bf bfa) := by
  show InRow (encX 19#6 (fieldBf bf) (fieldBf bfa) 0 0#10 false)
  exact ⟨_, (by simp only [findRow, key, encX_slice_0_6, encX_slice_21_10]; rfl), (by simp only [List.all_cons, List.all_nil, fieldClear, encX_slice_9_2, encX_slice_14_2, encX_slice_16_5, encX_slice_31_1, fieldBf_reserved]; rfl)⟩

theorem lbz (rt : Gpr) (d : BitVec 16) (ra : Gpr) : Statement (.lbz rt d ra) := by
  show InRow (encD 34#6 rt ra d)
  exact ⟨_, (by simp only [findRow, key, encD_slice_0_6]; rfl), (by rfl)⟩

theorem lbzu (rt : Gpr) (d : BitVec 16) (ra : Gpr) : Statement (.lbzu rt d ra) := by
  show InRow (encD 35#6 rt ra d)
  exact ⟨_, (by simp only [findRow, key, encD_slice_0_6]; rfl), (by rfl)⟩

theorem lbzx (rt ra rb : Gpr) : Statement (.lbzx rt ra rb) := by
  show InRow (encX 31#6 rt ra rb 87#10 false)
  exact ⟨_, (by simp only [findRow, key, encX_slice_0_6, encX_slice_21_10, encX_slice_22_9]; rfl), (by simp only [List.all_cons, List.all_nil, fieldClear, encX_slice_31_1]; rfl)⟩

theorem lbzux (rt ra rb : Gpr) : Statement (.lbzux rt ra rb) := by
  show InRow (encX 31#6 rt ra rb 119#10 false)
  exact ⟨_, (by simp only [findRow, key, encX_slice_0_6, encX_slice_21_10, encX_slice_22_9]; rfl), (by simp only [List.all_cons, List.all_nil, fieldClear, encX_slice_31_1]; rfl)⟩

theorem lhz (rt : Gpr) (d : BitVec 16) (ra : Gpr) : Statement (.lhz rt d ra) := by
  show InRow (encD 40#6 rt ra d)
  exact ⟨_, (by simp only [findRow, key, encD_slice_0_6]; rfl), (by rfl)⟩

theorem lhzu (rt : Gpr) (d : BitVec 16) (ra : Gpr) : Statement (.lhzu rt d ra) := by
  show InRow (encD 41#6 rt ra d)
  exact ⟨_, (by simp only [findRow, key, encD_slice_0_6]; rfl), (by rfl)⟩

theorem lhzx (rt ra rb : Gpr) : Statement (.lhzx rt ra rb) := by
  show InRow (encX 31#6 rt ra rb 279#10 false)
  exact ⟨_, (by simp only [findRow, key, encX_slice_0_6, encX_slice_21_10, encX_slice_22_9]; rfl), (by simp only [List.all_cons, List.all_nil, fieldClear, encX_slice_31_1]; rfl)⟩

theorem lhzux (rt ra rb : Gpr) : Statement (.lhzux rt ra rb) := by
  show InRow (encX 31#6 rt ra rb 311#10 false)
  exact ⟨_, (by simp only [findRow, key, encX_slice_0_6, encX_slice_21_10, encX_slice_22_9]; rfl), (by simp only [List.all_cons, List.all_nil, fieldClear, encX_slice_31_1]; rfl)⟩

theorem lha (rt : Gpr) (d : BitVec 16) (ra : Gpr) : Statement (.lha rt d ra) := by
  show InRow (encD 42#6 rt ra d)
  exact ⟨_, (by simp only [findRow, key, encD_slice_0_6]; rfl), (by rfl)⟩

theorem lhau (rt : Gpr) (d : BitVec 16) (ra : Gpr) : Statement (.lhau rt d ra) := by
  show InRow (encD 43#6 rt ra d)
  exact ⟨_, (by simp only [findRow, key, encD_slice_0_6]; rfl), (by rfl)⟩

theorem lhax (rt ra rb : Gpr) : Statement (.lhax rt ra rb) := by
  show InRow (encX 31#6 rt ra rb 343#10 false)
  exact ⟨_, (by simp only [findRow, key, encX_slice_0_6, encX_slice_21_10, encX_slice_22_9]; rfl), (by simp only [List.all_cons, List.all_nil, fieldClear, encX_slice_31_1]; rfl)⟩

theorem lhaux (rt ra rb : Gpr) : Statement (.lhaux rt ra rb) := by
  show InRow (encX 31#6 rt ra rb 375#10 false)
  exact ⟨_, (by simp only [findRow, key, encX_slice_0_6, encX_slice_21_10, encX_slice_22_9]; rfl), (by simp only [List.all_cons, List.all_nil, fieldClear, encX_slice_31_1]; rfl)⟩

theorem lwz (rt : Gpr) (d : BitVec 16) (ra : Gpr) : Statement (.lwz rt d ra) := by
  show InRow (encD 32#6 rt ra d)
  exact ⟨_, (by simp only [findRow, key, encD_slice_0_6]; rfl), (by rfl)⟩

theorem lwzu (rt : Gpr) (d : BitVec 16) (ra : Gpr) : Statement (.lwzu rt d ra) := by
  show InRow (encD 33#6 rt ra d)
  exact ⟨_, (by simp only [findRow, key, encD_slice_0_6]; rfl), (by rfl)⟩

theorem lwzx (rt ra rb : Gpr) : Statement (.lwzx rt ra rb) := by
  show InRow (encX 31#6 rt ra rb 23#10 false)
  exact ⟨_, (by simp only [findRow, key, encX_slice_0_6, encX_slice_21_10, encX_slice_22_9]; rfl), (by simp only [List.all_cons, List.all_nil, fieldClear, encX_slice_31_1]; rfl)⟩

theorem lwzux (rt ra rb : Gpr) : Statement (.lwzux rt ra rb) := by
  show InRow (encX 31#6 rt ra rb 55#10 false)
  exact ⟨_, (by simp only [findRow, key, encX_slice_0_6, encX_slice_21_10, encX_slice_22_9]; rfl), (by simp only [List.all_cons, List.all_nil, fieldClear, encX_slice_31_1]; rfl)⟩

theorem lwa (rt : Gpr) (ds : BitVec 14) (ra : Gpr) : Statement (.lwa rt ds ra) := by
  show InRow (encDS 58#6 rt ra ds 2#2)
  exact ⟨_, (by simp only [findRow, key, encDS_slice_0_6, encDS_slice_30_2]; rfl), (by rfl)⟩

theorem lwax (rt ra rb : Gpr) : Statement (.lwax rt ra rb) := by
  show InRow (encX 31#6 rt ra rb 341#10 false)
  exact ⟨_, (by simp only [findRow, key, encX_slice_0_6, encX_slice_21_10, encX_slice_22_9]; rfl), (by simp only [List.all_cons, List.all_nil, fieldClear, encX_slice_31_1]; rfl)⟩

theorem lwaux (rt ra rb : Gpr) : Statement (.lwaux rt ra rb) := by
  show InRow (encX 31#6 rt ra rb 373#10 false)
  exact ⟨_, (by simp only [findRow, key, encX_slice_0_6, encX_slice_21_10, encX_slice_22_9]; rfl), (by simp only [List.all_cons, List.all_nil, fieldClear, encX_slice_31_1]; rfl)⟩

theorem ld (rt : Gpr) (ds : BitVec 14) (ra : Gpr) : Statement (.ld rt ds ra) := by
  show InRow (encDS 58#6 rt ra ds 0#2)
  exact ⟨_, (by simp only [findRow, key, encDS_slice_0_6, encDS_slice_30_2]; rfl), (by rfl)⟩

theorem ldu (rt : Gpr) (ds : BitVec 14) (ra : Gpr) : Statement (.ldu rt ds ra) := by
  show InRow (encDS 58#6 rt ra ds 1#2)
  exact ⟨_, (by simp only [findRow, key, encDS_slice_0_6, encDS_slice_30_2]; rfl), (by rfl)⟩

theorem ldx (rt ra rb : Gpr) : Statement (.ldx rt ra rb) := by
  show InRow (encX 31#6 rt ra rb 21#10 false)
  exact ⟨_, (by simp only [findRow, key, encX_slice_0_6, encX_slice_21_10, encX_slice_22_9]; rfl), (by simp only [List.all_cons, List.all_nil, fieldClear, encX_slice_31_1]; rfl)⟩

theorem ldux (rt ra rb : Gpr) : Statement (.ldux rt ra rb) := by
  show InRow (encX 31#6 rt ra rb 53#10 false)
  exact ⟨_, (by simp only [findRow, key, encX_slice_0_6, encX_slice_21_10, encX_slice_22_9]; rfl), (by simp only [List.all_cons, List.all_nil, fieldClear, encX_slice_31_1]; rfl)⟩

theorem stb (rs : Gpr) (d : BitVec 16) (ra : Gpr) : Statement (.stb rs d ra) := by
  show InRow (encD 38#6 rs ra d)
  exact ⟨_, (by simp only [findRow, key, encD_slice_0_6]; rfl), (by rfl)⟩

theorem stbu (rs : Gpr) (d : BitVec 16) (ra : Gpr) : Statement (.stbu rs d ra) := by
  show InRow (encD 39#6 rs ra d)
  exact ⟨_, (by simp only [findRow, key, encD_slice_0_6]; rfl), (by rfl)⟩

theorem stbx (rs ra rb : Gpr) : Statement (.stbx rs ra rb) := by
  show InRow (encX 31#6 rs ra rb 215#10 false)
  exact ⟨_, (by simp only [findRow, key, encX_slice_0_6, encX_slice_21_10, encX_slice_22_9]; rfl), (by simp only [List.all_cons, List.all_nil, fieldClear, encX_slice_31_1]; rfl)⟩

theorem stbux (rs ra rb : Gpr) : Statement (.stbux rs ra rb) := by
  show InRow (encX 31#6 rs ra rb 247#10 false)
  exact ⟨_, (by simp only [findRow, key, encX_slice_0_6, encX_slice_21_10, encX_slice_22_9]; rfl), (by simp only [List.all_cons, List.all_nil, fieldClear, encX_slice_31_1]; rfl)⟩

theorem sth (rs : Gpr) (d : BitVec 16) (ra : Gpr) : Statement (.sth rs d ra) := by
  show InRow (encD 44#6 rs ra d)
  exact ⟨_, (by simp only [findRow, key, encD_slice_0_6]; rfl), (by rfl)⟩

theorem sthu (rs : Gpr) (d : BitVec 16) (ra : Gpr) : Statement (.sthu rs d ra) := by
  show InRow (encD 45#6 rs ra d)
  exact ⟨_, (by simp only [findRow, key, encD_slice_0_6]; rfl), (by rfl)⟩

theorem sthx (rs ra rb : Gpr) : Statement (.sthx rs ra rb) := by
  show InRow (encX 31#6 rs ra rb 407#10 false)
  exact ⟨_, (by simp only [findRow, key, encX_slice_0_6, encX_slice_21_10, encX_slice_22_9]; rfl), (by simp only [List.all_cons, List.all_nil, fieldClear, encX_slice_31_1]; rfl)⟩

theorem sthux (rs ra rb : Gpr) : Statement (.sthux rs ra rb) := by
  show InRow (encX 31#6 rs ra rb 439#10 false)
  exact ⟨_, (by simp only [findRow, key, encX_slice_0_6, encX_slice_21_10, encX_slice_22_9]; rfl), (by simp only [List.all_cons, List.all_nil, fieldClear, encX_slice_31_1]; rfl)⟩

theorem stw (rs : Gpr) (d : BitVec 16) (ra : Gpr) : Statement (.stw rs d ra) := by
  show InRow (encD 36#6 rs ra d)
  exact ⟨_, (by simp only [findRow, key, encD_slice_0_6]; rfl), (by rfl)⟩

theorem stwu (rs : Gpr) (d : BitVec 16) (ra : Gpr) : Statement (.stwu rs d ra) := by
  show InRow (encD 37#6 rs ra d)
  exact ⟨_, (by simp only [findRow, key, encD_slice_0_6]; rfl), (by rfl)⟩

theorem stwx (rs ra rb : Gpr) : Statement (.stwx rs ra rb) := by
  show InRow (encX 31#6 rs ra rb 151#10 false)
  exact ⟨_, (by simp only [findRow, key, encX_slice_0_6, encX_slice_21_10, encX_slice_22_9]; rfl), (by simp only [List.all_cons, List.all_nil, fieldClear, encX_slice_31_1]; rfl)⟩

theorem stwux (rs ra rb : Gpr) : Statement (.stwux rs ra rb) := by
  show InRow (encX 31#6 rs ra rb 183#10 false)
  exact ⟨_, (by simp only [findRow, key, encX_slice_0_6, encX_slice_21_10, encX_slice_22_9]; rfl), (by simp only [List.all_cons, List.all_nil, fieldClear, encX_slice_31_1]; rfl)⟩

theorem std (rs : Gpr) (ds : BitVec 14) (ra : Gpr) : Statement (.std rs ds ra) := by
  show InRow (encDS 62#6 rs ra ds 0#2)
  exact ⟨_, (by simp only [findRow, key, encDS_slice_0_6, encDS_slice_30_2]; rfl), (by rfl)⟩

theorem stdu (rs : Gpr) (ds : BitVec 14) (ra : Gpr) : Statement (.stdu rs ds ra) := by
  show InRow (encDS 62#6 rs ra ds 1#2)
  exact ⟨_, (by simp only [findRow, key, encDS_slice_0_6, encDS_slice_30_2]; rfl), (by rfl)⟩

theorem stdx (rs ra rb : Gpr) : Statement (.stdx rs ra rb) := by
  show InRow (encX 31#6 rs ra rb 149#10 false)
  exact ⟨_, (by simp only [findRow, key, encX_slice_0_6, encX_slice_21_10, encX_slice_22_9]; rfl), (by simp only [List.all_cons, List.all_nil, fieldClear, encX_slice_31_1]; rfl)⟩

theorem stdux (rs ra rb : Gpr) : Statement (.stdux rs ra rb) := by
  show InRow (encX 31#6 rs ra rb 181#10 false)
  exact ⟨_, (by simp only [findRow, key, encX_slice_0_6, encX_slice_21_10, encX_slice_22_9]; rfl), (by simp only [List.all_cons, List.all_nil, fieldClear, encX_slice_31_1]; rfl)⟩

theorem lhbrx (rt ra rb : Gpr) : Statement (.lhbrx rt ra rb) := by
  show InRow (encX 31#6 rt ra rb 790#10 false)
  exact ⟨_, (by simp only [findRow, key, encX_slice_0_6, encX_slice_21_10, encX_slice_22_9]; rfl), (by simp only [List.all_cons, List.all_nil, fieldClear, encX_slice_31_1]; rfl)⟩

theorem lwbrx (rt ra rb : Gpr) : Statement (.lwbrx rt ra rb) := by
  show InRow (encX 31#6 rt ra rb 534#10 false)
  exact ⟨_, (by simp only [findRow, key, encX_slice_0_6, encX_slice_21_10, encX_slice_22_9]; rfl), (by simp only [List.all_cons, List.all_nil, fieldClear, encX_slice_31_1]; rfl)⟩

theorem sthbrx (rs ra rb : Gpr) : Statement (.sthbrx rs ra rb) := by
  show InRow (encX 31#6 rs ra rb 918#10 false)
  exact ⟨_, (by simp only [findRow, key, encX_slice_0_6, encX_slice_21_10, encX_slice_22_9]; rfl), (by simp only [List.all_cons, List.all_nil, fieldClear, encX_slice_31_1]; rfl)⟩

theorem stwbrx (rs ra rb : Gpr) : Statement (.stwbrx rs ra rb) := by
  show InRow (encX 31#6 rs ra rb 662#10 false)
  exact ⟨_, (by simp only [findRow, key, encX_slice_0_6, encX_slice_21_10, encX_slice_22_9]; rfl), (by simp only [List.all_cons, List.all_nil, fieldClear, encX_slice_31_1]; rfl)⟩

theorem lmw (rt : Gpr) (d : BitVec 16) (ra : Gpr) : Statement (.lmw rt d ra) := by
  show InRow (encD 46#6 rt ra d)
  exact ⟨_, (by simp only [findRow, key, encD_slice_0_6]; rfl), (by rfl)⟩

theorem stmw (rs : Gpr) (d : BitVec 16) (ra : Gpr) : Statement (.stmw rs d ra) := by
  show InRow (encD 47#6 rs ra d)
  exact ⟨_, (by simp only [findRow, key, encD_slice_0_6]; rfl), (by rfl)⟩

theorem lswi (rt ra : Gpr) (nb : BitVec 5) : Statement (.lswi rt ra nb) := by
  show InRow (encX 31#6 rt ra nb 597#10 false)
  exact ⟨_, (by simp only [findRow, key, encX_slice_0_6, encX_slice_21_10, encX_slice_22_9]; rfl), (by simp only [List.all_cons, List.all_nil, fieldClear, encX_slice_31_1]; rfl)⟩

theorem lswx (rt ra rb : Gpr) : Statement (.lswx rt ra rb) := by
  show InRow (encX 31#6 rt ra rb 533#10 false)
  exact ⟨_, (by simp only [findRow, key, encX_slice_0_6, encX_slice_21_10, encX_slice_22_9]; rfl), (by simp only [List.all_cons, List.all_nil, fieldClear, encX_slice_31_1]; rfl)⟩

theorem stswi (rs ra : Gpr) (nb : BitVec 5) : Statement (.stswi rs ra nb) := by
  show InRow (encX 31#6 rs ra nb 725#10 false)
  exact ⟨_, (by simp only [findRow, key, encX_slice_0_6, encX_slice_21_10, encX_slice_22_9]; rfl), (by simp only [List.all_cons, List.all_nil, fieldClear, encX_slice_31_1]; rfl)⟩

theorem stswx (rs ra rb : Gpr) : Statement (.stswx rs ra rb) := by
  show InRow (encX 31#6 rs ra rb 661#10 false)
  exact ⟨_, (by simp only [findRow, key, encX_slice_0_6, encX_slice_21_10, encX_slice_22_9]; rfl), (by simp only [List.all_cons, List.all_nil, fieldClear, encX_slice_31_1]; rfl)⟩

theorem lwarx (rt ra rb : Gpr) : Statement (.lwarx rt ra rb) := by
  show InRow (encX 31#6 rt ra rb 20#10 false)
  exact ⟨_, (by simp only [findRow, key, encX_slice_0_6, encX_slice_21_10, encX_slice_22_9]; rfl), (by simp only [List.all_cons, List.all_nil, fieldClear, encX_slice_31_1]; rfl)⟩

theorem ldarx (rt ra rb : Gpr) : Statement (.ldarx rt ra rb) := by
  show InRow (encX 31#6 rt ra rb 84#10 false)
  exact ⟨_, (by simp only [findRow, key, encX_slice_0_6, encX_slice_21_10, encX_slice_22_9]; rfl), (by simp only [List.all_cons, List.all_nil, fieldClear, encX_slice_31_1]; rfl)⟩

theorem stwcxDot (rs ra rb : Gpr) : Statement (.stwcxDot rs ra rb) := by
  show InRow (encX 31#6 rs ra rb 150#10 true)
  exact ⟨_, (by simp only [findRow, key, encX_slice_0_6, encX_slice_21_10, encX_slice_22_9, encX_bit_31]; rfl), (by rfl)⟩

theorem stdcxDot (rs ra rb : Gpr) : Statement (.stdcxDot rs ra rb) := by
  show InRow (encX 31#6 rs ra rb 214#10 true)
  exact ⟨_, (by simp only [findRow, key, encX_slice_0_6, encX_slice_21_10, encX_slice_22_9, encX_bit_31]; rfl), (by rfl)⟩

theorem sync : Statement (.sync) := by
  show InRow (encX 31#6 0 0 0 598#10 false)
  exact ⟨_, (by simp only [findRow, key, encX_slice_0_6, encX_slice_21_10, encX_slice_22_9]; rfl), (by simp only [List.all_cons, List.all_nil, fieldClear, encX_slice_6_3, encX_slice_9_2, encX_slice_11_1, encX_slice_12_2, encX_slice_14_2, encX_slice_16_4, encX_slice_20_1, encX_slice_31_1]; rfl)⟩

theorem addi (rt ra : Gpr) (si : BitVec 16) : Statement (.addi rt ra si) := by
  show InRow (encD 14#6 rt ra si)
  exact ⟨_, (by simp only [findRow, key, encD_slice_0_6]; rfl), (by rfl)⟩

theorem addis (rt ra : Gpr) (si : BitVec 16) : Statement (.addis rt ra si) := by
  show InRow (encD 15#6 rt ra si)
  exact ⟨_, (by simp only [findRow, key, encD_slice_0_6]; rfl), (by rfl)⟩

theorem add (rt ra rb : Gpr) (oe rc : Bool) : Statement (.add rt ra rb oe rc) := by
  show InRow (encXO rt ra rb oe 266#9 rc)
  cases oe <;>
  exact ⟨_, (by simp only [findRow, key, encXO_slice_0_6, encXO_slice_21_10, encXO_slice_22_9]; rfl), (by rfl)⟩

theorem subf (rt ra rb : Gpr) (oe rc : Bool) : Statement (.subf rt ra rb oe rc) := by
  show InRow (encXO rt ra rb oe 40#9 rc)
  cases oe <;>
  exact ⟨_, (by simp only [findRow, key, encXO_slice_0_6, encXO_slice_21_10, encXO_slice_22_9]; rfl), (by rfl)⟩

theorem addic (rt ra : Gpr) (si : BitVec 16) : Statement (.addic rt ra si) := by
  show InRow (encD 12#6 rt ra si)
  exact ⟨_, (by simp only [findRow, key, encD_slice_0_6]; rfl), (by rfl)⟩

theorem addicDot (rt ra : Gpr) (si : BitVec 16) : Statement (.addicDot rt ra si) := by
  show InRow (encD 13#6 rt ra si)
  exact ⟨_, (by simp only [findRow, key, encD_slice_0_6]; rfl), (by rfl)⟩

theorem subfic (rt ra : Gpr) (si : BitVec 16) : Statement (.subfic rt ra si) := by
  show InRow (encD 8#6 rt ra si)
  exact ⟨_, (by simp only [findRow, key, encD_slice_0_6]; rfl), (by rfl)⟩

theorem addc (rt ra rb : Gpr) (oe rc : Bool) : Statement (.addc rt ra rb oe rc) := by
  show InRow (encXO rt ra rb oe 10#9 rc)
  cases oe <;>
  exact ⟨_, (by simp only [findRow, key, encXO_slice_0_6, encXO_slice_21_10, encXO_slice_22_9]; rfl), (by rfl)⟩

theorem subfc (rt ra rb : Gpr) (oe rc : Bool) : Statement (.subfc rt ra rb oe rc) := by
  show InRow (encXO rt ra rb oe 8#9 rc)
  cases oe <;>
  exact ⟨_, (by simp only [findRow, key, encXO_slice_0_6, encXO_slice_21_10, encXO_slice_22_9]; rfl), (by rfl)⟩

theorem adde (rt ra rb : Gpr) (oe rc : Bool) : Statement (.adde rt ra rb oe rc) := by
  show InRow (encXO rt ra rb oe 138#9 rc)
  cases oe <;>
  exact ⟨_, (by simp only [findRow, key, encXO_slice_0_6, encXO_slice_21_10, encXO_slice_22_9]; rfl), (by rfl)⟩

theorem subfe (rt ra rb : Gpr) (oe rc : Bool) : Statement (.subfe rt ra rb oe rc) := by
  show InRow (encXO rt ra rb oe 136#9 rc)
  cases oe <;>
  exact ⟨_, (by simp only [findRow, key, encXO_slice_0_6, encXO_slice_21_10, encXO_slice_22_9]; rfl), (by rfl)⟩

theorem addme (rt ra : Gpr) (oe rc : Bool) : Statement (.addme rt ra oe rc) := by
  show InRow (encXO rt ra 0 oe 234#9 rc)
  cases oe <;>
  exact ⟨_, (by simp only [findRow, key, encXO_slice_0_6, encXO_slice_21_10, encXO_slice_22_9]; rfl), (by simp only [List.all_cons, List.all_nil, fieldClear, encXO_slice_16_5]; rfl)⟩

theorem subfme (rt ra : Gpr) (oe rc : Bool) : Statement (.subfme rt ra oe rc) := by
  show InRow (encXO rt ra 0 oe 232#9 rc)
  cases oe <;>
  exact ⟨_, (by simp only [findRow, key, encXO_slice_0_6, encXO_slice_21_10, encXO_slice_22_9]; rfl), (by simp only [List.all_cons, List.all_nil, fieldClear, encXO_slice_16_5]; rfl)⟩

theorem addze (rt ra : Gpr) (oe rc : Bool) : Statement (.addze rt ra oe rc) := by
  show InRow (encXO rt ra 0 oe 202#9 rc)
  cases oe <;>
  exact ⟨_, (by simp only [findRow, key, encXO_slice_0_6, encXO_slice_21_10, encXO_slice_22_9]; rfl), (by simp only [List.all_cons, List.all_nil, fieldClear, encXO_slice_16_5]; rfl)⟩

theorem subfze (rt ra : Gpr) (oe rc : Bool) : Statement (.subfze rt ra oe rc) := by
  show InRow (encXO rt ra 0 oe 200#9 rc)
  cases oe <;>
  exact ⟨_, (by simp only [findRow, key, encXO_slice_0_6, encXO_slice_21_10, encXO_slice_22_9]; rfl), (by simp only [List.all_cons, List.all_nil, fieldClear, encXO_slice_16_5]; rfl)⟩

theorem neg (rt ra : Gpr) (oe rc : Bool) : Statement (.neg rt ra oe rc) := by
  show InRow (encXO rt ra 0 oe 104#9 rc)
  cases oe <;>
  exact ⟨_, (by simp only [findRow, key, encXO_slice_0_6, encXO_slice_21_10, encXO_slice_22_9]; rfl), (by simp only [List.all_cons, List.all_nil, fieldClear, encXO_slice_16_5]; rfl)⟩

theorem mulli (rt ra : Gpr) (si : BitVec 16) : Statement (.mulli rt ra si) := by
  show InRow (encD 7#6 rt ra si)
  exact ⟨_, (by simp only [findRow, key, encD_slice_0_6]; rfl), (by rfl)⟩

theorem mulld (rt ra rb : Gpr) (oe rc : Bool) : Statement (.mulld rt ra rb oe rc) := by
  show InRow (encXO rt ra rb oe 233#9 rc)
  cases oe <;>
  exact ⟨_, (by simp only [findRow, key, encXO_slice_0_6, encXO_slice_21_10, encXO_slice_22_9]; rfl), (by rfl)⟩

theorem mullw (rt ra rb : Gpr) (oe rc : Bool) : Statement (.mullw rt ra rb oe rc) := by
  show InRow (encXO rt ra rb oe 235#9 rc)
  cases oe <;>
  exact ⟨_, (by simp only [findRow, key, encXO_slice_0_6, encXO_slice_21_10, encXO_slice_22_9]; rfl), (by rfl)⟩

theorem mulhd (rt ra rb : Gpr) (rc : Bool) : Statement (.mulhd rt ra rb rc) := by
  show InRow (encXO rt ra rb false 73#9 rc)
  exact ⟨_, (by simp only [findRow, key, encXO_slice_0_6, encXO_slice_21_10, encXO_slice_22_9]; rfl), (by simp only [List.all_cons, List.all_nil, fieldClear, encXO_slice_21_1]; rfl)⟩

theorem mulhw (rt ra rb : Gpr) (rc : Bool) : Statement (.mulhw rt ra rb rc) := by
  show InRow (encXO rt ra rb false 75#9 rc)
  exact ⟨_, (by simp only [findRow, key, encXO_slice_0_6, encXO_slice_21_10, encXO_slice_22_9]; rfl), (by simp only [List.all_cons, List.all_nil, fieldClear, encXO_slice_21_1]; rfl)⟩

theorem mulhdu (rt ra rb : Gpr) (rc : Bool) : Statement (.mulhdu rt ra rb rc) := by
  show InRow (encXO rt ra rb false 9#9 rc)
  exact ⟨_, (by simp only [findRow, key, encXO_slice_0_6, encXO_slice_21_10, encXO_slice_22_9]; rfl), (by simp only [List.all_cons, List.all_nil, fieldClear, encXO_slice_21_1]; rfl)⟩

theorem mulhwu (rt ra rb : Gpr) (rc : Bool) : Statement (.mulhwu rt ra rb rc) := by
  show InRow (encXO rt ra rb false 11#9 rc)
  exact ⟨_, (by simp only [findRow, key, encXO_slice_0_6, encXO_slice_21_10, encXO_slice_22_9]; rfl), (by simp only [List.all_cons, List.all_nil, fieldClear, encXO_slice_21_1]; rfl)⟩

theorem divd (rt ra rb : Gpr) (oe rc : Bool) : Statement (.divd rt ra rb oe rc) := by
  show InRow (encXO rt ra rb oe 489#9 rc)
  cases oe <;>
  exact ⟨_, (by simp only [findRow, key, encXO_slice_0_6, encXO_slice_21_10, encXO_slice_22_9]; rfl), (by rfl)⟩

theorem divw (rt ra rb : Gpr) (oe rc : Bool) : Statement (.divw rt ra rb oe rc) := by
  show InRow (encXO rt ra rb oe 491#9 rc)
  cases oe <;>
  exact ⟨_, (by simp only [findRow, key, encXO_slice_0_6, encXO_slice_21_10, encXO_slice_22_9]; rfl), (by rfl)⟩

theorem divdu (rt ra rb : Gpr) (oe rc : Bool) : Statement (.divdu rt ra rb oe rc) := by
  show InRow (encXO rt ra rb oe 457#9 rc)
  cases oe <;>
  exact ⟨_, (by simp only [findRow, key, encXO_slice_0_6, encXO_slice_21_10, encXO_slice_22_9]; rfl), (by rfl)⟩

theorem divwu (rt ra rb : Gpr) (oe rc : Bool) : Statement (.divwu rt ra rb oe rc) := by
  show InRow (encXO rt ra rb oe 459#9 rc)
  cases oe <;>
  exact ⟨_, (by simp only [findRow, key, encXO_slice_0_6, encXO_slice_21_10, encXO_slice_22_9]; rfl), (by rfl)⟩

theorem cmpi (bf : CrField) (l : Bool) (ra : Gpr) (si : BitVec 16) : Statement (.cmpi bf l ra si) := by
  show InRow (encD 11#6 (fieldBfL bf l) ra si)
  exact ⟨_, (by simp only [findRow, key, encD_slice_0_6]; rfl), (by simp only [List.all_cons, List.all_nil, fieldClear, encD_slice_9_1, fieldBfL_reserved]; rfl)⟩

theorem cmp (bf : CrField) (l : Bool) (ra rb : Gpr) : Statement (.cmp bf l ra rb) := by
  show InRow (encX 31#6 (fieldBfL bf l) ra rb 0#10 false)
  exact ⟨_, (by simp only [findRow, key, encX_slice_0_6, encX_slice_21_10, encX_slice_22_9]; rfl), (by simp only [List.all_cons, List.all_nil, fieldClear, encX_slice_9_1, encX_slice_31_1, fieldBfL_reserved]; rfl)⟩

theorem cmpli (bf : CrField) (l : Bool) (ra : Gpr) (ui : BitVec 16) : Statement (.cmpli bf l ra ui) := by
  show InRow (encD 10#6 (fieldBfL bf l) ra ui)
  exact ⟨_, (by simp only [findRow, key, encD_slice_0_6]; rfl), (by simp only [List.all_cons, List.all_nil, fieldClear, encD_slice_9_1, fieldBfL_reserved]; rfl)⟩

theorem cmpl (bf : CrField) (l : Bool) (ra rb : Gpr) : Statement (.cmpl bf l ra rb) := by
  show InRow (encX 31#6 (fieldBfL bf l) ra rb 32#10 false)
  exact ⟨_, (by simp only [findRow, key, encX_slice_0_6, encX_slice_21_10, encX_slice_22_9]; rfl), (by simp only [List.all_cons, List.all_nil, fieldClear, encX_slice_9_1, encX_slice_31_1, fieldBfL_reserved]; rfl)⟩

theorem tdi (cond : BitVec 5) (ra : Gpr) (si : BitVec 16) : Statement (.tdi cond ra si) := by
  show InRow (encD 2#6 cond ra si)
  exact ⟨_, (by simp only [findRow, key, encD_slice_0_6]; rfl), (by rfl)⟩

theorem twi (cond : BitVec 5) (ra : Gpr) (si : BitVec 16) : Statement (.twi cond ra si) := by
  show InRow (encD 3#6 cond ra si)
  exact ⟨_, (by simp only [findRow, key, encD_slice_0_6]; rfl), (by rfl)⟩

theorem td (cond : BitVec 5) (ra rb : Gpr) : Statement (.td cond ra rb) := by
  show InRow (encX 31#6 cond ra rb 68#10 false)
  exact ⟨_, (by simp only [findRow, key, encX_slice_0_6, encX_slice_21_10, encX_slice_22_9]; rfl), (by simp only [List.all_cons, List.all_nil, fieldClear, encX_slice_31_1]; rfl)⟩

theorem tw (cond : BitVec 5) (ra rb : Gpr) : Statement (.tw cond ra rb) := by
  show InRow (encX 31#6 cond ra rb 4#10 false)
  exact ⟨_, (by simp only [findRow, key, encX_slice_0_6, encX_slice_21_10, encX_slice_22_9]; rfl), (by simp only [List.all_cons, List.all_nil, fieldClear, encX_slice_31_1]; rfl)⟩

theorem andiDot (ra rs : Gpr) (ui : BitVec 16) : Statement (.andiDot ra rs ui) := by
  show InRow (encD 28#6 rs ra ui)
  exact ⟨_, (by simp only [findRow, key, encD_slice_0_6]; rfl), (by rfl)⟩

theorem andisDot (ra rs : Gpr) (ui : BitVec 16) : Statement (.andisDot ra rs ui) := by
  show InRow (encD 29#6 rs ra ui)
  exact ⟨_, (by simp only [findRow, key, encD_slice_0_6]; rfl), (by rfl)⟩

theorem ori (ra rs : Gpr) (ui : BitVec 16) : Statement (.ori ra rs ui) := by
  show InRow (encD 24#6 rs ra ui)
  exact ⟨_, (by simp only [findRow, key, encD_slice_0_6]; rfl), (by rfl)⟩

theorem oris (ra rs : Gpr) (ui : BitVec 16) : Statement (.oris ra rs ui) := by
  show InRow (encD 25#6 rs ra ui)
  exact ⟨_, (by simp only [findRow, key, encD_slice_0_6]; rfl), (by rfl)⟩

theorem xori (ra rs : Gpr) (ui : BitVec 16) : Statement (.xori ra rs ui) := by
  show InRow (encD 26#6 rs ra ui)
  exact ⟨_, (by simp only [findRow, key, encD_slice_0_6]; rfl), (by rfl)⟩

theorem xoris (ra rs : Gpr) (ui : BitVec 16) : Statement (.xoris ra rs ui) := by
  show InRow (encD 27#6 rs ra ui)
  exact ⟨_, (by simp only [findRow, key, encD_slice_0_6]; rfl), (by rfl)⟩

theorem and (ra rs rb : Gpr) (rc : Bool) : Statement (.and ra rs rb rc) := by
  show InRow (encX 31#6 rs ra rb 28#10 rc)
  exact ⟨_, (by simp only [findRow, key, encX_slice_0_6, encX_slice_21_10, encX_slice_22_9]; rfl), (by rfl)⟩

theorem or (ra rs rb : Gpr) (rc : Bool) : Statement (.or ra rs rb rc) := by
  show InRow (encX 31#6 rs ra rb 444#10 rc)
  exact ⟨_, (by simp only [findRow, key, encX_slice_0_6, encX_slice_21_10, encX_slice_22_9]; rfl), (by rfl)⟩

theorem xor (ra rs rb : Gpr) (rc : Bool) : Statement (.xor ra rs rb rc) := by
  show InRow (encX 31#6 rs ra rb 316#10 rc)
  exact ⟨_, (by simp only [findRow, key, encX_slice_0_6, encX_slice_21_10, encX_slice_22_9]; rfl), (by rfl)⟩

theorem nand (ra rs rb : Gpr) (rc : Bool) : Statement (.nand ra rs rb rc) := by
  show InRow (encX 31#6 rs ra rb 476#10 rc)
  exact ⟨_, (by simp only [findRow, key, encX_slice_0_6, encX_slice_21_10, encX_slice_22_9]; rfl), (by rfl)⟩

theorem nor (ra rs rb : Gpr) (rc : Bool) : Statement (.nor ra rs rb rc) := by
  show InRow (encX 31#6 rs ra rb 124#10 rc)
  exact ⟨_, (by simp only [findRow, key, encX_slice_0_6, encX_slice_21_10, encX_slice_22_9]; rfl), (by rfl)⟩

theorem eqv (ra rs rb : Gpr) (rc : Bool) : Statement (.eqv ra rs rb rc) := by
  show InRow (encX 31#6 rs ra rb 284#10 rc)
  exact ⟨_, (by simp only [findRow, key, encX_slice_0_6, encX_slice_21_10, encX_slice_22_9]; rfl), (by rfl)⟩

theorem andc (ra rs rb : Gpr) (rc : Bool) : Statement (.andc ra rs rb rc) := by
  show InRow (encX 31#6 rs ra rb 60#10 rc)
  exact ⟨_, (by simp only [findRow, key, encX_slice_0_6, encX_slice_21_10, encX_slice_22_9]; rfl), (by rfl)⟩

theorem orc (ra rs rb : Gpr) (rc : Bool) : Statement (.orc ra rs rb rc) := by
  show InRow (encX 31#6 rs ra rb 412#10 rc)
  exact ⟨_, (by simp only [findRow, key, encX_slice_0_6, encX_slice_21_10, encX_slice_22_9]; rfl), (by rfl)⟩

theorem extsb (ra rs : Gpr) (rc : Bool) : Statement (.extsb ra rs rc) := by
  show InRow (encX 31#6 rs ra 0 954#10 rc)
  exact ⟨_, (by simp only [findRow, key, encX_slice_0_6, encX_slice_21_10, encX_slice_22_9]; rfl), (by simp only [List.all_cons, List.all_nil, fieldClear, encX_slice_16_4, encX_slice_20_1]; rfl)⟩

theorem extsh (ra rs : Gpr) (rc : Bool) : Statement (.extsh ra rs rc) := by
  show InRow (encX 31#6 rs ra 0 922#10 rc)
  exact ⟨_, (by simp only [findRow, key, encX_slice_0_6, encX_slice_21_10, encX_slice_22_9]; rfl), (by simp only [List.all_cons, List.all_nil, fieldClear, encX_slice_16_4, encX_slice_20_1]; rfl)⟩

theorem extsw (ra rs : Gpr) (rc : Bool) : Statement (.extsw ra rs rc) := by
  show InRow (encX 31#6 rs ra 0 986#10 rc)
  exact ⟨_, (by simp only [findRow, key, encX_slice_0_6, encX_slice_21_10, encX_slice_22_9]; rfl), (by simp only [List.all_cons, List.all_nil, fieldClear, encX_slice_16_4, encX_slice_20_1]; rfl)⟩

theorem cntlzd (ra rs : Gpr) (rc : Bool) : Statement (.cntlzd ra rs rc) := by
  show InRow (encX 31#6 rs ra 0 58#10 rc)
  exact ⟨_, (by simp only [findRow, key, encX_slice_0_6, encX_slice_21_10, encX_slice_22_9]; rfl), (by simp only [List.all_cons, List.all_nil, fieldClear, encX_slice_16_4, encX_slice_20_1]; rfl)⟩

theorem cntlzw (ra rs : Gpr) (rc : Bool) : Statement (.cntlzw ra rs rc) := by
  show InRow (encX 31#6 rs ra 0 26#10 rc)
  exact ⟨_, (by simp only [findRow, key, encX_slice_0_6, encX_slice_21_10, encX_slice_22_9]; rfl), (by simp only [List.all_cons, List.all_nil, fieldClear, encX_slice_16_4, encX_slice_20_1]; rfl)⟩

theorem rldicl (ra rs : Gpr) (sh mb : BitVec 6) (rc : Bool) : Statement (.rldicl ra rs sh mb rc) := by
  show InRow (encMD rs ra sh mb 0#3 rc)
  exact ⟨_, (by simp only [findRow, key, encMD_slice_0_6, encMD_slice_27_3, encMD_slice_27_4]; rfl), (by rfl)⟩

theorem rldicr (ra rs : Gpr) (sh me : BitVec 6) (rc : Bool) : Statement (.rldicr ra rs sh me rc) := by
  show InRow (encMD rs ra sh me 1#3 rc)
  exact ⟨_, (by simp only [findRow, key, encMD_slice_0_6, encMD_slice_27_3, encMD_slice_27_4]; rfl), (by rfl)⟩

theorem rldic (ra rs : Gpr) (sh mb : BitVec 6) (rc : Bool) : Statement (.rldic ra rs sh mb rc) := by
  show InRow (encMD rs ra sh mb 2#3 rc)
  exact ⟨_, (by simp only [findRow, key, encMD_slice_0_6, encMD_slice_27_3, encMD_slice_27_4]; rfl), (by rfl)⟩

theorem rlwinm (ra rs : Gpr) (sh mb me : BitVec 5) (rc : Bool) : Statement (.rlwinm ra rs sh mb me rc) := by
  show InRow (encM 21#6 rs ra sh mb me rc)
  exact ⟨_, (by simp only [findRow, key, encM_slice_0_6]; rfl), (by rfl)⟩

theorem rldcl (ra rs rb : Gpr) (mb : BitVec 6) (rc : Bool) : Statement (.rldcl ra rs rb mb rc) := by
  show InRow (encMDS rs ra rb mb 8#4 rc)
  exact ⟨_, (by simp only [findRow, key, encMDS_slice_0_6, encMDS_slice_27_3, encMDS_slice_27_4]; rfl), (by rfl)⟩

theorem rldcr (ra rs rb : Gpr) (me : BitVec 6) (rc : Bool) : Statement (.rldcr ra rs rb me rc) := by
  show InRow (encMDS rs ra rb me 9#4 rc)
  exact ⟨_, (by simp only [findRow, key, encMDS_slice_0_6, encMDS_slice_27_3, encMDS_slice_27_4]; rfl), (by rfl)⟩

theorem rlwnm (ra rs rb : Gpr) (mb me : BitVec 5) (rc : Bool) : Statement (.rlwnm ra rs rb mb me rc) := by
  show InRow (encM 23#6 rs ra rb mb me rc)
  exact ⟨_, (by simp only [findRow, key, encM_slice_0_6]; rfl), (by rfl)⟩

theorem rldimi (ra rs : Gpr) (sh mb : BitVec 6) (rc : Bool) : Statement (.rldimi ra rs sh mb rc) := by
  show InRow (encMD rs ra sh mb 3#3 rc)
  exact ⟨_, (by simp only [findRow, key, encMD_slice_0_6, encMD_slice_27_3, encMD_slice_27_4]; rfl), (by rfl)⟩

theorem rlwimi (ra rs : Gpr) (sh mb me : BitVec 5) (rc : Bool) : Statement (.rlwimi ra rs sh mb me rc) := by
  show InRow (encM 20#6 rs ra sh mb me rc)
  exact ⟨_, (by simp only [findRow, key, encM_slice_0_6]; rfl), (by rfl)⟩

theorem sld (ra rs rb : Gpr) (rc : Bool) : Statement (.sld ra rs rb rc) := by
  show InRow (encX 31#6 rs ra rb 27#10 rc)
  exact ⟨_, (by simp only [findRow, key, encX_slice_0_6, encX_slice_21_10, encX_slice_22_9]; rfl), (by rfl)⟩

theorem slw (ra rs rb : Gpr) (rc : Bool) : Statement (.slw ra rs rb rc) := by
  show InRow (encX 31#6 rs ra rb 24#10 rc)
  exact ⟨_, (by simp only [findRow, key, encX_slice_0_6, encX_slice_21_10, encX_slice_22_9]; rfl), (by rfl)⟩

theorem srd (ra rs rb : Gpr) (rc : Bool) : Statement (.srd ra rs rb rc) := by
  show InRow (encX 31#6 rs ra rb 539#10 rc)
  exact ⟨_, (by simp only [findRow, key, encX_slice_0_6, encX_slice_21_10, encX_slice_22_9]; rfl), (by rfl)⟩

theorem srw (ra rs rb : Gpr) (rc : Bool) : Statement (.srw ra rs rb rc) := by
  show InRow (encX 31#6 rs ra rb 536#10 rc)
  exact ⟨_, (by simp only [findRow, key, encX_slice_0_6, encX_slice_21_10, encX_slice_22_9]; rfl), (by rfl)⟩

theorem sradi (ra rs : Gpr) (sh : BitVec 6) (rc : Bool) : Statement (.sradi ra rs sh rc) := by
  show InRow (encXS rs ra sh rc)
  rcases BitVec.eq_zero_or_eq_one (slice sh 0 1) with h | h <;>
  exact ⟨_, (by simp only [findRow, key, encXS_slice_0_6, encXS_slice_21_10, encXS_slice_22_9, h]; rfl), (by rfl)⟩

theorem srawi (ra rs : Gpr) (sh : BitVec 5) (rc : Bool) : Statement (.srawi ra rs sh rc) := by
  show InRow (encX 31#6 rs ra sh 824#10 rc)
  exact ⟨_, (by simp only [findRow, key, encX_slice_0_6, encX_slice_21_10, encX_slice_22_9]; rfl), (by rfl)⟩

theorem srad (ra rs rb : Gpr) (rc : Bool) : Statement (.srad ra rs rb rc) := by
  show InRow (encX 31#6 rs ra rb 794#10 rc)
  exact ⟨_, (by simp only [findRow, key, encX_slice_0_6, encX_slice_21_10, encX_slice_22_9]; rfl), (by rfl)⟩

theorem sraw (ra rs rb : Gpr) (rc : Bool) : Statement (.sraw ra rs rb rc) := by
  show InRow (encX 31#6 rs ra rb 792#10 rc)
  exact ⟨_, (by simp only [findRow, key, encX_slice_0_6, encX_slice_21_10, encX_slice_22_9]; rfl), (by rfl)⟩

theorem mtspr (spr : SprNum) (rs : Gpr) : Statement (.mtspr spr rs) := by
  show InRow (encX 31#6 rs (slice spr 5 5) (slice spr 0 5) 467#10 false)
  exact ⟨_, (by simp only [findRow, key, encX_slice_0_6, encX_slice_21_10, encX_slice_22_9]; rfl), (by simp only [List.all_cons, List.all_nil, fieldClear, encX_slice_31_1]; rfl)⟩

theorem mfspr (rt : Gpr) (spr : SprNum) : Statement (.mfspr rt spr) := by
  show InRow (encX 31#6 rt (slice spr 5 5) (slice spr 0 5) 339#10 false)
  exact ⟨_, (by simp only [findRow, key, encX_slice_0_6, encX_slice_21_10, encX_slice_22_9]; rfl), (by simp only [List.all_cons, List.all_nil, fieldClear, encX_slice_31_1]; rfl)⟩

theorem mtcrf (fxm : BitVec 8) (rs : Gpr) : Statement (.mtcrf fxm rs) := by
  show InRow (encMtcrf rs fxm)
  exact ⟨_, (by simp only [findRow, key, encMtcrf_slice_0_6, encMtcrf_slice_21_10, encMtcrf_slice_22_9]; rfl), (by simp only [List.all_cons, List.all_nil, fieldClear, encMtcrf_slice_11_1, encMtcrf_slice_20_1, encMtcrf_slice_31_1]; rfl)⟩

theorem mcrxr (bf : CrField) : Statement (.mcrxr bf) := by
  show InRow (encX 31#6 (fieldBf bf) 0 0 512#10 false)
  exact ⟨_, (by simp only [findRow, key, encX_slice_0_6, encX_slice_21_10, encX_slice_22_9]; rfl), (by simp only [List.all_cons, List.all_nil, fieldClear, encX_slice_9_2, encX_slice_11_1, encX_slice_12_2, encX_slice_14_2, encX_slice_16_4, encX_slice_20_1, encX_slice_31_1, fieldBf_reserved]; rfl)⟩

theorem mfcr (rt : Gpr) : Statement (.mfcr rt) := by
  show InRow (encX 31#6 rt 0 0 19#10 false)
  exact ⟨_, (by simp only [findRow, key, encX_slice_0_6, encX_slice_21_10, encX_slice_22_9]; rfl), (by simp only [List.all_cons, List.all_nil, fieldClear, encX_slice_11_1, encX_slice_12_2, encX_slice_14_2, encX_slice_16_4, encX_slice_20_1, encX_slice_31_1]; rfl)⟩

theorem lfs (frt : Fpr) (d : BitVec 16) (ra : Gpr) : Statement (.lfs frt d ra) := by
  show InRow (encD 48#6 frt ra d)
  exact ⟨_, (by simp only [findRow, key, encD_slice_0_6]; rfl), (by rfl)⟩

theorem lfsx (frt : Fpr) (ra rb : Gpr) : Statement (.lfsx frt ra rb) := by
  show InRow (encX 31#6 frt ra rb 535#10 false)
  exact ⟨_, (by simp only [findRow, key, encX_slice_0_6, encX_slice_21_10, encX_slice_22_9]; rfl), (by simp only [List.all_cons, List.all_nil, fieldClear, encX_slice_31_1]; rfl)⟩

theorem lfsu (frt : Fpr) (d : BitVec 16) (ra : Gpr) : Statement (.lfsu frt d ra) := by
  show InRow (encD 49#6 frt ra d)
  exact ⟨_, (by simp only [findRow, key, encD_slice_0_6]; rfl), (by rfl)⟩

theorem lfsux (frt : Fpr) (ra rb : Gpr) : Statement (.lfsux frt ra rb) := by
  show InRow (encX 31#6 frt ra rb 567#10 false)
  exact ⟨_, (by simp only [findRow, key, encX_slice_0_6, encX_slice_21_10, encX_slice_22_9]; rfl), (by simp only [List.all_cons, List.all_nil, fieldClear, encX_slice_31_1]; rfl)⟩

theorem lfd (frt : Fpr) (d : BitVec 16) (ra : Gpr) : Statement (.lfd frt d ra) := by
  show InRow (encD 50#6 frt ra d)
  exact ⟨_, (by simp only [findRow, key, encD_slice_0_6]; rfl), (by rfl)⟩

theorem lfdx (frt : Fpr) (ra rb : Gpr) : Statement (.lfdx frt ra rb) := by
  show InRow (encX 31#6 frt ra rb 599#10 false)
  exact ⟨_, (by simp only [findRow, key, encX_slice_0_6, encX_slice_21_10, encX_slice_22_9]; rfl), (by simp only [List.all_cons, List.all_nil, fieldClear, encX_slice_31_1]; rfl)⟩

theorem lfdu (frt : Fpr) (d : BitVec 16) (ra : Gpr) : Statement (.lfdu frt d ra) := by
  show InRow (encD 51#6 frt ra d)
  exact ⟨_, (by simp only [findRow, key, encD_slice_0_6]; rfl), (by rfl)⟩

theorem lfdux (frt : Fpr) (ra rb : Gpr) : Statement (.lfdux frt ra rb) := by
  show InRow (encX 31#6 frt ra rb 631#10 false)
  exact ⟨_, (by simp only [findRow, key, encX_slice_0_6, encX_slice_21_10, encX_slice_22_9]; rfl), (by simp only [List.all_cons, List.all_nil, fieldClear, encX_slice_31_1]; rfl)⟩

theorem stfs (frs : Fpr) (d : BitVec 16) (ra : Gpr) : Statement (.stfs frs d ra) := by
  show InRow (encD 52#6 frs ra d)
  exact ⟨_, (by simp only [findRow, key, encD_slice_0_6]; rfl), (by rfl)⟩

theorem stfsx (frs : Fpr) (ra rb : Gpr) : Statement (.stfsx frs ra rb) := by
  show InRow (encX 31#6 frs ra rb 663#10 false)
  exact ⟨_, (by simp only [findRow, key, encX_slice_0_6, encX_slice_21_10, encX_slice_22_9]; rfl), (by simp only [List.all_cons, List.all_nil, fieldClear, encX_slice_31_1]; rfl)⟩

theorem stfsu (frs : Fpr) (d : BitVec 16) (ra : Gpr) : Statement (.stfsu frs d ra) := by
  show InRow (encD 53#6 frs ra d)
  exact ⟨_, (by simp only [findRow, key, encD_slice_0_6]; rfl), (by rfl)⟩

theorem stfsux (frs : Fpr) (ra rb : Gpr) : Statement (.stfsux frs ra rb) := by
  show InRow (encX 31#6 frs ra rb 695#10 false)
  exact ⟨_, (by simp only [findRow, key, encX_slice_0_6, encX_slice_21_10, encX_slice_22_9]; rfl), (by simp only [List.all_cons, List.all_nil, fieldClear, encX_slice_31_1]; rfl)⟩

theorem stfd (frs : Fpr) (d : BitVec 16) (ra : Gpr) : Statement (.stfd frs d ra) := by
  show InRow (encD 54#6 frs ra d)
  exact ⟨_, (by simp only [findRow, key, encD_slice_0_6]; rfl), (by rfl)⟩

theorem stfdx (frs : Fpr) (ra rb : Gpr) : Statement (.stfdx frs ra rb) := by
  show InRow (encX 31#6 frs ra rb 727#10 false)
  exact ⟨_, (by simp only [findRow, key, encX_slice_0_6, encX_slice_21_10, encX_slice_22_9]; rfl), (by simp only [List.all_cons, List.all_nil, fieldClear, encX_slice_31_1]; rfl)⟩

theorem stfdu (frs : Fpr) (d : BitVec 16) (ra : Gpr) : Statement (.stfdu frs d ra) := by
  show InRow (encD 55#6 frs ra d)
  exact ⟨_, (by simp only [findRow, key, encD_slice_0_6]; rfl), (by rfl)⟩

theorem stfdux (frs : Fpr) (ra rb : Gpr) : Statement (.stfdux frs ra rb) := by
  show InRow (encX 31#6 frs ra rb 759#10 false)
  exact ⟨_, (by simp only [findRow, key, encX_slice_0_6, encX_slice_21_10, encX_slice_22_9]; rfl), (by simp only [List.all_cons, List.all_nil, fieldClear, encX_slice_31_1]; rfl)⟩

theorem stfiwx (frs : Fpr) (ra rb : Gpr) : Statement (.stfiwx frs ra rb) := by
  show InRow (encX 31#6 frs ra rb 983#10 false)
  exact ⟨_, (by simp only [findRow, key, encX_slice_0_6, encX_slice_21_10, encX_slice_22_9]; rfl), (by simp only [List.all_cons, List.all_nil, fieldClear, encX_slice_31_1]; rfl)⟩

theorem fmr (frt frb : Fpr) (rc : Bool) : Statement (.fmr frt frb rc) := by
  show InRow (encX 63#6 frt 0 frb 72#10 rc)
  exact ⟨_, (by simp only [findRow, key, encX_slice_0_6, encX_slice_26_5, encX_slice_21_10]; rfl), (by simp only [List.all_cons, List.all_nil, fieldClear, encX_slice_11_1, encX_slice_12_2, encX_slice_14_2]; rfl)⟩

theorem fneg (frt frb : Fpr) (rc : Bool) : Statement (.fneg frt frb rc) := by
  show InRow (encX 63#6 frt 0 frb 40#10 rc)
  exact ⟨_, (by simp only [findRow, key, encX_slice_0_6, encX_slice_26_5, encX_slice_21_10]; rfl), (by simp only [List.all_cons, List.all_nil, fieldClear, encX_slice_11_1, encX_slice_12_2, encX_slice_14_2]; rfl)⟩

theorem fabs (frt frb : Fpr) (rc : Bool) : Statement (.fabs frt frb rc) := by
  show InRow (encX 63#6 frt 0 frb 264#10 rc)
  exact ⟨_, (by simp only [findRow, key, encX_slice_0_6, encX_slice_26_5, encX_slice_21_10]; rfl), (by simp only [List.all_cons, List.all_nil, fieldClear, encX_slice_11_1, encX_slice_12_2, encX_slice_14_2]; rfl)⟩

theorem fnabs (frt frb : Fpr) (rc : Bool) : Statement (.fnabs frt frb rc) := by
  show InRow (encX 63#6 frt 0 frb 136#10 rc)
  exact ⟨_, (by simp only [findRow, key, encX_slice_0_6, encX_slice_26_5, encX_slice_21_10]; rfl), (by simp only [List.all_cons, List.all_nil, fieldClear, encX_slice_11_1, encX_slice_12_2, encX_slice_14_2]; rfl)⟩

theorem fadd (frt fra frb : Fpr) (rc : Bool) : Statement (.fadd frt fra frb rc) := by
  show InRow (encA 63#6 frt fra frb 0 21#5 rc)
  exact ⟨_, (by simp only [findRow, key, encA_slice_0_6, encA_slice_26_5, encA_slice_21_10]; rfl), (by simp only [List.all_cons, List.all_nil, fieldClear, encA_slice_21_5]; rfl)⟩

theorem fadds (frt fra frb : Fpr) (rc : Bool) : Statement (.fadds frt fra frb rc) := by
  show InRow (encA 59#6 frt fra frb 0 21#5 rc)
  exact ⟨_, (by simp only [findRow, key, encA_slice_0_6, encA_slice_26_5]; rfl), (by simp only [List.all_cons, List.all_nil, fieldClear, encA_slice_21_5]; rfl)⟩

theorem fsub (frt fra frb : Fpr) (rc : Bool) : Statement (.fsub frt fra frb rc) := by
  show InRow (encA 63#6 frt fra frb 0 20#5 rc)
  exact ⟨_, (by simp only [findRow, key, encA_slice_0_6, encA_slice_26_5, encA_slice_21_10]; rfl), (by simp only [List.all_cons, List.all_nil, fieldClear, encA_slice_21_5]; rfl)⟩

theorem fsubs (frt fra frb : Fpr) (rc : Bool) : Statement (.fsubs frt fra frb rc) := by
  show InRow (encA 59#6 frt fra frb 0 20#5 rc)
  exact ⟨_, (by simp only [findRow, key, encA_slice_0_6, encA_slice_26_5]; rfl), (by simp only [List.all_cons, List.all_nil, fieldClear, encA_slice_21_5]; rfl)⟩

theorem fmul (frt fra frc : Fpr) (rc : Bool) : Statement (.fmul frt fra frc rc) := by
  show InRow (encA 63#6 frt fra 0 frc 25#5 rc)
  exact ⟨_, (by simp only [findRow, key, encA_slice_0_6, encA_slice_26_5, encA_slice_21_10]; rfl), (by simp only [List.all_cons, List.all_nil, fieldClear, encA_slice_16_5]; rfl)⟩

theorem fmuls (frt fra frc : Fpr) (rc : Bool) : Statement (.fmuls frt fra frc rc) := by
  show InRow (encA 59#6 frt fra 0 frc 25#5 rc)
  exact ⟨_, (by simp only [findRow, key, encA_slice_0_6, encA_slice_26_5]; rfl), (by simp only [List.all_cons, List.all_nil, fieldClear, encA_slice_16_5]; rfl)⟩

theorem fdiv (frt fra frb : Fpr) (rc : Bool) : Statement (.fdiv frt fra frb rc) := by
  show InRow (encA 63#6 frt fra frb 0 18#5 rc)
  exact ⟨_, (by simp only [findRow, key, encA_slice_0_6, encA_slice_26_5, encA_slice_21_10]; rfl), (by simp only [List.all_cons, List.all_nil, fieldClear, encA_slice_21_5]; rfl)⟩

theorem fdivs (frt fra frb : Fpr) (rc : Bool) : Statement (.fdivs frt fra frb rc) := by
  show InRow (encA 59#6 frt fra frb 0 18#5 rc)
  exact ⟨_, (by simp only [findRow, key, encA_slice_0_6, encA_slice_26_5]; rfl), (by simp only [List.all_cons, List.all_nil, fieldClear, encA_slice_21_5]; rfl)⟩

theorem fmadd (frt fra frc frb : Fpr) (rc : Bool) : Statement (.fmadd frt fra frc frb rc) := by
  show InRow (encA 63#6 frt fra frb frc 29#5 rc)
  exact ⟨_, (by simp only [findRow, key, encA_slice_0_6, encA_slice_26_5, encA_slice_21_10]; rfl), (by rfl)⟩

theorem fmadds (frt fra frc frb : Fpr) (rc : Bool) : Statement (.fmadds frt fra frc frb rc) := by
  show InRow (encA 59#6 frt fra frb frc 29#5 rc)
  exact ⟨_, (by simp only [findRow, key, encA_slice_0_6, encA_slice_26_5]; rfl), (by rfl)⟩

theorem fmsub (frt fra frc frb : Fpr) (rc : Bool) : Statement (.fmsub frt fra frc frb rc) := by
  show InRow (encA 63#6 frt fra frb frc 28#5 rc)
  exact ⟨_, (by simp only [findRow, key, encA_slice_0_6, encA_slice_26_5, encA_slice_21_10]; rfl), (by rfl)⟩

theorem fmsubs (frt fra frc frb : Fpr) (rc : Bool) : Statement (.fmsubs frt fra frc frb rc) := by
  show InRow (encA 59#6 frt fra frb frc 28#5 rc)
  exact ⟨_, (by simp only [findRow, key, encA_slice_0_6, encA_slice_26_5]; rfl), (by rfl)⟩

theorem fnmadd (frt fra frc frb : Fpr) (rc : Bool) : Statement (.fnmadd frt fra frc frb rc) := by
  show InRow (encA 63#6 frt fra frb frc 31#5 rc)
  exact ⟨_, (by simp only [findRow, key, encA_slice_0_6, encA_slice_26_5, encA_slice_21_10]; rfl), (by rfl)⟩

theorem fnmadds (frt fra frc frb : Fpr) (rc : Bool) : Statement (.fnmadds frt fra frc frb rc) := by
  show InRow (encA 59#6 frt fra frb frc 31#5 rc)
  exact ⟨_, (by simp only [findRow, key, encA_slice_0_6, encA_slice_26_5]; rfl), (by rfl)⟩

theorem fnmsub (frt fra frc frb : Fpr) (rc : Bool) : Statement (.fnmsub frt fra frc frb rc) := by
  show InRow (encA 63#6 frt fra frb frc 30#5 rc)
  exact ⟨_, (by simp only [findRow, key, encA_slice_0_6, encA_slice_26_5, encA_slice_21_10]; rfl), (by rfl)⟩

theorem fnmsubs (frt fra frc frb : Fpr) (rc : Bool) : Statement (.fnmsubs frt fra frc frb rc) := by
  show InRow (encA 59#6 frt fra frb frc 30#5 rc)
  exact ⟨_, (by simp only [findRow, key, encA_slice_0_6, encA_slice_26_5]; rfl), (by rfl)⟩

theorem fsqrt (frt frb : Fpr) (rc : Bool) : Statement (.fsqrt frt frb rc) := by
  show InRow (encA 63#6 frt 0 frb 0 22#5 rc)
  exact ⟨_, (by simp only [findRow, key, encA_slice_0_6, encA_slice_26_5, encA_slice_21_10]; rfl), (by simp only [List.all_cons, List.all_nil, fieldClear, encA_slice_11_5, encA_slice_21_5]; rfl)⟩

theorem fsqrts (frt frb : Fpr) (rc : Bool) : Statement (.fsqrts frt frb rc) := by
  show InRow (encA 59#6 frt 0 frb 0 22#5 rc)
  exact ⟨_, (by simp only [findRow, key, encA_slice_0_6, encA_slice_26_5]; rfl), (by simp only [List.all_cons, List.all_nil, fieldClear, encA_slice_11_5, encA_slice_21_5]; rfl)⟩

theorem fres (frt frb : Fpr) (rc : Bool) : Statement (.fres frt frb rc) := by
  show InRow (encA 59#6 frt 0 frb 0 24#5 rc)
  exact ⟨_, (by simp only [findRow, key, encA_slice_0_6, encA_slice_26_5]; rfl), (by simp only [List.all_cons, List.all_nil, fieldClear, encA_slice_11_5, encA_slice_21_5]; rfl)⟩

theorem frsqrte (frt frb : Fpr) (rc : Bool) : Statement (.frsqrte frt frb rc) := by
  show InRow (encA 63#6 frt 0 frb 0 26#5 rc)
  exact ⟨_, (by simp only [findRow, key, encA_slice_0_6, encA_slice_26_5, encA_slice_21_10]; rfl), (by simp only [List.all_cons, List.all_nil, fieldClear, encA_slice_11_5, encA_slice_21_5]; rfl)⟩

theorem fsel (frt fra frc frb : Fpr) (rc : Bool) : Statement (.fsel frt fra frc frb rc) := by
  show InRow (encA 63#6 frt fra frb frc 23#5 rc)
  exact ⟨_, (by simp only [findRow, key, encA_slice_0_6, encA_slice_26_5, encA_slice_21_10]; rfl), (by rfl)⟩

theorem frsp (frt frb : Fpr) (rc : Bool) : Statement (.frsp frt frb rc) := by
  show InRow (encX 63#6 frt 0 frb 12#10 rc)
  exact ⟨_, (by simp only [findRow, key, encX_slice_0_6, encX_slice_26_5, encX_slice_21_10]; rfl), (by simp only [List.all_cons, List.all_nil, fieldClear, encX_slice_11_1, encX_slice_12_2, encX_slice_14_2]; rfl)⟩

theorem fctid (frt frb : Fpr) (rc : Bool) : Statement (.fctid frt frb rc) := by
  show InRow (encX 63#6 frt 0 frb 814#10 rc)
  exact ⟨_, (by simp only [findRow, key, encX_slice_0_6, encX_slice_26_5, encX_slice_21_10]; rfl), (by simp only [List.all_cons, List.all_nil, fieldClear, encX_slice_11_1, encX_slice_12_2, encX_slice_14_2]; rfl)⟩

theorem fctidz (frt frb : Fpr) (rc : Bool) : Statement (.fctidz frt frb rc) := by
  show InRow (encX 63#6 frt 0 frb 815#10 rc)
  exact ⟨_, (by simp only [findRow, key, encX_slice_0_6, encX_slice_26_5, encX_slice_21_10]; rfl), (by simp only [List.all_cons, List.all_nil, fieldClear, encX_slice_11_1, encX_slice_12_2, encX_slice_14_2]; rfl)⟩

theorem fctiw (frt frb : Fpr) (rc : Bool) : Statement (.fctiw frt frb rc) := by
  show InRow (encX 63#6 frt 0 frb 14#10 rc)
  exact ⟨_, (by simp only [findRow, key, encX_slice_0_6, encX_slice_26_5, encX_slice_21_10]; rfl), (by simp only [List.all_cons, List.all_nil, fieldClear, encX_slice_11_1, encX_slice_12_2, encX_slice_14_2]; rfl)⟩

theorem fctiwz (frt frb : Fpr) (rc : Bool) : Statement (.fctiwz frt frb rc) := by
  show InRow (encX 63#6 frt 0 frb 15#10 rc)
  exact ⟨_, (by simp only [findRow, key, encX_slice_0_6, encX_slice_26_5, encX_slice_21_10]; rfl), (by simp only [List.all_cons, List.all_nil, fieldClear, encX_slice_11_1, encX_slice_12_2, encX_slice_14_2]; rfl)⟩

theorem fcfid (frt frb : Fpr) (rc : Bool) : Statement (.fcfid frt frb rc) := by
  show InRow (encX 63#6 frt 0 frb 846#10 rc)
  exact ⟨_, (by simp only [findRow, key, encX_slice_0_6, encX_slice_26_5, encX_slice_21_10]; rfl), (by simp only [List.all_cons, List.all_nil, fieldClear, encX_slice_11_1, encX_slice_12_2, encX_slice_14_2]; rfl)⟩

theorem fcmpu (bf : CrField) (fra frb : Fpr) : Statement (.fcmpu bf fra frb) := by
  show InRow (encX 63#6 (fieldBf bf) fra frb 0#10 false)
  exact ⟨_, (by simp only [findRow, key, encX_slice_0_6, encX_slice_26_5, encX_slice_21_10]; rfl), (by simp only [List.all_cons, List.all_nil, fieldClear, encX_slice_9_2, encX_slice_31_1, fieldBf_reserved]; rfl)⟩

theorem fcmpo (bf : CrField) (fra frb : Fpr) : Statement (.fcmpo bf fra frb) := by
  show InRow (encX 63#6 (fieldBf bf) fra frb 32#10 false)
  exact ⟨_, (by simp only [findRow, key, encX_slice_0_6, encX_slice_26_5, encX_slice_21_10]; rfl), (by simp only [List.all_cons, List.all_nil, fieldClear, encX_slice_9_2, encX_slice_31_1, fieldBf_reserved]; rfl)⟩

theorem mffs (frt : Fpr) (rc : Bool) : Statement (.mffs frt rc) := by
  show InRow (encX 63#6 frt 0 0 583#10 rc)
  exact ⟨_, (by simp only [findRow, key, encX_slice_0_6, encX_slice_26_5, encX_slice_21_10]; rfl), (by simp only [List.all_cons, List.all_nil, fieldClear, encX_slice_11_1, encX_slice_12_2, encX_slice_14_2, encX_slice_16_4, encX_slice_20_1]; rfl)⟩

theorem mcrfs (bf bfa : CrField) : Statement (.mcrfs bf bfa) := by
  show InRow (encX 63#6 (fieldBf bf) (fieldBf bfa) 0 64#10 false)
  exact ⟨_, (by simp only [findRow, key, encX_slice_0_6, encX_slice_26_5, encX_slice_21_10]; rfl), (by simp only [List.all_cons, List.all_nil, fieldClear, encX_slice_9_2, encX_slice_14_2, encX_slice_16_4, encX_slice_20_1, encX_slice_31_1, fieldBf_reserved]; rfl)⟩

theorem mtfsfi (bf : CrField) (u : BitVec 4) (rc : Bool) : Statement (.mtfsfi bf u rc) := by
  show InRow (encX 63#6 (fieldBf bf) 0 (u ++ 0#1) 134#10 rc)
  exact ⟨_, (by simp only [findRow, key, encX_slice_0_6, encX_slice_26_5, encX_slice_21_10]; rfl), (by simp only [List.all_cons, List.all_nil, fieldClear, encX_slice_9_2, encX_slice_11_1, encX_slice_12_2, encX_slice_14_2, encX_slice_20_1, fieldBf_reserved, fieldU_reserved]; rfl)⟩

theorem mtfsf (flm : BitVec 8) (frb : Fpr) (rc : Bool) : Statement (.mtfsf flm frb rc) := by
  show InRow (encXFL flm frb rc)
  exact ⟨_, (by simp only [findRow, key, encXFL_slice_0_6, encXFL_slice_26_5, encXFL_slice_21_10]; rfl), (by simp only [List.all_cons, List.all_nil, fieldClear, encXFL_slice_6_1, encXFL_slice_15_1]; rfl)⟩

theorem mtfsb0 (bt : CrBit) (rc : Bool) : Statement (.mtfsb0 bt rc) := by
  show InRow (encX 63#6 bt 0 0 70#10 rc)
  exact ⟨_, (by simp only [findRow, key, encX_slice_0_6, encX_slice_26_5, encX_slice_21_10]; rfl), (by simp only [List.all_cons, List.all_nil, fieldClear, encX_slice_11_1, encX_slice_12_2, encX_slice_14_2, encX_slice_16_4, encX_slice_20_1]; rfl)⟩

theorem mtfsb1 (bt : CrBit) (rc : Bool) : Statement (.mtfsb1 bt rc) := by
  show InRow (encX 63#6 bt 0 0 38#10 rc)
  exact ⟨_, (by simp only [findRow, key, encX_slice_0_6, encX_slice_26_5, encX_slice_21_10]; rfl), (by simp only [List.all_cons, List.all_nil, fieldClear, encX_slice_11_1, encX_slice_12_2, encX_slice_14_2, encX_slice_16_4, encX_slice_20_1]; rfl)⟩

theorem icbi (ra rb : Gpr) : Statement (.icbi ra rb) := by
  show InRow (encX 31#6 0 ra rb 982#10 false)
  exact ⟨_, (by simp only [findRow, key, encX_slice_0_6, encX_slice_21_10, encX_slice_22_9]; rfl), (by simp only [List.all_cons, List.all_nil, fieldClear, encX_slice_6_3, encX_slice_9_2, encX_slice_31_1]; rfl)⟩

theorem isync : Statement (.isync) := by
  show InRow (encX 19#6 0 0 0 150#10 false)
  exact ⟨_, (by simp only [findRow, key, encX_slice_0_6, encX_slice_21_10]; rfl), (by simp only [List.all_cons, List.all_nil, fieldClear, encX_slice_6_3, encX_slice_9_2, encX_slice_11_3, encX_slice_14_2, encX_slice_16_5, encX_slice_31_1]; rfl)⟩

theorem dcbt (ra rb : Gpr) : Statement (.dcbt ra rb) := by
  show InRow (encX 31#6 0 ra rb 278#10 false)
  exact ⟨_, (by simp only [findRow, key, encX_slice_0_6, encX_slice_21_10, encX_slice_22_9]; rfl), (by simp only [List.all_cons, List.all_nil, fieldClear, encX_slice_6_3, encX_slice_9_2, encX_slice_31_1]; rfl)⟩

theorem dcbtst (ra rb : Gpr) : Statement (.dcbtst ra rb) := by
  show InRow (encX 31#6 0 ra rb 246#10 false)
  exact ⟨_, (by simp only [findRow, key, encX_slice_0_6, encX_slice_21_10, encX_slice_22_9]; rfl), (by simp only [List.all_cons, List.all_nil, fieldClear, encX_slice_6_3, encX_slice_9_2, encX_slice_31_1]; rfl)⟩

theorem dcbz (ra rb : Gpr) : Statement (.dcbz ra rb) := by
  show InRow (encX 31#6 0 ra rb 1014#10 false)
  exact ⟨_, (by simp only [findRow, key, encX_slice_0_6, encX_slice_21_10, encX_slice_22_9]; rfl), (by simp only [List.all_cons, List.all_nil, fieldClear, encX_slice_6_3, encX_slice_9_2, encX_slice_31_1]; rfl)⟩

theorem dcbst (ra rb : Gpr) : Statement (.dcbst ra rb) := by
  show InRow (encX 31#6 0 ra rb 54#10 false)
  exact ⟨_, (by simp only [findRow, key, encX_slice_0_6, encX_slice_21_10, encX_slice_22_9]; rfl), (by simp only [List.all_cons, List.all_nil, fieldClear, encX_slice_6_3, encX_slice_9_2, encX_slice_31_1]; rfl)⟩

theorem dcbf (ra rb : Gpr) : Statement (.dcbf ra rb) := by
  show InRow (encX 31#6 0 ra rb 86#10 false)
  exact ⟨_, (by simp only [findRow, key, encX_slice_0_6, encX_slice_21_10, encX_slice_22_9]; rfl), (by simp only [List.all_cons, List.all_nil, fieldClear, encX_slice_6_3, encX_slice_9_2, encX_slice_31_1]; rfl)⟩

theorem eieio : Statement (.eieio) := by
  show InRow (encX 31#6 0 0 0 854#10 false)
  exact ⟨_, (by simp only [findRow, key, encX_slice_0_6, encX_slice_21_10, encX_slice_22_9]; rfl), (by simp only [List.all_cons, List.all_nil, fieldClear, encX_slice_6_3, encX_slice_9_2, encX_slice_11_1, encX_slice_12_2, encX_slice_14_2, encX_slice_16_4, encX_slice_20_1, encX_slice_31_1]; rfl)⟩

theorem mftb (rt : Gpr) (tbr : SprNum) : Statement (.mftb rt tbr) := by
  show InRow (encX 31#6 rt (slice tbr 5 5) (slice tbr 0 5) 371#10 false)
  exact ⟨_, (by simp only [findRow, key, encX_slice_0_6, encX_slice_21_10, encX_slice_22_9]; rfl), (by simp only [List.all_cons, List.all_nil, fieldClear, encX_slice_31_1]; rfl)⟩

theorem rfi : Statement (.rfi) := by
  show InRow (encX 19#6 0 0 0 50#10 false)
  exact ⟨_, (by simp only [findRow, key, encX_slice_0_6, encX_slice_21_10]; rfl), (by simp only [List.all_cons, List.all_nil, fieldClear, encX_slice_6_3, encX_slice_9_2, encX_slice_11_3, encX_slice_14_2, encX_slice_16_5, encX_slice_31_1]; rfl)⟩

theorem mtmsr (rs : Gpr) : Statement (.mtmsr rs) := by
  show InRow (encX 31#6 rs 0 0 146#10 false)
  exact ⟨_, (by simp only [findRow, key, encX_slice_0_6, encX_slice_21_10, encX_slice_22_9]; rfl), (by simp only [List.all_cons, List.all_nil, fieldClear, encX_slice_11_1, encX_slice_12_2, encX_slice_14_2, encX_slice_16_4, encX_slice_20_1, encX_slice_31_1]; rfl)⟩

theorem mfmsr (rt : Gpr) : Statement (.mfmsr rt) := by
  show InRow (encX 31#6 rt 0 0 83#10 false)
  exact ⟨_, (by simp only [findRow, key, encX_slice_0_6, encX_slice_21_10, encX_slice_22_9]; rfl), (by simp only [List.all_cons, List.all_nil, fieldClear, encX_slice_11_1, encX_slice_12_2, encX_slice_14_2, encX_slice_16_4, encX_slice_20_1, encX_slice_31_1]; rfl)⟩

theorem mtsr (sr : BitVec 4) (rs : Gpr) : Statement (.mtsr sr rs) := by
  show InRow (encX 31#6 rs (0#1 ++ sr) 0 210#10 false)
  exact ⟨_, (by simp only [findRow, key, encX_slice_0_6, encX_slice_21_10, encX_slice_22_9]; rfl), (by simp only [List.all_cons, List.all_nil, fieldClear, encX_slice_11_1, encX_slice_16_4, encX_slice_20_1, encX_slice_31_1, fieldSr_reserved]; rfl)⟩

theorem mtsrin (rs rb : Gpr) : Statement (.mtsrin rs rb) := by
  show InRow (encX 31#6 rs 0 rb 242#10 false)
  exact ⟨_, (by simp only [findRow, key, encX_slice_0_6, encX_slice_21_10, encX_slice_22_9]; rfl), (by simp only [List.all_cons, List.all_nil, fieldClear, encX_slice_11_1, encX_slice_12_2, encX_slice_14_2, encX_slice_31_1]; rfl)⟩

theorem mfsr (rt : Gpr) (sr : BitVec 4) : Statement (.mfsr rt sr) := by
  show InRow (encX 31#6 rt (0#1 ++ sr) 0 595#10 false)
  exact ⟨_, (by simp only [findRow, key, encX_slice_0_6, encX_slice_21_10, encX_slice_22_9]; rfl), (by simp only [List.all_cons, List.all_nil, fieldClear, encX_slice_11_1, encX_slice_16_4, encX_slice_20_1, encX_slice_31_1, fieldSr_reserved]; rfl)⟩

theorem mfsrin (rt rb : Gpr) : Statement (.mfsrin rt rb) := by
  show InRow (encX 31#6 rt 0 rb 659#10 false)
  exact ⟨_, (by simp only [findRow, key, encX_slice_0_6, encX_slice_21_10, encX_slice_22_9]; rfl), (by simp only [List.all_cons, List.all_nil, fieldClear, encX_slice_11_1, encX_slice_12_2, encX_slice_14_2, encX_slice_31_1]; rfl)⟩

theorem dcbi (ra rb : Gpr) : Statement (.dcbi ra rb) := by
  show InRow (encX 31#6 0 ra rb 470#10 false)
  exact ⟨_, (by simp only [findRow, key, encX_slice_0_6, encX_slice_21_10, encX_slice_22_9]; rfl), (by simp only [List.all_cons, List.all_nil, fieldClear, encX_slice_6_3, encX_slice_9_2, encX_slice_31_1]; rfl)⟩

theorem slbie (rb : Gpr) : Statement (.slbie rb) := by
  show InRow (encX 31#6 0 0 rb 434#10 false)
  exact ⟨_, (by simp only [findRow, key, encX_slice_0_6, encX_slice_21_10, encX_slice_22_9]; rfl), (by simp only [List.all_cons, List.all_nil, fieldClear, encX_slice_6_3, encX_slice_9_2, encX_slice_11_1, encX_slice_12_2, encX_slice_14_2, encX_slice_31_1]; rfl)⟩

theorem slbia : Statement (.slbia) := by
  show InRow (encX 31#6 0 0 0 498#10 false)
  exact ⟨_, (by simp only [findRow, key, encX_slice_0_6, encX_slice_21_10, encX_slice_22_9]; rfl), (by simp only [List.all_cons, List.all_nil, fieldClear, encX_slice_6_3, encX_slice_9_2, encX_slice_11_1, encX_slice_12_2, encX_slice_14_2, encX_slice_16_4, encX_slice_20_1, encX_slice_31_1]; rfl)⟩

theorem tlbie (rb : Gpr) : Statement (.tlbie rb) := by
  show InRow (encX 31#6 0 0 rb 306#10 false)
  exact ⟨_, (by simp only [findRow, key, encX_slice_0_6, encX_slice_21_10, encX_slice_22_9]; rfl), (by simp only [List.all_cons, List.all_nil, fieldClear, encX_slice_6_3, encX_slice_9_2, encX_slice_11_1, encX_slice_12_2, encX_slice_14_2, encX_slice_31_1]; rfl)⟩

theorem tlbia : Statement (.tlbia) := by
  show InRow (encX 31#6 0 0 0 370#10 false)
  exact ⟨_, (by simp only [findRow, key, encX_slice_0_6, encX_slice_21_10, encX_slice_22_9]; rfl), (by simp only [List.all_cons, List.all_nil, fieldClear, encX_slice_6_3, encX_slice_9_2, encX_slice_11_1, encX_slice_12_2, encX_slice_14_2, encX_slice_16_4, encX_slice_20_1, encX_slice_31_1]; rfl)⟩

theorem tlbsync : Statement (.tlbsync) := by
  show InRow (encX 31#6 0 0 0 566#10 false)
  exact ⟨_, (by simp only [findRow, key, encX_slice_0_6, encX_slice_21_10, encX_slice_22_9]; rfl), (by simp only [List.all_cons, List.all_nil, fieldClear, encX_slice_6_3, encX_slice_9_2, encX_slice_11_1, encX_slice_12_2, encX_slice_14_2, encX_slice_16_4, encX_slice_20_1, encX_slice_31_1]; rfl)⟩

theorem eciwx (rt ra rb : Gpr) : Statement (.eciwx rt ra rb) := by
  show InRow (encX 31#6 rt ra rb 310#10 false)
  exact ⟨_, (by simp only [findRow, key, encX_slice_0_6, encX_slice_21_10, encX_slice_22_9]; rfl), (by simp only [List.all_cons, List.all_nil, fieldClear, encX_slice_31_1]; rfl)⟩

theorem ecowx (rs ra rb : Gpr) : Statement (.ecowx rs ra rb) := by
  show InRow (encX 31#6 rs ra rb 438#10 false)
  exact ⟨_, (by simp only [findRow, key, encX_slice_0_6, encX_slice_21_10, encX_slice_22_9]; rfl), (by simp only [List.all_cons, List.all_nil, fieldClear, encX_slice_31_1]; rfl)⟩

end Sys2Proof.Laws.Encoded
end

