-- ==== Sys2Proof/Laws/Step.lean ====
section
/-! SUPPORT. What one step can do, said once, and the invariant through interrupts and the environment. -/

namespace Sys2Proof.Machine

/-- Trace leaves a completed instruction as it is, or adds one interrupt to it. -/
theorem withTrace_cases {i : Instr} {s u : State} {r : Result} (h : withTrace i s r = .next u) :
    ∃ t, r = .next t ∧ (u = t ∨ (traces i s = true ∧ t.lastInterrupt = none ∧ t.fpEnabledException = false ∧
      u = takeInterrupt .trace t)) := by
  cases r with
  | next t =>
    refine ⟨t, rfl, ?_⟩
    unfold withTrace at h
    dsimp only at h
    split at h
    · rename_i hc
      simp only [Bool.and_eq_true, Option.isNone_iff_eq_none, Bool.not_eq_true'] at hc
      exact .inr ⟨hc.1.1, hc.1.2, hc.2, by simpa using h.symm⟩
    · exact .inl (by simpa using h.symm)
  | fault f => cases h
  | refused f => cases h

/-- Floating-Point Assist leaves a completed instruction as it is, or takes its place. -/
theorem withAssist_cases {i : Instr} {s u : State} {r : Result} (h : withAssist i s r = .next u) :
    ∃ t, r = .next t ∧ (u = t ∨ (assists i s = true ∧ t.lastInterrupt = none ∧ u = takeInterrupt .fpAssist s)) := by
  cases r with
  | next t =>
    refine ⟨t, rfl, ?_⟩
    unfold withAssist at h
    dsimp only at h
    split at h
    · rename_i hc
      simp only [Bool.and_eq_true, Option.isNone_iff_eq_none] at hc
      exact .inr ⟨hc.2, hc.1, by simpa [interrupt] using h.symm⟩
    · exact .inl (by simpa using h.symm)
  | fault f => cases h
  | refused f => cases h

/-- What the instruction part of a step can do: one interrupt, or the decoded instruction with its Trace. -/
theorem runInstruction_cases {s u : State} (h : runInstruction s = .next u) :
    (∃ c, u = takeInterrupt c s) ∨
      ∃ i t, fetchDecode s = .ok (.instr i) ∧ exec i s = .next t ∧
        (u = t ∨ (traces i s = true ∧ t.lastInterrupt = none ∧ u = takeInterrupt .trace t)) := by
  unfold runInstruction at h
  split at h
  · exact .inl ⟨_, by simpa [interrupt] using h.symm⟩
  · rename_i i hf
    obtain ⟨v, hv, hu⟩ := withTrace_cases h
    obtain ⟨t, ht, rfl | ⟨-, -, rfl⟩⟩ := withAssist_cases hv
    · exact .inr ⟨i, v, hf, ht, hu.imp id fun hu => ⟨hu.1, hu.2.1, hu.2.2.2⟩⟩
    · rcases hu with rfl | ⟨-, hl, -, -⟩
      · exact .inl ⟨_, rfl⟩
      · exact absurd hl (by simp)
  · exact .inl (reservedBitsForm_cases h)
  · exact .inl ⟨_, by simpa [interrupt] using h.symm⟩

/-- What the selection can do: one interrupt, Checkstop, a stall, or the decoded instruction with its Trace. -/
theorem select_cases {s u : State} (h : select s = .next u) :
    (∃ c, u = takeInterrupt c s) ∨ u = { s with checkstop := true } ∨ u = s ∨
      ∃ i t, fetchDecode s = .ok (.instr i) ∧ exec i s = .next t ∧
        (u = t ∨ (traces i s = true ∧ t.lastInterrupt = none ∧ u = takeInterrupt .trace t)) := by
  unfold select at h
  have int : ∀ c, interrupt c s = .next u → ∃ c, u = takeInterrupt c s :=
    fun c hc => ⟨c, by simpa [interrupt] using hc.symm⟩
  split at h
  · exact .inl (int _ h)
  · split at h
    · split at h
      · exact .inl (int _ h)
      · exact .inr (.inl (by simpa using h.symm))
    · split at h
      · exact .inl (int _ h)
      · split at h
        · exact .inl (int _ h)
        · split at h
          · exact .inl (int _ h)
          · split at h
            · exact .inr (.inr (.inl (by simpa using h.symm)))
            · rcases runInstruction_cases h with hc | hi
              · exact .inl hc
              · exact .inr (.inr (.inr hi))

/-- What a step can do: in Checkstop, nothing or a restart; else the selection; then the environment. -/
theorem step_cases {s t : State} (h : step s = .next t) :
    (s.checkstop = true ∧ t = environment (stopped { s with lastInterrupt := none })) ∨
      (s.checkstop = false ∧ ∃ u, select { s with lastInterrupt := none } = .next u ∧ t = environment u) := by
  unfold step cycle at h
  dsimp only at h
  split at h
  · exact .inl ⟨‹_›, by simpa using h.symm⟩
  · rename_i hc
    split at h
    · rename_i u hu
      exact .inr ⟨by simpa using hc, u, hu, by simpa using h.symm⟩
    · rename_i hn
      exact absurd h (hn t)

/-! ## The invariant -/

/-- The mode an interrupt enters addresses all 64 bits on a 64-bit implementation. -/
theorem takeInterrupt_iea (c : Cause) (s : State) (v : Dword) : (takeInterrupt c s).iea v = s.narrow v := by
  have hsf : bit (interruptMsr c.kind s) msrSF = s.cfg.impl64 := by
    unfold interruptMsr bit
    cases s.cfg.impl64 <;> cases s.msrBit msrILE <;> cases s.msr.getMsbD 0 <;> by_cases hk : c.kind = .machineCheck <;>
      simp [hk, oneBit, msrSF, msrIP, msrILE, msrLE, msrME, BitVec.getMsbD]
  have h64 : (takeInterrupt c s).mode64 = s.cfg.impl64 := by
    unfold State.mode64 State.msrBit
    simp only [State.takeInterrupt_cfg, State.takeInterrupt_msr, hsf, Bool.and_self]
  unfold State.iea State.narrow
  rw [h64]

/-- Taking an interrupt keeps the invariant. -/
theorem takeInterrupt_inv {s : State} (h : s.Inv) (c : Cause) : (takeInterrupt c s).Inv where
  memory := h.memory
  pc := by
    unfold State.codeAddress
    rw [takeInterrupt_iea, State.takeInterrupt_pc]
    unfold State.narrow
    split
    · exact and_idem _ _
    · rw [zext_lowWord_clear, zext_lowWord_idem, BitVec.and_assoc, BitVec.and_self]
  fpscr := h.fpscr
  msr := by
    rw [State.takeInterrupt_msr, State.takeInterrupt_cfg]
    have sub : ∀ x m n : Dword, x &&& m = x → x &&& (m ||| n) = x := by
      intro x m n hx
      rw [BitVec.and_or_distrib_left, hx]
      apply BitVec.eq_of_getLsbD_eq
      intro k hk
      cases hb : x.getLsbD k <;> simp [hb]
    apply sub
    unfold interruptMsr msrDefined
    cases s.cfg.impl64 <;> cases s.msrBit msrILE <;> by_cases hk : c.kind = .machineCheck <;>
      simp only [hk, if_true, if_false, Bool.false_eq_true, BitVec.and_or_distrib_right, BitVec.and_assoc] <;> rfl
  xer := h.xer
  ear := h.ear

/-- One event keeps the canonical form of storage. -/
theorem happen_wf {s : State} (h : s.mem.wf = true) (e : EnvEvent) : (happen e s).mem.wf = true := by
  have stores : ∀ (cs : List Host.Cell) (u : State), u.mem.wf = true → (foreignStores cs u).mem.wf = true := by
    intro cs
    induction cs with
    | nil => exact fun u hu => hu
    | cons c cs ih => exact fun u hu => ih _ (Memory.wf_write hu _ _)
  cases e <;> simp only [happen]
  case ticks => rw [ticks_shape]; exact h
  case stores bytes => exact stores bytes _ h
  all_goals exact h

/-- The environment keeps the invariant. -/
theorem environment_inv {s : State} (h : s.Inv) : (environment s).Inv := by
  have all : ∀ (es : List EnvEvent) (u : State), u.mem.wf = true → (happenAll es u).mem.wf = true := by
    intro es
    induction es with
    | nil => exact fun u hu => hu
    | cons e es ih => exact fun u hu => ih _ (happen_wf hu e)
  have hm : (environment s).mem.wf = true := by
    unfold environment
    split
    · rw [ticks_shape]; exact h.memory
    · exact all _ _ h.memory
  rw [environment_shape] at hm ⊢
  exact ⟨hm, h.pc, h.fpscr, h.msr, h.xer, h.ear⟩

/-- Where execution goes on is a code address. -/
theorem State.goTo_codeAddress (s : State) (a : Dword) : (s.goTo a).codeAddress (s.goTo a).pc = (s.goTo a).pc :=
  State.codeAddress_idem s a

/-- What a restart leaves in storage, in the MSR and in the registers with reserved bits. -/
theorem State.restarted_fields (s : State) :
    s.restarted.mem = s.mem ∧ s.restarted.cfg = s.cfg ∧ s.restarted.fpscr = fpscrSummed s.cfg (lowWord (s.free 69)) ∧
      s.restarted.msr = msrStored s.cfg s.cfg.msrReset ∧ s.restarted.xer = xerStored s.cfg (lowWord (s.free 68)) ∧
      s.restarted.ear = earStored s.cfg (lowWord (s.free 82)) := by
  unfold State.restarted State.goTo State.redrawn
  dsimp only
  exact ⟨rfl, rfl, rfl, rfl, rfl, rfl⟩

/-- A restart keeps the invariant. -/
theorem stopped_inv {s : State} (h : s.Inv) : (stopped s).Inv := by
  unfold stopped
  split
  · obtain ⟨hm, hc, hf, hr, hx, he⟩ := s.restarted_fields
    exact
      { memory := by rw [hm]; exact h.memory
        pc := by unfold State.restarted; exact State.goTo_codeAddress _ _
        fpscr := by rw [hf, hc]; exact fpscrSummed_idem _ _
        msr := by rw [hr, hc]; exact msrStored_idem _ _
        xer := by rw [hx, hc]; exact xerStored_idem _ _
        ear := by rw [he, hc]; exact earStored_idem _ _ }
  · exact h

end Sys2Proof.Machine
end

