-- ==== Sys2Proof/Tests/Slice0.lean ====
section
/-! SUPPORT. Tests. The decode words are those the spec writes beside the assembler form of each instruction; the
effects are rows of 95 to 98 (the spec's test vectors); the witnesses meet the hypotheses of the statements. -/

namespace Sys2Proof.Tests

open Sys2Proof Sys2Proof.Machine

/-! ## States the tests start from -/

/-- The convention of the vector files: 64-bit mode, privileged, `MSR_FP = 1`, instruction at `0x100`. -/
def base : State := { State.reset with msr := 0x8000000000002000, pc := 0x100 }

/-- The same in 32-bit mode. -/
def narrow : State := { base with msr := 0x2000 }

/-- The same on a 32-bit implementation. -/
def base32 : State := { State.resetWith Config.reference32 with msr := 0x2000, pc := 0x100 }

/-- Problem state. -/
def user : State := { base with msr := 0x8000000000006000 }

/-- A GPR set. -/
def gpr (n : Gpr) (v : Dword) (s : State) : State := s.setX n v

/-- An FPR set, not as a single. -/
def fpr (n : Fpr) (v : Dword) (s : State) : State := s.setF n v false

/-- A Segment Register set. -/
def seg (n : BitVec 4) (v : Word) (s : State) : State := s.setSr n v

/-- Bytes stored from an address on. -/
def bytes (a : Nat) (l : List Byte) (s : State) : State :=
  { s with mem := s.mem.writeAll ((List.range l.length).map fun k => BitVec.ofNat 64 (a + k)) l }

/-- Bytes read from an address on. -/
def bytesAt (a n : Nat) (s : State) : List Byte := (List.range n).map fun k => s.mem.read (BitVec.ofNat 64 (a + k))

/-- The storage of 41_fixed_load_store.md R283. -/
def stored : State :=
  bytes 0x1000 [0x00, 0x11, 0x22, 0x33, 0x44, 0x55, 0x66, 0x77, 0x88, 0x99, 0xAA, 0xBB, 0xCC, 0xDD, 0xEE, 0xFF] base

/-- The storage of 44_float_load_store_move.md R502. -/
def floats : State :=
  base |> bytes 0x2000 [0x3F, 0xC0, 0, 0, 0, 0, 0, 1, 0x40, 0x09, 0x21, 0xFB, 0x54, 0x44, 0x2D, 0x18, 0x7F, 0xA0, 0, 0]
    |> gpr 4 0x2000

/-- The configuration whose page 5 fails every data access and whose page 2 fails every fetch. -/
def faulting : Config :=
  { Config.reference with
    xlate := [{ page := 5, kind := .load, privileged := true, result := .fault { notFound := true } },
      { page := 5, kind := .store, privileged := true, result := .fault { protection := true } },
      { page := 2, kind := .ifetch, privileged := true, result := .fault { notFound := true } }] }

/-- The configuration whose page 0 is fetched from elsewhere, and whose page 5 is at page 9 while SDR1 is 7. -/
def moved : Config :=
  { Config.reference with
    xlate := [{ page := 0, kind := .ifetch, privileged := true, result := .ok 1 {} },
      { page := 5, kind := .load, privileged := true, conditions := [.sdr1 7], result := .ok 9 {} }] }

/-- A property of the next state, where there is one. -/
def got {α : Type} (r : Result) (p : State → α) : Option α :=
  match r with
  | .next t => some (p t)
  | _ => none

/-- The name a refusal has, where there is one. -/
def refusal (r : Result) : Option Refusal :=
  match r with
  | .refused n => some n
  | _ => none

/-! ## Well-formed terms: one ill-formed term for each check, which the check refuses (30_encoding.md R211) -/

theorem test_wellFormed_branch_options :
    (Instr.bc 21 0 2 false false).wellFormed = false ∧ (Instr.bclr 24 0 false).wellFormed = false ∧
    (Instr.bclr 6 0 false).wellFormed = false ∧ (Instr.bcctr 16 0 false).wellFormed = false ∧
    (Instr.bc 13 0 2 false false).wellFormed = true ∧ (Instr.bcctr 20 0 false).wellFormed = true := by decide

theorem test_wellFormed_update_forms :
    (Instr.lwzu 3 4 0).wellFormed = false ∧ (Instr.lwzu 3 4 3).wellFormed = false ∧
    (Instr.stwu 3 4 0).wellFormed = false ∧ (Instr.lfdu 1 8 0).wellFormed = false ∧
    (Instr.stfsux 1 0 5).wellFormed = false ∧ (Instr.stwu 3 4 3).wellFormed = true := by decide

theorem test_wellFormed_register_ranges :
    (Instr.lmw 30 0 31).wellFormed = false ∧ (Instr.lmw 0 0 0).wellFormed = false ∧
    (Instr.lswi 30 31 8).wellFormed = false ∧ (Instr.lswx 5 4 5).wellFormed = false ∧
    (Instr.lmw 31 0 30).wellFormed = true := by decide

theorem test_wellFormed_register_numbers :
    (Instr.mftb 3 284).wellFormed = false ∧ (Instr.mtspr 287 3).formValidHere Config.reference 0 = false ∧
    (Instr.mfspr 3 284).formValidHere Config.reference 0 = false ∧
    (Instr.cmpi 0 true 3 0).formValidHere Config.reference32 0 = false ∧
    (Instr.lswx 5 6 4).formValidHere Config.reference 8 = false := by decide

/-! ## Decoding: a word of the spec for every constructor, and words that are none -/

/-- Words of section 2.12 of 98. -/
theorem test_decode_none :
    decode 0x00000000 = .rejected .illegal ∧ decode 0x00000001 = .rejected .reservedClass ∧
    decode 0x44000000 = .rejected .reservedClass ∧ decode 0x24000000 = .rejected .reservedClass ∧
    decode 0x7C0002D0 = .rejected .reservedClass ∧ decode 0x7C000002 = .rejected .illegal ∧
    decode 0xE8640003 = .rejected .illegal ∧ decode 0x7C60212C = .rejected .illegal ∧
    decode 0x44000003 = .reservedBits .sc ∧ decode 0x7C64282F = .reservedBits (.lwzx 3 4 5) ∧
    decode 0x7C432000 = .reservedBits (.cmp 0 false 3 4) := by decide

theorem test_decode_branches_1 :
    decode 0x4BFFFFFD = .instr (.b 0xFFFFFF false true) ∧
    decode 0x429F0005 = .instr (.bc 20 31 1 false true) ∧
    decode 0x4E800021 = .instr (.bclr 20 0 true) ∧
    decode 0x4D910421 = .instr (.bcctr 12 17 true) ∧
    decode 0x44000002 = .instr .sc ∧
    decode 0x4C221A02 = .instr (.crand 1 2 3) ∧
    decode 0x4C044382 = .instr (.cror 0 4 8) := by decide

theorem test_decode_branches_2 :
    decode 0x4C631982 = .instr (.crxor 3 3 3) ∧
    decode 0x4C2219C2 = .instr (.crnand 1 2 3) ∧
    decode 0x4ED29042 = .instr (.crnor 22 18 18) ∧
    decode 0x4F39CA42 = .instr (.creqv 25 25 25) ∧
    decode 0x4C221902 = .instr (.crandc 1 2 3) ∧
    decode 0x4C221B42 = .instr (.crorc 1 2 3) ∧
    decode 0x4C880000 = .instr (.mcrf 1 2) := by decide

theorem test_decode_loads_1 :
    decode 0x88640008 = .instr (.lbz 3 8 4) ∧
    decode 0x8C640008 = .instr (.lbzu 3 8 4) ∧
    decode 0x7C6428AE = .instr (.lbzx 3 4 5) ∧
    decode 0x7C6428EE = .instr (.lbzux 3 4 5) ∧
    decode 0xA0640008 = .instr (.lhz 3 8 4) ∧
    decode 0xA4640008 = .instr (.lhzu 3 8 4) ∧
    decode 0x7C642A2E = .instr (.lhzx 3 4 5) ∧
    decode 0x7C642A6E = .instr (.lhzux 3 4 5) ∧
    decode 0xA8640008 = .instr (.lha 3 8 4) ∧
    decode 0xAC640008 = .instr (.lhau 3 8 4) ∧
    decode 0x7C642AAE = .instr (.lhax 3 4 5) ∧
    decode 0x7C642AEE = .instr (.lhaux 3 4 5) := by decide

theorem test_decode_loads_2 :
    decode 0x80640008 = .instr (.lwz 3 8 4) ∧
    decode 0x84640008 = .instr (.lwzu 3 8 4) ∧
    decode 0x7C64282E = .instr (.lwzx 3 4 5) ∧
    decode 0x7C64286E = .instr (.lwzux 3 4 5) ∧
    decode 0xE864000A = .instr (.lwa 3 2 4) ∧
    decode 0x7C642AAA = .instr (.lwax 3 4 5) ∧
    decode 0x7C642AEA = .instr (.lwaux 3 4 5) ∧
    decode 0xE8640008 = .instr (.ld 3 2 4) ∧
    decode 0xE8640009 = .instr (.ldu 3 2 4) ∧
    decode 0x7C64282A = .instr (.ldx 3 4 5) ∧
    decode 0x7C64286A = .instr (.ldux 3 4 5) := by decide

theorem test_decode_stores_1 :
    decode 0x98640008 = .instr (.stb 3 8 4) ∧
    decode 0x9C640008 = .instr (.stbu 3 8 4) ∧
    decode 0x7C6429AE = .instr (.stbx 3 4 5) ∧
    decode 0x7C6429EE = .instr (.stbux 3 4 5) ∧
    decode 0xB0640008 = .instr (.sth 3 8 4) ∧
    decode 0xB4640008 = .instr (.sthu 3 8 4) ∧
    decode 0x7C642B2E = .instr (.sthx 3 4 5) ∧
    decode 0x7C642B6E = .instr (.sthux 3 4 5) := by decide

theorem test_decode_stores_2 :
    decode 0x90640008 = .instr (.stw 3 8 4) ∧
    decode 0x94640008 = .instr (.stwu 3 8 4) ∧
    decode 0x7C64292E = .instr (.stwx 3 4 5) ∧
    decode 0x7C64296E = .instr (.stwux 3 4 5) ∧
    decode 0xF8640008 = .instr (.std 3 2 4) ∧
    decode 0xF8640009 = .instr (.stdu 3 2 4) ∧
    decode 0x7C64292A = .instr (.stdx 3 4 5) ∧
    decode 0x7C64296A = .instr (.stdux 3 4 5) := by decide

theorem test_decode_reversal_multiple_string_1 :
    decode 0x7C642E2C = .instr (.lhbrx 3 4 5) ∧
    decode 0x7C642C2C = .instr (.lwbrx 3 4 5) ∧
    decode 0x7C642F2C = .instr (.sthbrx 3 4 5) ∧
    decode 0x7C642D2C = .instr (.stwbrx 3 4 5) ∧
    decode 0xBBA10000 = .instr (.lmw 29 0 1) ∧
    decode 0xBFA10000 = .instr (.stmw 29 0 1) ∧
    decode 0x7CA444AA = .instr (.lswi 5 4 8) ∧
    decode 0x7CA4342A = .instr (.lswx 5 4 6) := by decide

theorem test_decode_reversal_multiple_string_2 :
    decode 0x7CA435AA = .instr (.stswi 5 4 6) ∧
    decode 0x7CA4352A = .instr (.stswx 5 4 6) ∧
    decode 0x7C642828 = .instr (.lwarx 3 4 5) ∧
    decode 0x7C6428A8 = .instr (.ldarx 3 4 5) ∧
    decode 0x7C64292D = .instr (.stwcxDot 3 4 5) ∧
    decode 0x7C8019AD = .instr (.stdcxDot 4 0 3) ∧
    decode 0x7C0004AC = .instr .sync := by decide

theorem test_decode_arithmetic_1 :
    decode 0x3864FFFF = .instr (.addi 3 4 0xFFFF) ∧
    decode 0x3C640001 = .instr (.addis 3 4 1) ∧
    decode 0x7C642E15 = .instr (.add 3 4 5 true true) ∧
    decode 0x7C642C50 = .instr (.subf 3 4 5 true false) ∧
    decode 0x30640001 = .instr (.addic 3 4 1) ∧
    decode 0x3464FFFF = .instr (.addicDot 3 4 0xFFFF) ∧
    decode 0x2064000A = .instr (.subfic 3 4 10) ∧
    decode 0x7C642814 = .instr (.addc 3 4 5 false false) ∧
    decode 0x7C642810 = .instr (.subfc 3 4 5 false false) := by decide

theorem test_decode_arithmetic_2 :
    decode 0x7C642914 = .instr (.adde 3 4 5 false false) ∧
    decode 0x7C642910 = .instr (.subfe 3 4 5 false false) ∧
    decode 0x7C6401D4 = .instr (.addme 3 4 false false) ∧
    decode 0x7C6401D0 = .instr (.subfme 3 4 false false) ∧
    decode 0x7C640194 = .instr (.addze 3 4 false false) ∧
    decode 0x7C640190 = .instr (.subfze 3 4 false false) ∧
    decode 0x7C6404D1 = .instr (.neg 3 4 true true) ∧
    decode 0x1C64FFFD = .instr (.mulli 3 4 0xFFFD) ∧
    decode 0x7C642DD2 = .instr (.mulld 3 4 5 true false) := by decide

theorem test_decode_arithmetic_3 :
    decode 0x7C642DD6 = .instr (.mullw 3 4 5 true false) ∧
    decode 0x7C642892 = .instr (.mulhd 3 4 5 false) ∧
    decode 0x7C642896 = .instr (.mulhw 3 4 5 false) ∧
    decode 0x7C642812 = .instr (.mulhdu 3 4 5 false) ∧
    decode 0x7C642816 = .instr (.mulhwu 3 4 5 false) ∧
    decode 0x7C642FD2 = .instr (.divd 3 4 5 true false) ∧
    decode 0x7C642FD7 = .instr (.divw 3 4 5 true true) ∧
    decode 0x7C642B92 = .instr (.divdu 3 4 5 false false) ∧
    decode 0x7C642B96 = .instr (.divwu 3 4 5 false false) := by decide

theorem test_decode_compares :
    decode 0x2E030064 = .instr (.cmpi 4 false 3 100) ∧
    decode 0x7CA32000 = .instr (.cmp 1 true 3 4) ∧
    decode 0x2A230064 = .instr (.cmpli 4 true 3 100) ∧
    decode 0x7D232040 = .instr (.cmpl 2 true 3 4) ∧
    decode 0x0A03FFFF = .instr (.tdi 16 3 0xFFFF) ∧
    decode 0x0C2307FF = .instr (.twi 1 3 0x7FF) ∧
    decode 0x7F032088 = .instr (.td 24 3 4) ∧
    decode 0x7E032008 = .instr (.tw 16 3 4) := by decide

theorem test_decode_logical_1 :
    decode 0x7083FF00 = .instr (.andiDot 3 4 0xFF00) ∧
    decode 0x7483FF00 = .instr (.andisDot 3 4 0xFF00) ∧
    decode 0x6083FF00 = .instr (.ori 3 4 0xFF00) ∧
    decode 0x6483FF00 = .instr (.oris 3 4 0xFF00) ∧
    decode 0x6883FFFF = .instr (.xori 3 4 0xFFFF) ∧
    decode 0x6C83FFFF = .instr (.xoris 3 4 0xFFFF) ∧
    decode 0x7C832839 = .instr (.and 3 4 5 true) ∧
    decode 0x7C832B79 = .instr (.or 3 4 5 true) ∧
    decode 0x7C832A79 = .instr (.xor 3 4 5 true) ∧
    decode 0x7C832BB9 = .instr (.nand 3 4 5 true) := by decide

theorem test_decode_logical_2 :
    decode 0x7C8328F9 = .instr (.nor 3 4 5 true) ∧
    decode 0x7C832A39 = .instr (.eqv 3 4 5 true) ∧
    decode 0x7C832879 = .instr (.andc 3 4 5 true) ∧
    decode 0x7C832B39 = .instr (.orc 3 4 5 true) ∧
    decode 0x7C830774 = .instr (.extsb 3 4 false) ∧
    decode 0x7C830735 = .instr (.extsh 3 4 true) ∧
    decode 0x7C8307B4 = .instr (.extsw 3 4 false) ∧
    decode 0x7CA30075 = .instr (.cntlzd 3 5 true) ∧
    decode 0x7C830034 = .instr (.cntlzw 3 4 false) := by decide

theorem test_decode_rotates_shifts_1 :
    decode 0x78830FE0 = .instr (.rldicl 3 4 1 63 false) ∧
    decode 0x788345E4 = .instr (.rldicr 3 4 8 55 false) ∧
    decode 0x78834228 = .instr (.rldic 3 4 8 40 false) ∧
    decode 0x5483402E = .instr (.rlwinm 3 4 8 0 23 false) ∧
    decode 0x78832E30 = .instr (.rldcl 3 4 5 56 false) ∧
    decode 0x78832FD2 = .instr (.rldcr 3 4 5 31 false) ∧
    decode 0x5C832E3E = .instr (.rlwnm 3 4 5 24 31 false) ∧
    decode 0x7883F80E = .instr (.rldimi 3 4 63 0 false) ∧
    decode 0x5083463E = .instr (.rlwimi 3 4 8 24 31 false) := by decide

theorem test_decode_rotates_shifts_2 :
    decode 0x7C832836 = .instr (.sld 3 4 5 false) ∧
    decode 0x7C832830 = .instr (.slw 3 4 5 false) ∧
    decode 0x7C832C36 = .instr (.srd 3 4 5 false) ∧
    decode 0x7C832C30 = .instr (.srw 3 4 5 false) ∧
    decode 0x7C830E74 = .instr (.sradi 3 4 1 false) ∧
    decode 0x7CA3FE71 = .instr (.srawi 3 5 31 true) ∧
    decode 0x7C832E34 = .instr (.srad 3 4 5 false) ∧
    decode 0x7C832E30 = .instr (.sraw 3 4 5 false) := by decide

theorem test_decode_moves :
    decode 0x7C7043A6 = .instr (.mtspr 272 3) ∧
    decode 0x7C6802A6 = .instr (.mfspr 3 8) ∧
    decode 0x7C6FF120 = .instr (.mtcrf 255 3) ∧
    decode 0x7D000400 = .instr (.mcrxr 2) ∧
    decode 0x7C600026 = .instr (.mfcr 3) := by decide

theorem test_decode_float_moves_1 :
    decode 0xC0240010 = .instr (.lfs 1 16 4) ∧
    decode 0x7C242C2E = .instr (.lfsx 1 4 5) ∧
    decode 0xC4240004 = .instr (.lfsu 1 4 4) ∧
    decode 0x7C242C6E = .instr (.lfsux 1 4 5) ∧
    decode 0xC8240008 = .instr (.lfd 1 8 4) ∧
    decode 0x7C242CAE = .instr (.lfdx 1 4 5) ∧
    decode 0xCC240008 = .instr (.lfdu 1 8 4) ∧
    decode 0x7C242CEE = .instr (.lfdux 1 4 5) ∧
    decode 0xD0240010 = .instr (.stfs 1 16 4) ∧
    decode 0x7C242D2E = .instr (.stfsx 1 4 5) ∧
    decode 0xD4240010 = .instr (.stfsu 1 16 4) := by decide

theorem test_decode_float_moves_2 :
    decode 0x7C242D6E = .instr (.stfsux 1 4 5) ∧
    decode 0xD8240010 = .instr (.stfd 1 16 4) ∧
    decode 0x7C242DAE = .instr (.stfdx 1 4 5) ∧
    decode 0xDC240010 = .instr (.stfdu 1 16 4) ∧
    decode 0x7C242DEE = .instr (.stfdux 1 4 5) ∧
    decode 0x7C242FAE = .instr (.stfiwx 1 4 5) ∧
    decode 0xFC600891 = .instr (.fmr 3 1 true) ∧
    decode 0xFC600851 = .instr (.fneg 3 1 true) ∧
    decode 0xFC600A11 = .instr (.fabs 3 1 true) ∧
    decode 0xFC600911 = .instr (.fnabs 3 1 true) := by decide

theorem test_decode_float_arithmetic_1 :
    decode 0xFC22182B = .instr (.fadd 1 2 3 true) ∧
    decode 0xEC22182A = .instr (.fadds 1 2 3 false) ∧
    decode 0xFC221828 = .instr (.fsub 1 2 3 false) ∧
    decode 0xEC221828 = .instr (.fsubs 1 2 3 false) ∧
    decode 0xFC2200F2 = .instr (.fmul 1 2 3 false) ∧
    decode 0xEC2200F2 = .instr (.fmuls 1 2 3 false) ∧
    decode 0xFC221825 = .instr (.fdiv 1 2 3 true) ∧
    decode 0xEC221824 = .instr (.fdivs 1 2 3 false) ∧
    decode 0xFC2220FA = .instr (.fmadd 1 2 3 4 false) ∧
    decode 0xEC2220FA = .instr (.fmadds 1 2 3 4 false) ∧
    decode 0xFC2220F8 = .instr (.fmsub 1 2 3 4 false) := by decide

theorem test_decode_float_arithmetic_2 :
    decode 0xEC2220F8 = .instr (.fmsubs 1 2 3 4 false) ∧
    decode 0xFC2220FE = .instr (.fnmadd 1 2 3 4 false) ∧
    decode 0xEC2220FE = .instr (.fnmadds 1 2 3 4 false) ∧
    decode 0xFC2220FC = .instr (.fnmsub 1 2 3 4 false) ∧
    decode 0xEC2220FC = .instr (.fnmsubs 1 2 3 4 false) ∧
    decode 0xFC20102C = .instr (.fsqrt 1 2 false) ∧
    decode 0xEC20102C = .instr (.fsqrts 1 2 false) ∧
    decode 0xEC201030 = .instr (.fres 1 2 false) ∧
    decode 0xFC201035 = .instr (.frsqrte 1 2 true) ∧
    decode 0xFC2220EE = .instr (.fsel 1 2 3 4 false) := by decide

theorem test_decode_float_convert_status_1 :
    decode 0xFC201019 = .instr (.frsp 1 2 true) ∧
    decode 0xFC20165C = .instr (.fctid 1 2 false) ∧
    decode 0xFC20165E = .instr (.fctidz 1 2 false) ∧
    decode 0xFC20101C = .instr (.fctiw 1 2 false) ∧
    decode 0xFC20101F = .instr (.fctiwz 1 2 true) ∧
    decode 0xFC20169C = .instr (.fcfid 1 2 false) ∧
    decode 0xFF811000 = .instr (.fcmpu 7 1 2) := by decide

theorem test_decode_float_convert_status_2 :
    decode 0xFD811040 = .instr (.fcmpo 3 1 2) ∧
    decode 0xFC20048F = .instr (.mffs 1 true) ∧
    decode 0xFF940080 = .instr (.mcrfs 7 5) ∧
    decode 0xFF80110C = .instr (.mtfsfi 7 1 false) ∧
    decode 0xFC100D8F = .instr (.mtfsf 8 1 true) ∧
    decode 0xFEE0008C = .instr (.mtfsb0 23 false) ∧
    decode 0xFF00004D = .instr (.mtfsb1 24 true) := by decide

theorem test_decode_storage_control :
    decode 0x7C001FAC = .instr (.icbi 0 3) ∧
    decode 0x4C00012C = .instr .isync ∧
    decode 0x7C042A2C = .instr (.dcbt 4 5) ∧
    decode 0x7C0429EC = .instr (.dcbtst 4 5) ∧
    decode 0x7C042FEC = .instr (.dcbz 4 5) ∧
    decode 0x7C00186C = .instr (.dcbst 0 3) ∧
    decode 0x7C0428AC = .instr (.dcbf 4 5) ∧
    decode 0x7C0006AC = .instr .eieio ∧
    decode 0x7C6C42E6 = .instr (.mftb 3 268) := by decide

theorem test_decode_supervisor_1 :
    decode 0x4C000064 = .instr .rfi ∧
    decode 0x7C600124 = .instr (.mtmsr 3) ∧
    decode 0x7C6000A6 = .instr (.mfmsr 3) ∧
    decode 0x7C6501A4 = .instr (.mtsr 5 3) ∧
    decode 0x7C6021E4 = .instr (.mtsrin 3 4) ∧
    decode 0x7C6504A6 = .instr (.mfsr 3 5) ∧
    decode 0x7C602526 = .instr (.mfsrin 3 4) ∧
    decode 0x7C001BAC = .instr (.dcbi 0 3) := by decide

theorem test_decode_supervisor_2 :
    decode 0x7C002364 = .instr (.slbie 4) ∧
    decode 0x7C0003E4 = .instr .slbia ∧
    decode 0x7C002264 = .instr (.tlbie 4) ∧
    decode 0x7C0002E4 = .instr .tlbia ∧
    decode 0x7C00046C = .instr .tlbsync ∧
    decode 0x7C642A6C = .instr (.eciwx 3 4 5) ∧
    decode 0x7C642B6C = .instr (.ecowx 3 4 5) := by decide

/-! ## Effects: rows of the vector files, one for an instruction -/

/-- Branches, system call and Condition Register logic: values of 96 of the vector files, lines 21, 26, 36, 39, 65,
47, 48. -/
theorem test_branches_1 :
    got (exec (.b 16 false true) { narrow with pc := 0xFFFFFFFC }) (fun t => (t.pc, t.lr)) = some (0x3C, 0x0) ∧
    got (exec (.bc 16 0 8 false false) { narrow with ctr := 0x100000001 })
      (fun t => (t.ctr, t.pc)) = some (0x100000000, 0x104) ∧
    got (exec (.bclr 20 0 true) { base with lr := 0x3000 }) (fun t => (t.pc, t.lr)) = some (0x3000, 0x104) ∧
    got (exec (.bcctr 20 0 false) { base with ctr := 0x4002 }) (fun t => (t.pc, t.ctr)) = some (0x4000, 0x4002) ∧
    got (exec .sc { base32 with pc := 0x2000, msr := 0xD032 })
      (fun t => (t.srr0, t.msr, t.pc)) = some (0x2004, 0x1000, 0xC00) ∧
    got (exec (.crand 0 1 2) { base with cr := 0x60000000 }) (·.cr) = some 0xE0000000 ∧
    got (exec (.cror 0 1 2) { base with cr := 0x40000000 }) (·.cr) = some 0xC0000000 := by decide

/-- Branches, system call and Condition Register logic: values of 96 of the vector files, lines 49, 52, 51, 50, 53,
54, 56. -/
theorem test_branches_2 :
    got (exec (.crxor 3 3 3) { base with cr := 0x10000000 }) (·.cr) = some 0x0 ∧
    got (exec (.crnand 4 0 1) { base with cr := 0xC0000000 }) (·.cr) = some 0xC0000000 ∧
    got (exec (.crnor 2 2 2) { base with cr := 0x0 }) (·.cr) = some 0x20000000 ∧
    got (exec (.creqv 31 31 31) { base with cr := 0x0 }) (·.cr) = some 0x1 ∧
    got (exec (.crandc 4 0 1) { base with cr := 0x80000000 }) (·.cr) = some 0x88000000 ∧
    got (exec (.crorc 4 0 1) { base with cr := 0x0 }) (·.cr) = some 0x8000000 ∧
    got (exec (.mcrf 7 0) { base with cr := 0xA0000005 }) (·.cr) = some 0xA000000A := by decide

/-- Fixed-point loads: values of 96 of the vector files, lines 76, 93, 77, 78, 94, 89. -/
theorem test_loads_1 :
    got (exec (.lbz 3 9 4) (stored |> gpr 4 0x1000)) (fun t => t.x 3) = some 0x99 ∧
    got (exec (.lbzu 3 0xFFFF 4) (stored |> gpr 4 0x1010)) (fun t => (t.x 3, t.x 4)) = some (0xFF, 0x100F) ∧
    got (exec (.lhz 3 8 4) (stored |> gpr 4 0x1000)) (fun t => t.x 3) = some 0x8899 ∧
    got (exec (.lha 3 8 4) (stored |> gpr 4 0x1000)) (fun t => t.x 3) = some 0xFFFFFFFFFFFF8899 ∧
    got (exec (.lhau 3 14 4) (stored |> gpr 4 0x1000)) (fun t => (t.x 3, t.x 4)) = some (0xFFFFFFFFFFFFEEFF, 0x100E) ∧
    got (exec (.lhax 3 4 5) (stored |> gpr 4 0x1000 |> gpr 5 0xC)) (fun t => t.x 3) = some 0xFFFFFFFFFFFFCCDD := by decide

/-- Fixed-point loads: values of 96 of the vector files, lines 80, 92, 87, 96, 81, 90. -/
theorem test_loads_2 :
    got (exec (.lwz 3 12 4) (stored |> gpr 4 0x1000)) (fun t => t.x 3) = some 0xCCDDEEFF ∧
    got (exec (.lwzu 3 4 4) (stored |> gpr 4 0x1000)) (fun t => (t.x 3, t.x 4)) = some (0x44556677, 0x1004) ∧
    got (exec (.lwzx 3 4 5) (stored |> gpr 4 0x1000 |> gpr 5 0x8)) (fun t => t.x 3) = some 0x8899AABB ∧
    got (exec (.lwzux 3 4 5) (stored |> gpr 4 0x1000 |> gpr 5 0xC))
      (fun t => (t.x 3, t.x 4)) = some (0xCCDDEEFF, 0x100C) ∧
    got (exec (.lwa 3 3 4) (stored |> gpr 4 0x1000)) (fun t => t.x 3) = some 0xFFFFFFFFCCDDEEFF ∧
    got (exec (.lwax 3 0 5) (stored |> gpr 5 0x1008)) (fun t => t.x 3) = some 0xFFFFFFFF8899AABB := by decide

/-- Fixed-point loads: values of 96 of the vector files, lines 97, 82, 95, 91. -/
theorem test_loads_3 :
    got (exec (.lwaux 3 4 5) (stored |> gpr 4 0x1000 |> gpr 5 0xC))
      (fun t => (t.x 3, t.x 4)) = some (0xFFFFFFFFCCDDEEFF, 0x100C) ∧
    got (exec (.ld 3 2 4) (stored |> gpr 4 0x1000)) (fun t => t.x 3) = some 0x8899AABBCCDDEEFF ∧
    got (exec (.ldu 3 2 4) (stored |> gpr 4 0x1000)) (fun t => (t.x 3, t.x 4)) = some (0x8899AABBCCDDEEFF, 0x1008) ∧
    got (exec (.ldx 3 4 5) (stored |> gpr 4 0x1000 |> gpr 5 0x0)) (fun t => t.x 3) = some 0x11223344556677 := by decide

/-- Fixed-point stores: values of 96 of the vector files, lines 108, 115, 109, 110. -/
theorem test_stores_1 :
    got (exec (.stb 3 1 4) (base |> gpr 3 0x0102030405060708 |> gpr 3 0x102030405060708 |> gpr 4 0x1000))
      (fun t => bytesAt 0x1000 4 t) = some [0x0, 0x8, 0x0, 0x0] ∧
    got (exec (.stbux 3 4 5) (base |> gpr 3 0x0102030405060708 |> gpr 3 0x102030405060708 |> gpr 4 0x1000
        |> gpr 5 0x3))
      (fun t => (bytesAt 0x1000 4 t, t.x 4)) = some ([0x0, 0x0, 0x0, 0x8], 0x1003) ∧
    got (exec (.sth 3 2 4) (base |> gpr 3 0x0102030405060708 |> gpr 3 0x102030405060708 |> gpr 4 0x1000))
      (fun t => bytesAt 0x1000 4 t) = some [0x0, 0x0, 0x7, 0x8] ∧
    got (exec (.stw 3 4 4) (base |> gpr 3 0x0102030405060708 |> gpr 3 0x102030405060708 |> gpr 4 0x1000))
      (fun t => bytesAt 0x1000 8 t) = some [0x0, 0x0, 0x0, 0x0, 0x5, 0x6, 0x7, 0x8] := by decide

/-- Fixed-point stores: values of 96 of the vector files, lines 113, 116, 111, 114. -/
theorem test_stores_2 :
    got (exec (.stwu 3 0xFFF8 4) (base |> gpr 3 0x0102030405060708 |> gpr 3 0x102030405060708 |> gpr 4 0x1000))
      (fun t => (bytesAt 0xFF8 4 t, t.x 4)) = some ([0x5, 0x6, 0x7, 0x8], 0xFF8) ∧
    got (exec (.stwx 3 0 4) (base |> gpr 3 0x0102030405060708 |> gpr 3 0x102030405060708 |> gpr 4 0x1000))
      (fun t => bytesAt 0x1000 4 t) = some [0x5, 0x6, 0x7, 0x8] ∧
    got (exec (.std 3 2 4) (base |> gpr 3 0x0102030405060708 |> gpr 3 0x102030405060708 |> gpr 4 0x1000))
      (fun t => bytesAt 0x1008 8 t) = some [0x1, 0x2, 0x3, 0x4, 0x5, 0x6, 0x7, 0x8] ∧
    got (exec (.stdu 3 0x3FFC 4) (base |> gpr 3 0x0102030405060708 |> gpr 3 0x102030405060708 |> gpr 4 0x1000))
      (fun t => (bytesAt 0xFF0 8 t, t.x 4)) = some ([0x1, 0x2, 0x3, 0x4, 0x5, 0x6, 0x7, 0x8], 0xFF0) := by decide

/-- Byte-reversal, multiple, string, reservation instructions and sync: values of 96 of the vector files, lines 99,
100, 117, 118, 125. -/
theorem test_reversal_multiple_string_1 :
    got (exec (.lhbrx 3 4 5) (stored |> gpr 4 0x1000 |> gpr 5 0x2)) (fun t => t.x 3) = some 0x3322 ∧
    got (exec (.lwbrx 3 4 5) (stored |> gpr 4 0x1000 |> gpr 5 0x4)) (fun t => t.x 3) = some 0x77665544 ∧
    got (exec (.sthbrx 3 0 4) (base |> gpr 3 0x0102030405060708 |> gpr 3 0x102030405060708 |> gpr 4 0x1000))
      (fun t => bytesAt 0x1000 2 t) = some [0x8, 0x7] ∧
    got (exec (.stwbrx 3 0 4) (base |> gpr 3 0x0102030405060708 |> gpr 3 0x102030405060708 |> gpr 4 0x1000))
      (fun t => bytesAt 0x1000 4 t) = some [0x8, 0x7, 0x6, 0x5] ∧
    got (exec (.lmw 29 4 4) (stored |> gpr 4 0x1000))
      (fun t => (t.x 29, t.x 30, t.x 31)) = some (0x44556677, 0x8899AABB, 0xCCDDEEFF) := by decide

/-- Byte-reversal, multiple, string, reservation instructions and sync: values of 96 of the vector files, lines 126,
129, 130, 132, 133. -/
theorem test_reversal_multiple_string_2 :
    got (exec (.stmw 29 0 4) (base |> gpr 29 0x11111111AAAAAAAA |> gpr 30 0x22222222BBBBBBBB
        |> gpr 31 0x33333333CCCCCCCC |> gpr 4 0x2000))
      (fun t => bytesAt 0x2000 12 t) = some [0xAA, 0xAA, 0xAA, 0xAA, 0xBB, 0xBB, 0xBB, 0xBB, 0xCC, 0xCC, 0xCC, 0xCC] ∧
    got (exec (.lswi 5 4 0) (stored |> gpr 4 0x1000))
      (fun t => (t.x 5, t.x 6, t.x 12)) = some (0x112233, 0x44556677, 0x0) ∧
    got (exec (.lswx 5 4 6) { (stored |> gpr 4 0x1000 |> gpr 6 0x1) with xer := 0x3 })
      (fun t => t.x 5) = some 0x11223300 ∧
    got (exec (.stswi 29 4 5) (base |> gpr 29 0x11111111AAAAAAAA |> gpr 30 0x22222222BBBBBBBB
        |> gpr 31 0x33333333CCCCCCCC |> gpr 4 0x2000))
      (fun t => bytesAt 0x2000 8 t) = some [0xAA, 0xAA, 0xAA, 0xAA, 0xBB, 0x0, 0x0, 0x0] ∧
    got (exec (.stswx 29 0 4) { (base |> gpr 29 0x11111111AAAAAAAA |> gpr 30 0x22222222BBBBBBBB
        |> gpr 31 0x33333333CCCCCCCC |> gpr 4 0x2000) with xer := 0x20000002 })
      (fun t => bytesAt 0x2000 4 t) = some [0xAA, 0xAA, 0x0, 0x0] := by decide

/-- Fixed-point arithmetic: values of 96 of the vector files, lines 186, 188, 193, 217, 204, 206. -/
theorem test_arithmetic_1 :
    got (exec (.addi 3 4 0xFFFF) (base |> gpr 4 0x0)) (fun t => t.x 3) = some 0xFFFFFFFFFFFFFFFF ∧
    got (exec (.addis 3 4 0x8000) (base |> gpr 4 0x1)) (fun t => t.x 3) = some 0xFFFFFFFF80000001 ∧
    got (exec (.add 3 4 5 true false) (narrow |> gpr 4 0x7FFFFFFF |> gpr 5 0x1))
      (fun t => (t.x 3, t.ov, t.so)) = some (0x80000000, true, true) ∧
    got (exec (.subf 3 4 5 true false) (base |> gpr 4 0x1 |> gpr 5 0x8000000000000000))
      (fun t => (t.x 3, t.ov, t.so)) = some (0x7FFFFFFFFFFFFFFF, true, true) ∧
    got (exec (.addic 3 4 0xFFFF) (base |> gpr 4 0x1)) (fun t => (t.x 3, t.ca)) = some (0x0, true) ∧
    got (exec (.addicDot 3 4 1) (base |> gpr 4 0xFFFFFFFFFFFFFFFF))
      (fun t => (t.x 3, t.ca, t.crField 0)) = some (0x0, true, 0b0010) := by decide

/-- Fixed-point arithmetic: values of 96 of the vector files, lines 215, 198, 208, 199, 211, 201. -/
theorem test_arithmetic_2 :
    got (exec (.subfic 3 4 10) (base |> gpr 4 0x3)) (fun t => (t.x 3, t.ca)) = some (0x7, true) ∧
    got (exec (.addc 3 4 5 false false) (narrow |> gpr 4 0xFFFFFFFF |> gpr 5 0x1))
      (fun t => (t.x 3, t.ca)) = some (0x100000000, true) ∧
    got (exec (.subfc 3 4 5 false false) (base |> gpr 4 0x5 |> gpr 5 0x3))
      (fun t => (t.x 3, t.ca)) = some (0xFFFFFFFFFFFFFFFE, false) ∧
    got (exec (.adde 3 4 5 false false) { (base |> gpr 4 0xFFFFFFFFFFFFFFFF |> gpr 5 0x0) with xer := 0x20000000 })
      (fun t => (t.x 3, t.ca)) = some (0x0, true) ∧
    got (exec (.subfe 3 4 5 false false) { (base |> gpr 4 0x3 |> gpr 5 0x5) with xer := 0x0 })
      (fun t => (t.x 3, t.ca)) = some (0x1, true) ∧
    got (exec (.addme 3 4 false false) { (base |> gpr 4 0x0) with xer := 0x0 })
      (fun t => (t.x 3, t.ca)) = some (0xFFFFFFFFFFFFFFFF, false) := by decide

/-- Fixed-point arithmetic: values of 96 of the vector files, lines 213, 203, 214, 221, 228, 239. -/
theorem test_arithmetic_3 :
    got (exec (.subfme 3 4 false false) { (base |> gpr 4 0x0) with xer := 0x20000000 })
      (fun t => (t.x 3, t.ca)) = some (0xFFFFFFFFFFFFFFFF, true) ∧
    got (exec (.addze 3 4 false false) { (base |> gpr 4 0xFFFFFFFFFFFFFFFF) with xer := 0x20000000 })
      (fun t => (t.x 3, t.ca)) = some (0x0, true) ∧
    got (exec (.subfze 3 4 false false) { (base |> gpr 4 0x0) with xer := 0x20000000 })
      (fun t => (t.x 3, t.ca)) = some (0x0, true) ∧
    got (exec (.neg 3 4 true false) (narrow |> gpr 4 0x80000000))
      (fun t => (t.x 3, t.ov, t.so)) = some (0xFFFFFFFF80000000, true, true) ∧
    got (exec (.mulli 3 4 0xFFFD) (base |> gpr 4 0x7)) (fun t => t.x 3) = some 0xFFFFFFFFFFFFFFEB ∧
    got (exec (.mulld 3 4 5 true false) (base |> gpr 4 0x100000000 |> gpr 5 0x100000000))
      (fun t => (t.x 3, t.ov, t.so)) = some (0x0, true, true) := by decide

/-- Fixed-point arithmetic: values of 96 of the vector files, lines 232, 240, 241, 249, 248. -/
theorem test_arithmetic_4 :
    got (exec (.mullw 3 4 5 true false) (base |> gpr 4 0x10000 |> gpr 5 0x10000))
      (fun t => (t.x 3, t.ov, t.so)) = some (0x100000000, true, true) ∧
    got (exec (.mulhd 3 4 5 false) (base |> gpr 4 0x8000000000000000 |> gpr 5 0x2))
      (fun t => t.x 3) = some 0xFFFFFFFFFFFFFFFF ∧
    got (exec (.mulhdu 3 4 5 false) (base |> gpr 4 0x8000000000000000 |> gpr 5 0x2)) (fun t => t.x 3) = some 0x1 ∧
    got (exec (.divd 3 4 5 true false) (base |> gpr 4 0x64 |> gpr 5 0x7))
      (fun t => (t.x 3, t.ov, t.so)) = some (0xE, false, false) ∧
    got (exec (.divdu 3 4 5 false false) (base |> gpr 4 0xFFFFFFFFFFFFFFF9 |> gpr 5 0x2))
      (fun t => t.x 3) = some 0x7FFFFFFFFFFFFFFC := by decide

/-- Compares and traps: values of 96 of the vector files, lines 268, 271, 273, 274. -/
theorem test_compares :
    got (exec (.cmpi 0 false 3 0xFFFF) (base |> gpr 3 0xFFFFFFFF)) (fun t => t.crField 0) = some 0b0010 ∧
    got (exec (.cmp 1 false 3 4) (base |> gpr 3 0x100000000 |> gpr 4 0x1)) (fun t => t.crField 1) = some 0b1000 ∧
    got (exec (.cmpli 0 false 3 0xFFFF) (base |> gpr 3 0xFFFFFFFF)) (fun t => t.crField 0) = some 0b0100 ∧
    got (exec (.cmpl 0 false 3 4) (base |> gpr 3 0x80000000 |> gpr 4 0x1)) (fun t => t.crField 0) = some 0b0100 := by decide

/-- Logical instructions: values of 96 of the vector files, lines 310, 313, 315, 316, 317, 318, 319. -/
theorem test_logical_1 :
    got (exec (.andiDot 3 4 0xFF00) (base |> gpr 4 0x0123456789ABCDEF))
      (fun t => (t.x 3, t.crField 0)) = some (0xCD00, 0b0100) ∧
    got (exec (.andisDot 3 4 0x8000) (narrow |> gpr 4 0x0123456789ABCDEF))
      (fun t => (t.x 3, t.crField 0)) = some (0x80000000, 0b1000) ∧
    got (exec (.ori 0 0 0) (base |> gpr 4 0x0123456789ABCDEF |> gpr 0 0x55)) (fun t => t.x 0) = some 0x55 ∧
    got (exec (.oris 3 4 0xFFFF) (base |> gpr 4 0x0123456789ABCDEF)) (fun t => t.x 3) = some 0x1234567FFFFCDEF ∧
    got (exec (.xori 3 4 0xFFFF) (base |> gpr 4 0x0123456789ABCDEF)) (fun t => t.x 3) = some 0x123456789AB3210 ∧
    got (exec (.xoris 3 4 0xFFFF) (base |> gpr 4 0x0123456789ABCDEF)) (fun t => t.x 3) = some 0x12345677654CDEF ∧
    got (exec (.and 3 4 5 false) (base |> gpr 4 0x0123456789ABCDEF |> gpr 5 0xFFFF0000FFFF0000))
      (fun t => t.x 3) = some 0x123000089AB0000 := by decide

/-- Logical instructions: values of 96 of the vector files, lines 320, 321, 322, 323, 324, 325, 326. -/
theorem test_logical_2 :
    got (exec (.or 3 4 4 false) (base |> gpr 4 0x0123456789ABCDEF)) (fun t => t.x 3) = some 0x123456789ABCDEF ∧
    got (exec (.xor 3 4 4 true) (base |> gpr 4 0x0123456789ABCDEF))
      (fun t => (t.x 3, t.crField 0)) = some (0x0, 0b0010) ∧
    got (exec (.nand 3 4 4 false) (base |> gpr 4 0x0123456789ABCDEF)) (fun t => t.x 3) = some 0xFEDCBA9876543210 ∧
    got (exec (.nor 3 4 4 false) (base |> gpr 4 0x0123456789ABCDEF)) (fun t => t.x 3) = some 0xFEDCBA9876543210 ∧
    got (exec (.eqv 3 4 5 false) (base |> gpr 4 0x0123456789ABCDEF |> gpr 5 0x0))
      (fun t => t.x 3) = some 0xFEDCBA9876543210 ∧
    got (exec (.andc 3 4 5 false) (base |> gpr 4 0x0123456789ABCDEF |> gpr 5 0xFFFFFFFF))
      (fun t => t.x 3) = some 0x123456700000000 ∧
    got (exec (.orc 3 4 5 false) (base |> gpr 4 0x0123456789ABCDEF |> gpr 5 0xFFFFFFFF))
      (fun t => t.x 3) = some 0xFFFFFFFF89ABCDEF := by decide

/-- Logical instructions: values of 96 of the vector files, lines 328, 329, 330, 336, 332. -/
theorem test_logical_3 :
    got (exec (.extsb 3 5 false) (base |> gpr 4 0x0123456789ABCDEF |> gpr 5 0x17F)) (fun t => t.x 3) = some 0x7F ∧
    got (exec (.extsh 3 4 true) (base |> gpr 4 0x0123456789ABCDEF))
      (fun t => (t.x 3, t.crField 0)) = some (0xFFFFFFFFFFFFCDEF, 0b1000) ∧
    got (exec (.extsw 3 4 false) (base |> gpr 4 0x0123456789ABCDEF)) (fun t => t.x 3) = some 0xFFFFFFFF89ABCDEF ∧
    got (exec (.cntlzd 3 5 true) (base |> gpr 4 0x0123456789ABCDEF |> gpr 5 0x8000000000000000))
      (fun t => (t.x 3, t.crField 0)) = some (0x0, 0b0010) ∧
    got (exec (.cntlzw 3 5 false) (base |> gpr 4 0x0123456789ABCDEF |> gpr 5 0xFFFFFFFF00000000))
      (fun t => t.x 3) = some 0x20 := by decide

/-- Rotates and shifts: values of 96 of the vector files, lines 354, 357, 359, 348, 363, 365. -/
theorem test_rotates_shifts_1 :
    got (exec (.rldicl 3 4 0 32 false) (base |> gpr 4 0x0123456789ABCDEF)) (fun t => t.x 3) = some 0x89ABCDEF ∧
    got (exec (.rldicr 3 4 4 59 false) (base |> gpr 4 0x0123456789ABCDEF))
      (fun t => t.x 3) = some 0x123456789ABCDEF0 ∧
    got (exec (.rldic 3 4 4 32 false) (base |> gpr 4 0x0123456789ABCDEF)) (fun t => t.x 3) = some 0x9ABCDEF0 ∧
    got (exec (.rlwinm 3 4 0 0 0 true) (narrow |> gpr 4 0x0123456789ABCDEF))
      (fun t => (t.x 3, t.crField 0)) = some (0x80000000, 0b1000) ∧
    got (exec (.rldcl 3 4 5 0 false) (base |> gpr 4 0x0123456789ABCDEF |> gpr 5 0x48))
      (fun t => t.x 3) = some 0x23456789ABCDEF01 ∧
    got (exec (.rldcr 3 4 5 7 false) (base |> gpr 4 0x0123456789ABCDEF |> gpr 5 0x8))
      (fun t => t.x 3) = some 0x2300000000000000 := by decide

/-- Rotates and shifts: values of 96 of the vector files, lines 349, 361, 351, 380, 371, 385. -/
theorem test_rotates_shifts_2 :
    got (exec (.rlwnm 3 4 5 0 31 false) (base |> gpr 4 0x0123456789ABCDEF |> gpr 5 0x24))
      (fun t => t.x 3) = some 0x9ABCDEF8 ∧
    got (exec (.rldimi 3 4 32 0 false) (base |> gpr 4 0x0123456789ABCDEF |> gpr 3 0x1111111122222222))
      (fun t => t.x 3) = some 0x89ABCDEF22222222 ∧
    got (exec (.rlwimi 3 4 0 16 31 false) (base |> gpr 4 0x0123456789ABCDEF |> gpr 3 0xFFFFFFFFFFFFFFFF))
      (fun t => t.x 3) = some 0xFFFFFFFFFFFFCDEF ∧
    got (exec (.sld 3 4 5 false) (base |> gpr 4 0x0123456789ABCDEF |> gpr 5 0x4))
      (fun t => t.x 3) = some 0x123456789ABCDEF0 ∧
    got (exec (.slw 3 4 5 false) (base |> gpr 4 0x0123456789ABCDEF |> gpr 5 0x0)) (fun t => t.x 3) = some 0x89ABCDEF ∧
    got (exec (.srd 3 4 5 false) (base |> gpr 4 0x0123456789ABCDEF |> gpr 5 0x4))
      (fun t => t.x 3) = some 0x123456789ABCDE := by decide

/-- Rotates and shifts: values of 96 of the vector files, lines 377, 396, 391, 398, 393. -/
theorem test_rotates_shifts_3 :
    got (exec (.srw 3 4 5 false) (base |> gpr 4 0x0123456789ABCDEF |> gpr 5 0x4)) (fun t => t.x 3) = some 0x89ABCDE ∧
    got (exec (.sradi 3 5 63 false) (base |> gpr 4 0x0123456789ABCDEF |> gpr 5 0x8000000000000001))
      (fun t => (t.x 3, t.ca)) = some (0xFFFFFFFFFFFFFFFF, true) ∧
    got (exec (.srawi 3 5 31 true) (base |> gpr 4 0x0123456789ABCDEF |> gpr 5 0x80000000))
      (fun t => (t.x 3, t.ca, t.crField 0)) = some (0xFFFFFFFFFFFFFFFF, false, 0b1000) ∧
    got (exec (.srad 3 5 6 false) (base |> gpr 4 0x0123456789ABCDEF |> gpr 5 0x8000000000000000 |> gpr 6 0x40))
      (fun t => (t.x 3, t.ca)) = some (0xFFFFFFFFFFFFFFFF, true) ∧
    got (exec (.sraw 3 5 6 false) (base |> gpr 4 0x0123456789ABCDEF |> gpr 5 0x7FFFFFFF |> gpr 6 0x28))
      (fun t => (t.x 3, t.ca)) = some (0x0, false) := by decide

/-- Moves to and from special registers and the CR: values of 96 of the vector files, lines 413, 416, 406, 411, 410.
-/
theorem test_moves :
    got (exec (.mtspr 8 3) (base |> gpr 3 0x1234567800001003)) (·.lr) = some 0x1234567800001003 ∧
    got (exec (.mfspr 3 9) { narrow with ctr := 0x100000000 }) (fun t => t.x 3) = some 0x100000000 ∧
    got (exec (.mtcrf 255 3) { (base |> gpr 3 0xFFFFFFFF12345678) with cr := 0x0 }) (·.cr) = some 0x12345678 ∧
    got (exec (.mcrxr 0) { base with xer := 0xE0000003, cr := 0x0 })
      (fun t => (t.cr, t.xer)) = some (0xE0000000, 0x3) ∧
    got (exec (.mfcr 3) { (base |> gpr 3 0xFFFFFFFFFFFFFFFF) with cr := 0x2000000F })
      (fun t => t.x 3) = some 0x2000000F := by decide

/-- Floating-point loads, stores and moves: values of 97 of the vector files, lines 13, 16, 17, 18, 19, 20, 21. -/
theorem test_float_moves_1 :
    got (exec (.lfs 1 0 4) (floats |> gpr 4 0x2000)) (fun t => t.f 1) = some 0x3FF8000000000000 ∧
    got (exec (.lfsx 1 4 5) (floats |> gpr 4 0x2000 |> gpr 5 0x4)) (fun t => t.f 1) = some 0x36A0000000000000 ∧
    got (exec (.lfsu 1 4 4) (floats |> gpr 4 0x2000)) (fun t => (t.f 1, t.x 4)) = some (0x36A0000000000000, 0x2004) ∧
    got (exec (.lfsux 1 4 5) (floats |> gpr 4 0x2000 |> gpr 5 0x10))
      (fun t => (t.f 1, t.x 4)) = some (0x7FF4000000000000, 0x2010) ∧
    got (exec (.lfd 1 8 4) (floats |> gpr 4 0x2000)) (fun t => t.f 1) = some 0x400921FB54442D18 ∧
    got (exec (.lfdx 1 4 5) (floats |> gpr 4 0x2000 |> gpr 5 0x8)) (fun t => t.f 1) = some 0x400921FB54442D18 ∧
    got (exec (.lfdu 1 8 4) (floats |> gpr 4 0x2000)) (fun t => (t.f 1, t.x 4)) = some (0x400921FB54442D18, 0x2008) := by decide

/-- Floating-point loads, stores and moves: values of 97 of the vector files, lines 22, 29, 37, 38, 39, 40, 41. -/
theorem test_float_moves_2 :
    got (exec (.lfdux 1 4 5) (floats |> gpr 4 0x2000 |> gpr 5 0x8))
      (fun t => (t.f 1, t.x 4)) = some (0x400921FB54442D18, 0x2008) ∧
    got (exec (.stfs 1 0 4) (base |> gpr 4 0x3000 |> fpr 1 0x3FF8000000000000))
      (fun t => bytesAt 0x3000 4 t) = some [0x3F, 0xC0, 0x0, 0x0] ∧
    got (exec (.stfsx 1 0 4) (base |> gpr 4 0x3000 |> fpr 1 0x3FF8000000000000))
      (fun t => bytesAt 0x3000 4 t) = some [0x3F, 0xC0, 0x0, 0x0] ∧
    got (exec (.stfsu 1 8 4) (base |> gpr 4 0x3000 |> fpr 1 0x3FF8000000000000))
      (fun t => (bytesAt 0x3008 4 t, t.x 4)) = some ([0x3F, 0xC0, 0x0, 0x0], 0x3008) ∧
    got (exec (.stfsux 1 4 4) (base |> gpr 4 0x3000 |> fpr 1 0x3FF8000000000000))
      (fun t => (bytesAt 0x6000 4 t, t.x 4)) = some ([0x3F, 0xC0, 0x0, 0x0], 0x6000) ∧
    got (exec (.stfd 1 0 4) (base |> gpr 4 0x3000 |> fpr 1 0x7FF4000000000001))
      (fun t => bytesAt 0x3000 8 t) = some [0x7F, 0xF4, 0x0, 0x0, 0x0, 0x0, 0x0, 0x1] ∧
    got (exec (.stfdx 1 0 4) (base |> gpr 4 0x3000 |> fpr 1 0x400921FB54442D18))
      (fun t => bytesAt 0x3000 8 t) = some [0x40, 0x9, 0x21, 0xFB, 0x54, 0x44, 0x2D, 0x18] := by decide

/-- Floating-point loads, stores and moves: values of 97 of the vector files, lines 42, 43, 44, 58, 53, 55, 56. -/
theorem test_float_moves_3 :
    got (exec (.stfdu 1 0xFFF8 4) (base |> gpr 4 0x3000 |> fpr 1 0x400921FB54442D18))
      (fun t => (bytesAt 0x2FF8 8 t, t.x 4)) = some ([0x40, 0x9, 0x21, 0xFB, 0x54, 0x44, 0x2D, 0x18], 0x2FF8) ∧
    got (exec (.stfdux 1 4 4) (base |> gpr 4 0x3000 |> fpr 1 0x400921FB54442D18))
      (fun t => (bytesAt 0x6000 8 t, t.x 4)) = some ([0x40, 0x9, 0x21, 0xFB, 0x54, 0x44, 0x2D, 0x18], 0x6000) ∧
    got (exec (.stfiwx 1 0 4) (base |> gpr 4 0x3000 |> fpr 1 0xFFF8000012345678))
      (fun t => bytesAt 0x3000 4 t) = some [0x12, 0x34, 0x56, 0x78] ∧
    got (exec (.fmr 1 2 true) { (base |> fpr 2 0x3FF0000000000000) with fpscr := 0xA1000000 })
      (fun t => (t.f 1, t.crField 1)) = some (0x3FF0000000000000, 0b1010) ∧
    got (exec (.fneg 1 2 false) (base |> fpr 2 0x0)) (fun t => t.f 1) = some 0x8000000000000000 ∧
    got (exec (.fabs 1 2 false) (base |> fpr 2 0xC008000000000000)) (fun t => t.f 1) = some 0x4008000000000000 ∧
    got (exec (.fnabs 1 2 false) (base |> fpr 2 0x4008000000000000)) (fun t => t.f 1) = some 0xC008000000000000 := by decide

/-- Floating-point arithmetic: values of 97 of the vector files, lines 165, 105, 73, 111, 87, 109, 166. -/
theorem test_float_arithmetic_1 :
    got (exec (.fadd 1 2 3 true) (base |> fpr 2 0x3FF0000000000000 |> fpr 3 0x3CA0000000000000))
      (fun t => (t.f 1, t.fpscr, t.crField 1)) = some (0x3FF0000000000000, 0x82024000, 0b1000) ∧
    got (exec (.fadds 1 2 3 false) (base |> fpr 2 0x3FF0000000000000 |> fpr 3 0x3E70000000000000))
      (fun t => (t.f 1, t.fpscr)) = some (0x3FF0000000000000, 0x82024000) ∧
    got (exec (.fsub 1 2 3 false) (base |> fpr 2 0x3FF0000000000000 |> fpr 3 0x3FF0000000000000))
      (fun t => (t.f 1, t.fpscr)) = some (0x0, 0x2000) ∧
    got (exec (.fsubs 1 2 3 false) { (base |> fpr 2 0x36A0000000000000
        |> fpr 3 0x36A0000000000000) with fpscr := 0x3 })
      (fun t => (t.f 1, t.fpscr)) = some (0x8000000000000000, 0x12003) ∧
    got (exec (.fmul 1 2 3 false) (base |> fpr 2 0x4008000000000000 |> fpr 3 0xC000000000000000))
      (fun t => (t.f 1, t.fpscr)) = some (0xC018000000000000, 0x8000) ∧
    got (exec (.fmuls 1 2 3 false) (base |> fpr 2 0x3810000000000000 |> fpr 3 0x3FE0000000000000))
      (fun t => (t.f 1, t.fpscr)) = some (0x3800000000000000, 0x14000) ∧
    got (exec (.fdiv 1 2 3 true) { (base |> fpr 2 0x0 |> fpr 3 0x0) with fpscr := 0x80 })
      (fun t => (t.f 1, t.fpscr, t.crField 1)) = some (0x0, 0xE0200080, 0b1110) := by decide

/-- Floating-point arithmetic: values of 97 of the vector files, lines 110, 117, 125, 118, 126, 119, 127. -/
theorem test_float_arithmetic_2 :
    got (exec (.fdivs 1 2 3 false) (base |> fpr 2 0x3FF0000000000000 |> fpr 3 0x4008000000000000))
      (fun t => (t.f 1, t.fpscr)) = some (0x3FD5555560000000, 0x82064000) ∧
    got (exec (.fmadd 1 2 3 4 false) (base |> fpr 2 0x3FF0000000000001 |> fpr 3 0x3FF0000000000001
        |> fpr 4 0xBFF0000000000002))
      (fun t => (t.f 1, t.fpscr)) = some (0x3970000000000000, 0x4000) ∧
    got (exec (.fmadds 1 2 3 4 false) (base |> fpr 2 0x3FF0000020000000 |> fpr 3 0x3FF0000020000000
        |> fpr 4 0xBFF0000040000000))
      (fun t => (t.f 1, t.fpscr)) = some (0x3D10000000000000, 0x4000) ∧
    got (exec (.fmsub 1 2 3 4 false) (base |> fpr 2 0x3FF0000000000001 |> fpr 3 0x3FF0000000000001
        |> fpr 4 0x3FF0000000000002))
      (fun t => (t.f 1, t.fpscr)) = some (0x3970000000000000, 0x4000) ∧
    got (exec (.fmsubs 1 2 3 4 false) (base |> fpr 2 0x4000000000000000 |> fpr 3 0x4008000000000000
        |> fpr 4 0x3FF0000000000000))
      (fun t => (t.f 1, t.fpscr)) = some (0x4014000000000000, 0x4000) ∧
    got (exec (.fnmadd 1 2 3 4 false) (base |> fpr 2 0x4000000000000000 |> fpr 3 0x4008000000000000
        |> fpr 4 0x3FF0000000000000))
      (fun t => (t.f 1, t.fpscr)) = some (0xC01C000000000000, 0x8000) ∧
    got (exec (.fnmadds 1 2 3 4 false) (base |> fpr 2 0x4000000000000000 |> fpr 3 0x4008000000000000
        |> fpr 4 0x3FF0000000000000))
      (fun t => (t.f 1, t.fpscr)) = some (0xC01C000000000000, 0x8000) := by decide

/-- Floating-point arithmetic: values of 97 of the vector files, lines 120, 128, 140, 142, 155. -/
theorem test_float_arithmetic_3 :
    got (exec (.fnmsub 1 2 3 4 false) (base |> fpr 2 0x4000000000000000 |> fpr 3 0x4008000000000000
        |> fpr 4 0x3FF0000000000000))
      (fun t => (t.f 1, t.fpscr)) = some (0xC014000000000000, 0x8000) ∧
    got (exec (.fnmsubs 1 2 3 4 false) (base |> fpr 2 0x4000000000000000 |> fpr 3 0x4008000000000000
        |> fpr 4 0x3FF0000000000000))
      (fun t => (t.f 1, t.fpscr)) = some (0xC014000000000000, 0x8000) ∧
    got (exec (.fsqrt 1 2 false) { (base |> fpr 2 0xFFF0000000000000 |> fpr 1 0x1111) with fpscr := 0x80 })
      (fun t => (t.f 1, t.fpscr)) = some (0x1111, 0xE0000280) ∧
    got (exec (.fsqrts 1 2 false) (base |> fpr 2 0x4000000000000000))
      (fun t => (t.f 1, t.fpscr)) = some (0x3FF6A09E60000000, 0x82024000) ∧
    got (exec (.fsel 1 2 3 4 false) (base |> fpr 3 0x3FF0000000000000 |> fpr 4 0x4000000000000000
        |> fpr 2 0x8000000000000000))
      (fun t => t.f 1) = some 0x3FF0000000000000 := by decide

/-- Rounding, conversion, comparison and FPSCR instructions: values of 97 of the vector files, lines 201, 234, 237,
251, 267, 276. -/
theorem test_float_convert_status_1 :
    got (exec (.frsp 1 2 false) { (base |> fpr 2 0x7FF4000012345678 |> fpr 1 0x1111) with fpscr := 0x80 })
      (fun t => (t.f 1, t.fpscr)) = some (0x1111, 0xE1000080) ∧
    got (exec (.fctid 1 2 false) (base |> fpr 2 0x4004000000000000)) (fun t => t.f 1) = some 0x2 ∧
    got (exec (.fctidz 1 2 false) { (base |> fpr 2 0xC004000000000000) with fpscr := 0x3 })
      (fun t => t.f 1) = some 0xFFFFFFFFFFFFFFFE ∧
    got (exec (.fcfid 1 2 false) { (base |> fpr 2 0x1) with fpscr := 0x0 })
      (fun t => (t.f 1, t.fpscr)) = some (0x3FF0000000000000, 0x4000) ∧
    got (exec (.fcmpu 2 2 4) (base |> fpr 2 0x3FF0000000000000 |> fpr 4 0x43E0000000000000))
      (fun t => (t.crField 2, t.fpscr)) = some (0b1000, 0x8000) ∧
    got (exec (.fcmpo 0 1 2) (base |> fpr 1 0x7FF8000000000000 |> fpr 2 0x0))
      (fun t => (t.crField 0, t.fpscr)) = some (0b0001, 0xA0081000) := by decide

/-- Rounding, conversion, comparison and FPSCR instructions: values of 97 of the vector files, lines 309, 299, 308,
294, 293. -/
theorem test_float_convert_status_2 :
    got (exec (.mcrfs 7 5) { base with fpscr := 0xA0000100 })
      (fun t => (t.crField 7, t.fpscr)) = some (0b0001, 0x80000000) ∧
    got (exec (.mtfsfi 0 15 true) { base with fpscr := 0x0 })
      (fun t => (t.fpscr, t.crField 1)) = some (0x90000000, 0b1001) ∧
    got (exec (.mtfsf 8 1 true) { (base |> fpr 1 0x11000) with fpscr := 0x0 })
      (fun t => (t.fpscr, t.crField 1)) = some (0x1000, 0b0000) ∧
    got (exec (.mtfsb0 23 false) { base with fpscr := 0xA0000100 }) (·.fpscr) = some 0x80000000 ∧
    got (exec (.mtfsb1 24 true) { base with fpscr := 0xA0000100 })
      (fun t => (t.fpscr, t.crField 1)) = some (0xE0000180, 0b1110) := by decide

/-- Storage control and Time Base: values of 98 of the vector files, lines 39. -/
theorem test_storage_control :
    got (exec (.mftb 3 268) { base32 with tb := 0x1FFFFFFF0 }) (fun t => t.x 3) = some 0xFFFFFFF0 := by decide

/-- Supervisor instructions and External Control: values of 98 of the vector files, lines 52, 64, 69, 98, 100, 99,
101. -/
theorem test_supervisor :
    got (exec .rfi { base32 with msr := 0x1000, srr0 := 0x2003, srr1 := 0xD032 })
      (fun t => (t.msr, t.pc)) = some (0xD032, 0x2000) ∧
    got (exec (.mtmsr 3) { (base32 |> gpr 3 0x9032) with msr := 0x1000 }) (·.msr) = some 0x9032 ∧
    got (exec (.mfmsr 3) { base32 with msr := 0x1032 }) (fun t => t.x 3) = some 0x1032 ∧
    got (exec (.mtsr 5 3) (base32 |> gpr 3 0x20000ABC)) (fun t => t.srOf 5) = some 0x20000ABC ∧
    got (exec (.mtsrin 3 4) (base32 |> gpr 3 0x777 |> gpr 4 0xA0001234)) (fun t => t.srOf 10) = some 0x777 ∧
    got (exec (.mfsr 3 5) (base32 |> seg 5 0x20000ABC)) (fun t => t.x 3) = some 0x20000ABC ∧
    got (exec (.mfsrin 3 4) (base32 |> gpr 4 0xA0001234 |> seg 10 0x777)) (fun t => t.x 3) = some 0x777 := by decide

/-! ## Effects that need more than one row or a state of their own -/

/-- The tail of 2.2 of 96: reservations. -/
theorem test_reservations :
    got (exec (.lwarx 5 0 3) (stored |> gpr 3 0x1008)) (fun t => (t.x 5, t.reserve)) = some (0x8899AABB, some 0x1008) ∧
    got (exec (.stwcxDot 4 0 3) ({ stored with reserve := some 0x1008 } |> gpr 3 0x1008 |> gpr 4 0xDEADBEEF))
      (fun t => (bytesAt 0x1008 4 t, t.crField 0, t.reserve)) = some ([0xDE, 0xAD, 0xBE, 0xEF], 0b0010, none) ∧
    got (exec (.stwcxDot 4 0 3) (stored |> gpr 3 0x1008 |> gpr 4 0xDEADBEEF))
      (fun t => (bytesAt 0x1008 4 t, t.crField 0)) = some ([0x88, 0x99, 0xAA, 0xBB], 0b0000) ∧
    got (exec (.ldarx 5 0 3) (stored |> gpr 3 0x1008)) (fun t => t.x 5) = some 0x8899AABBCCDDEEFF ∧
    got (exec (.stdcxDot 4 0 3) ({ stored with reserve := some 0x1008 } |> gpr 3 0x1008 |> gpr 4 0x0102030405060708))
      (bytesAt 0x1008 8) = some [1, 2, 3, 4, 5, 6, 7, 8] := by decide

/-- 2.2 of 96, Little-Endian rows and the store and load below them. -/
theorem test_little_endian :
    got (exec (.stw 3 0 4) ({ base with msr := 0x8000000000002001 } |> gpr 3 0x05060708 |> gpr 4 0x1000))
      (bytesAt 0x1000 8) = some [0, 0, 0, 0, 5, 6, 7, 8] ∧
    got (exec (.lbz 3 0 4) ({ bytes 0x1007 [8] base with msr := 0x8000000000002001 } |> gpr 4 0x1000))
      (fun t => t.x 3) = some 8 ∧
    got (exec (.lwz 3 0 4) ({ stored with msr := 0x8000000000002001 } |> gpr 4 0x1000)) (fun t => t.x 3)
      = some 0x44556677 := by decide

/-- 2.3 of 96: the entry state of a taken trap. -/
theorem test_traps :
    got (exec (.tw 4 3 4) { base with msr := 0x8000000000009032, pc := 0x2000 })
      (fun t => (t.srr0, t.srr1, t.msr, t.pc)) = some (0x2000, 0x8000000000029032, 0x8000000000001000, 0x700) ∧
    got (exec (.twi 31 0 0) base) (·.pc) = some 0x700 ∧ got (exec (.twi 0 3 0) base) (·.pc) = some 0x104 ∧
    got (exec (.td 16 3 4) (base |> gpr 3 0x8000000000000000)) (·.pc) = some 0x700 ∧
    got (exec (.tdi 1 3 0) base) (·.pc) = some 0x104 := by decide

/-- 2.8 of 98: `dcbz`, and the instructions that only advance `pc`. -/
theorem test_storage_control_manual :
    got (exec (.dcbz 0 3) (base |> bytes 0x121E [0xFF, 0xFF, 0xFF, 0xFF] |> gpr 3 0x1234)) (bytesAt 0x121E 4)
      = some [0xFF, 0xFF, 0, 0] ∧
    got (exec (.icbi 0 3) base) (·.pc) = some 0x104 ∧ got (exec (.dcbf 0 3) base) (·.pc) = some 0x104 ∧
    got (exec (.dcbst 0 3) base) (·.pc) = some 0x104 ∧ got (exec (.dcbt 0 3) base) (·.pc) = some 0x104 ∧
    got (exec (.dcbtst 0 3) base) (·.pc) = some 0x104 ∧ got (exec .isync base) (·.pc) = some 0x104 ∧
    got (exec .sync base) (·.pc) = some 0x104 ∧ got (exec .eieio base) (·.pc) = some 0x104 ∧
    got (exec .tlbia base) (·.pc) = some 0x104 ∧ got (exec .tlbsync base) (·.pc) = some 0x104 ∧
    got (exec (.tlbie 4) base) (·.pc) = some 0x104 ∧ got (exec (.slbie 4) base) (·.pc) = some 0x104 ∧
    got (exec .slbia base) (·.pc) = some 0x104 ∧ got (exec (.dcbi 0 3) base) (·.pc) = some 0x104 := by decide

/-- A machine with data relocation on, an External Access Register, and the words its device will answer. -/
def external (ear : Word) (words : List Word) : State :=
  { base with msr := 0x8000000000002010, ear := ear, extIn := words }

/-- 2.9 of 98: External Control; R683: with `MSR_DR = 0` flagged or refused. -/
theorem test_external_control :
    got (exec (.ecowx 3 4 5) (external 0x80000007 [] |> gpr 3 0x11 |> gpr 4 0x1000 |> gpr 5 0x20))
      (·.extOut) = some [.store 7 0x1020 0x11] ∧
    got (exec (.eciwx 3 4 5) (external 0x80000007 [0xCAFEF00D] |> gpr 4 0x1000 |> gpr 5 0x20))
      (fun t => (t.x 3, t.extOut, t.flagged)) = some (0xCAFEF00D, [.load 7 0x1020], false) ∧
    got (exec (.eciwx 3 4 5) (external 7 [])) (fun t => (t.dsisr, t.pc)) = some (0x00100000, 0x300) ∧
    got (exec (.ecowx 3 4 5) { base with ear := 0x80000007 }) (·.flagged) = some true ∧
    refusal (exec (.ecowx 3 4 5) { base with cfg := { base.cfg with invalidForm := .refuse } })
      = some .boundedlyUndefined := by decide

/-- 2.9 and 2.12 of 98: privileged and illegal, in the order of the checks. -/
theorem test_privilege_and_legality :
    got (exec (.mfmsr 3) { user with msr := 0x800000000000D032, pc := 0x2000 })
      (fun t => (t.srr0, t.srr1, t.msr, t.pc)) = some (0x2000, 0x800000000004D032, 0x8000000000001000, 0x700) ∧
    got (exec (.mtsr 5 3) user) (·.srr1) = some 0x8000000000086000 ∧
    got (exec (.ld 3 0 4) base32) (·.pc) = some 0x700 ∧
    got (exec (.lfdu 1 8 0) { base with msr := 0x8000000000000000 }) (·.pc) = some 0x800 ∧
    got (exec (.lwzu 3 4 0) base) (·.pc) = some 0x700 := by decide

/-- 2.10 of 98: Data Storage, Alignment and an enabled floating-point exception. -/
theorem test_interrupts_of_instructions :
    got (exec (.lwz 3 0 4) ({ base with cfg := faulting, msr := 0x800000000000B932, pc := 0x2000 } |> gpr 4 0x5000))
      (fun t => (t.dsisr, t.dar, t.pc)) = some (0x40000000, 0x5000, 0x300) ∧
    got (exec (.stw 3 0 4) ({ base with cfg := faulting, msr := 0x800000000000B932, pc := 0x2000 } |> gpr 4 0x5000))
      (fun t => (t.dsisr, t.srr1)) = some (0x0A000000, 0x800000000000B932) ∧
    got (exec (.lwarx 3 0 4) (base |> gpr 4 0x1002)) (fun t => (t.dar, t.pc)) = some (0x1002, 0x600) ∧
    got (exec (.fdiv 1 2 3 false)
        ({ base with msr := 0x800000000000F932, pc := 0x2000, fpscr := 0x10 } |> fpr 2 0x3FF0000000000000))
      (fun t => (t.fpscr, t.srr1, t.pc, t.f 1)) = some (0xC4000010, 0x800000000010F932, 0x700, 0) := by decide

/-- 2.10 of 98: Trace, External before Decrementer, Instruction Storage, the illegal word. -/
theorem test_steps :
    got (step (({ base with msr := 0x8000000000000400, pc := 0x2000 } : State).withFetchWord 32 0x38630001))
      (fun t => (t.x 3, t.srr0, t.pc)) = some (1, 0x2004, 0xD00) ∧
    got (step { base with msr := 0x8000000000008000, extPending := true, decPending := true })
      (fun t => (t.pc, t.extPending, t.decPending)) = some (0x500, true, true) ∧
    got (step { base with cfg := faulting, msr := 0x800000000000B032, pc := 0x2000 })
      (fun t => (t.pc, t.srr1)) = some (0x400, 0x800000004000B032) ∧
    got (step { base with pc := 0x2000 }) (fun t => (t.pc, t.srr1)) = some (0x700, 0x8000000000082000) := by decide

/-- R685, R781 D: `mtmsr` begun with SE = 1 that unmasks an enabled exception is followed by no Trace; the next step takes
the Program interrupt (R717: bits 43 and 47 of SRR1). -/
theorem test_mtmsr_unmasks :
    got (step (({ base with msr := 0x8000000000000400, pc := 0x2000, fpscr := 0x64000010 } |> gpr 3 0x8000000000000800
      : State).withFetchWord 32 0x7C600124)) (fun t => (t.lastInterrupt, t.pc)) = some (none, 0x2004) ∧
    got (step { base with msr := 0x8000000000000800, pc := 0x2004, fpscr := 0x64000010 })
      (fun t => (t.srr0, t.srr1, t.pc)) = some (0x2004, 0x8000000000110800, 0x700) := by decide

/-- R806 to R808: SDR1 with relocation on, and IR altered from code that is not mapped virtual equals real, are refused;
under the identity translation SDR1 has no effect and is written. -/
theorem test_context_alterations :
    refusal (exec (.mtspr 25 3) { base with cfg := moved, msr := 0x8000000000000010 }) = some .contextAlteration ∧
    got (exec (.mtspr 25 3) ({ base with msr := 0x8000000000000030 } |> gpr 3 7)) (·.sdr1) = some 7 ∧
    refusal (exec (.mtmsr 3) ({ base with cfg := moved } |> gpr 3 0x8000000000000020)) = some .contextAlteration ∧
    got (exec (.mtmsr 3) (base |> gpr 3 0x8000000000000020)) (·.msr) = some 0x8000000000000020 := by decide

/-- A machine about to write `v` to IBAT1U, which holds `u`, with V and a Key bit as its last two bits. As 0x2001 it maps
the page of the next instruction only, whose word is then 7 and else `w`; with the Key bit on, that page fails the fetch. -/
def blocked (w : Byte) (u v : Dword) : State :=
  let line (c : Dword) (r : TranslationResult) : TranslationEntry :=
    { page := 1, kind := .ifetch, privileged := true, conditions := [.ibat 2 c], result := r }
  let cfg := { Config.reference with
    excepted := { segment := 0, ibatUpper := { valid := 1, keys := 2 }, ibatLower := { valid := 0, keys := 0 } },
    xlate := [line 0x2001 (.ok 8 { block := some 1 }), line 0x2003 (.fault { protection := true })] }
  { base with cfg := cfg, msr := 0x8000000000000020, pc := 0xFFC, ibat := base.ibat.set 2 u }
    |> bytes 0x1003 [w] |> bytes 0x8003 [7] |> gpr 3 v

/-- R807 for an IBAT pair that maps the next instruction only: V goes off or on where that instruction stays the same, and
not elsewhere; the Key bits always; another field only while the pair is not in use. -/
theorem test_ibat_alterations :
    refusal (exec (.mtspr 530 3) (blocked 7 0x2001 0x4001)) = some .contextAlteration ∧
    refusal (exec (.mtspr 530 3) (blocked 9 0x2001 0x2000)) = some .contextAlteration ∧
    refusal (exec (.mtspr 530 3) (blocked 9 0x2000 0x2001)) = some .contextAlteration ∧
    got (exec (.mtspr 530 3) (blocked 7 0x2001 0x2000)) (·.ibat[2]) = some 0x2000 ∧
    got (exec (.mtspr 530 3) (blocked 7 0x2000 0x2001)) (·.ibat[2]) = some 0x2001 ∧
    got (exec (.mtspr 530 3) (blocked 9 0x2001 0x2003)) (·.ibat[2]) = some 0x2003 ∧
    got (exec (.mtspr 530 3) (blocked 9 0x6000 0x4000)) (·.ibat[2]) = some 0x4000 := by decide

/-- R807's sequence: with the other register of the pair altered before, a pair is brought into use by V alone, not by
another field, whether V is on already or is set with it; a single register needs no sequence. -/
theorem test_ibat_sequence :
    let lowerAltered (u v : Dword) : State := { blocked 7 u v with ibatAltered := noneAltered.set 3 true }
    refusal (exec (.mtspr 530 3) (lowerAltered 0x4001 0x2001)) = some .contextAlteration ∧
    refusal (exec (.mtspr 530 3) (lowerAltered 0x4000 0x2001)) = some .contextAlteration ∧
    got (exec (.mtspr 530 3) (lowerAltered 0x2000 0x2001)) (·.ibat[2]) = some 0x2001 ∧
    got (exec (.mtspr 530 3) (lowerAltered 0x4001 0x6001)) (·.ibat[2]) = some 0x6001 ∧
    got (exec (.mtspr 530 3) (blocked 7 0x4001 0x2001)) (·.ibatAltered) = some (noneAltered.set 2 true) := by decide

/-- What enters and ends the record: a field of an IBAT register, not V; isync, and an interrupt, but a Machine Check that
is not recoverable (R802). -/
theorem test_ibat_record :
    let altered : State := { base with ibatAltered := noneAltered.set 3 true }
    got (exec (.mtspr 531 3) (blocked 7 0x4001 9)) (·.ibatAltered) = some (noneAltered.set 3 true) ∧
    got (exec (.mtspr 530 3) (blocked 7 0x4001 0x4000)) (·.ibatAltered) = some noneAltered ∧
    got (exec .isync altered) (·.ibatAltered) = some noneAltered ∧
    (takeInterrupt .external altered).ibatAltered = noneAltered ∧
    (takeInterrupt .machineCheck altered).ibatAltered = noneAltered.set 3 true := by decide

/-- A machine with an FPECR, an SNaN in FPR 2, in which no floating-point exception interrupts. -/
def reasoned : State :=
  { base with cfg := { base.cfg with fpecrPresent := true }, fpecr := 5 } |> fpr 2 0x7FF4000000000000

/-- R55: a floating-point exception that occurs leaves a free value in the FPECR; without one, or without the register, it
stays. -/
theorem test_exception_reason :
    got (exec (.fcmpu 1 2 3) reasoned) (·.fpecr) = some (lowWord (Config.freeWord 0)) ∧
    got (exec (.fcmpu 1 3 3) reasoned) (·.fpecr) = some 5 ∧
    got (exec (.fcmpu 1 2 3) { reasoned with cfg := base.cfg }) (·.fpecr) = some 5 ∧
    (takeInterrupt (.program .fpEnabled) reasoned).fpecr = lowWord (Config.freeWord 1) ∧
    (takeInterrupt .systemCall reasoned).fpecr = 5 := by
  refine ⟨rfl, by decide, by decide, rfl, rfl⟩

/-- R130: the answer depends on the translation registers: the line of page 5 applies while SDR1 is 7. -/
theorem test_translation_registers :
    Machine.translate { base with cfg := moved, msr := 0x8000000000000010, sdr1 := 7 } .load 0x5123 = .ok (0x9123, {}) ∧
    Machine.translate { base with cfg := moved, msr := 0x8000000000000010 } .load 0x5123 = .ok (0x5123, {}) := by decide

/-- 2.11 of 98: ticks. -/
theorem test_ticks :
    (tick { base with tb := 0xFFFFFFFF, dec := 2 }).tb = 0x100000000 ∧
    (tick { base with dec := 0 }).dec = 0xFFFFFFFF ∧ (tick { base with dec := 0 }).decPending = true ∧
    (tick { base with dec := 0x80000000 }).decPending = false := by decide

/-! ## Results whose high-order half is a free value: the low-order half is as the rows say -/

theorem low_of_append (a b : Word) : BitVec.setWidth 32 (a ++ b : BitVec (32 + 32)) = b := by
  apply BitVec.eq_of_getLsbD_eq
  intro i hi
  rw [BitVec.getLsbD_setWidth, BitVec.getLsbD_append]
  simp [hi]

theorem low_of_free (f : Dword) (w : Word) : lowWord (slice f 0 32 ++ w) = w := low_of_append _ _

/-- 96, line 234. -/
theorem test_mulhw :
    got (exec (.mulhw 3 4 5 false) (base |> gpr 4 0x80000000 |> gpr 5 0x80000000)) (fun t => lowWord (t.x 3))
      = some 0x40000000 := congrArg some (low_of_free (base.free 0) 0x40000000)

/-- 96, line 236. -/
theorem test_mulhwu :
    got (exec (.mulhwu 3 4 5 false) (base |> gpr 4 0xFFFFFFFF |> gpr 5 0xFFFFFFFF)) (fun t => lowWord (t.x 3))
      = some 0xFFFFFFFE := congrArg some (low_of_free (base.free 0) 0xFFFFFFFE)

/-- 96, line 243. -/
theorem test_divw :
    got (exec (.divw 3 4 5 false false) (base |> gpr 4 0xFFFFFFF9 |> gpr 5 2)) (fun t => lowWord (t.x 3))
      = some 0xFFFFFFFD := congrArg some (low_of_free (base.free 0) 0xFFFFFFFD)

/-- 96, line 245. -/
theorem test_divwu :
    got (exec (.divwu 3 4 5 false false) (base |> gpr 4 0xFFFFFFF9 |> gpr 5 2)) (fun t => lowWord (t.x 3))
      = some 0x7FFFFFFC := congrArg some (low_of_free (base.free 0) 0x7FFFFFFC)

/-- 97, line 216. -/
theorem test_fctiw :
    got (exec (.fctiw 1 2 false) (base |> fpr 2 0xC004000000000000)) (fun t => lowWord (t.f 1)) = some 0xFFFFFFFE :=
  congrArg some (low_of_free (base.free 0) 0xFFFFFFFE)

/-- 97, line 220. -/
theorem test_fctiwz :
    got (exec (.fctiwz 1 2 false) ({ base with fpscr := 2 } |> fpr 2 0xBFF8000000000000)) (fun t => lowWord (t.f 1))
      = some 0xFFFFFFFF := congrArg some (low_of_free (base.free 0) 0xFFFFFFFF)

/-- 97, line 313. -/
theorem test_mffs :
    got (exec (.mffs 1 false) { base with fpscr := 0x82004000 }) (fun t => lowWord (t.f 1)) = some 0x82004000 :=
  congrArg some (low_of_free (base.free 0) 0x82004000)

/-! ## Witnesses: concrete states and operands that meet the hypotheses of the statements -/

/-- The reference machine with one word at its reset vector. -/
def loaded (w : Word) : State := State.reset.withFetchWord 32 w.toNat

/-- A machine whose first fetch fails. -/
def unfetchable : State := { base with cfg := faulting, msr := 0x8000000000000020, pc := 0x2000 }

/-- A machine that selects its next instruction: nothing else is due. -/
def quiet (s : State) : Bool :=
  !s.checkstop && !s.sresetReq && !s.mcheckReq && !s.fpEnabledException && !(s.extPending && s.msrBit msrEE)
    && !(s.decPending && s.msrBit msrEE) && !s.msrBit msrPOW

theorem witness_StepRunsDecoded :
    quiet (loaded 0x38630001) = true ∧ fetchReal (loaded 0x38630001) = .ok 0xFFF00100 ∧
    decodeBytes ((loaded 0x38630001).mem.readAll (wordAddresses 0xFFF00100)) = .instr (.addi 3 3 1) ∧
    quiet (loaded 0x44000003) = true ∧ fetchReal (loaded 0x44000003) = .ok 0xFFF00100 ∧
    decodeBytes ((loaded 0x44000003).mem.readAll (wordAddresses 0xFFF00100)) = .reservedBits .sc ∧
    quiet State.reset = true ∧ fetchReal State.reset = .ok 0xFFF00100 ∧
    decodeBytes (State.reset.mem.readAll (wordAddresses 0xFFF00100)) = .rejected .illegal ∧
    quiet unfetchable = true ∧ fetchReal unfetchable = .error 0x40000000 := by decide

theorem witness_Fetch :
    base.msrBit msrIR = false ∧ base.msrBit msrLE = false ∧
    ({ base with msr := 1 } : State).msrBit msrIR = false ∧ ({ base with msr := 1 } : State).msrBit msrLE = true ∧
    stored.mem.wf = true ∧ fetchReal stored = .ok 0x100 ∧
    fetchReal { stored with msr := 0x8000000000000020, cfg := moved } = .ok 0x1100 ∧
    fetchReal (({ stored with msr := 0x8000000000000020, cfg := moved } : State).withFetchWord 32 0x38630001)
      = .ok 0x1100 := by decide

/-- A fetch with relocation on, in both Endian modes, one that fails, and one from a direct-store segment. -/
theorem witness_Fetch_relocated :
    let at_ (r : TranslationResult) : State :=
      { base with msr := 0x8000000000000020, cfg := { Config.reference with
          xlate := [{ page := 0, kind := .ifetch, privileged := true, result := r }] } }
    (at_ (.ok 1 {})).msrBit msrIR = true ∧ translate (at_ (.ok 1 {})) .ifetch 0x100 = .ok (0x1100, {}) ∧
    fetchReal { at_ (.ok 1 {}) with msr := 0x8000000000000021 } = .ok 0x1104 ∧
    translate (at_ (.ok 1 { directStore := true })) .ifetch 0x100 = .ok (0x1100, { directStore := true }) ∧
    fetchReal (at_ (.ok 1 { directStore := true })) = .error 0x10000000 ∧
    translate (at_ (.fault { segmentMiss := true })) .ifetch 0x100 = .error { segmentMiss := true } ∧
    fetchReal (at_ (.fault { segmentMiss := true })) = .error 0x00200000 ∧
    fetchReal (at_ (.fault { protection := true })) = .error 0x08000000 := by decide

theorem witness_IllegalEncodings :
    slice (0x07FFFFFF : Word) 0 6 = 1#6 ∧ slice (0xF7FFFFFF : Word) 0 6 = 61#6 ∧
    slice (0x08830000 : Word) 0 6 = 2#6 ∧ slice (0xF8640000 : Word) 0 6 = 62#6 ∧ base32.cfg.impl64 = false ∧
    decode 0xF8640000 = .instr (.std 3 0 4) ∧ decode 0xF8640002 = .rejected .illegal ∧
    quiet State.reset = true ∧ fetchReal State.reset = .ok 0xFFF00100 ∧
    State.reset.mem.readAll (wordAddresses 0xFFF00100) = [0, 0, 0, 0] := by decide

theorem witness_CarryAndOverflow :
    base.mode64 = true ∧ narrow.mode64 = false ∧ base32.mode64 = false ∧
    ({ base with xer := 0x80000000 } : State).setOv true false = { base with xer := 0x80000000 } ∧
    (base.setCrField 7 0b0001).cr = 1 ∧ (base.setCrField 0 0b1000).cr = 0x80000000 := by decide

/-- Operands of a division. -/
def operands (a b : Dword) : State := base |> gpr 4 a |> gpr 5 b

theorem witness_ProductsAndQuotients :
    base.cfg.impl64 = true ∧ lowWord ((operands 7 2).x 5) ≠ 0 ∧ (operands 7 2).x 5 ≠ 0 ∧
    ¬ ((operands 7 2).x 4 = 0x8000000000000000 ∧ (operands 7 2).x 5 = BitVec.allOnes 64) ∧
    ¬ (lowWord ((operands 0x80000000 1).x 4) = 0x80000000 ∧ lowWord ((operands 0x80000000 1).x 5) = BitVec.allOnes 32) ∧
    (lowWord ((operands 0x80000000 0xFFFFFFFF).x 4) = 0x80000000 ∧
      lowWord ((operands 0x80000000 0xFFFFFFFF).x 5) = BitVec.allOnes 32) ∧
    ((operands 0x8000000000000000 0xFFFFFFFFFFFFFFFF).x 4 = 0x8000000000000000 ∧
      (operands 0x8000000000000000 0xFFFFFFFFFFFFFFFF).x 5 = BitVec.allOnes 64) ∧
    lowWord ((operands 5 0).x 5) = 0 ∧ (operands 5 0).x 5 = 0 := by decide

theorem witness_ComparesAndTraps : base.cfg.impl64 = true := by decide

theorem witness_Logicals : base.cfg.impl64 = true := by decide

/-- Both kinds of mask at the ends of the range. -/
theorem witness_RotatesAndShifts :
    base.cfg.impl64 = true ∧ bit (maskBits 0 63) 63 = true ∧ bit (maskBits 63 0) 0 = true ∧
    bit (maskBits 63 0) 1 = false ∧ leadingZeros (0 : Dword) = 64 ∧ leadingZeros (0x8000000000000000 : Dword) = 0 ∧
    leadingZeros (0 : Word) = 32 := by decide

/-- A machine with relocation on and a policy for alterations against Appendix L.4. -/
def relocating (p : ContextPolicy) : State :=
  { base with msr := 0x8000000000000030, cfg := { moved with context := p, powSequence := true } }

theorem witness_SpecialRegisterMoves :
    mtsprDefined base.cfg 272 = true ∧ mfsprDefined base.cfg 287 = true ∧ base.msrBit msrPR = false ∧
    mtsprDefined user.cfg 8 = true ∧ mfsprDefined user.cfg 9 = true ∧
    (8 : SprNum).getLsbD 4 = false ∧ (9 : SprNum).getLsbD 4 = false ∧
    sprBroken base 528 (writeSpr 528 0 base) = false ∧ mtsprDefined base.cfg 25 = true ∧
    sprBroken (relocating .refuse) 25 (writeSpr 25 0 (relocating .refuse)) = true ∧
    (relocating .refuse).cfg.context = .refuse ∧ (relocating .execute).cfg.context = .execute ∧
    base.cfg.xlate = [] ∧ (relocating .refuse).cfg.xlate ≠ [] ∧
    sprBroken (relocating .execute) 25 (writeSpr 25 0 (relocating .execute)) = true := by decide

/-- The requirement on an IBAT register: broken and kept, at the first and the last of them, and that on the ASR. -/
theorem witness_SpecialRegisterMoves_translation :
    mtsprDefined base.cfg 280 = true ∧ (280 : SprNum).getLsbD 4 = true ∧ (relocating .refuse).msrBit msrPR = false ∧
    sprBroken (relocating .refuse) 280 (writeSpr 280 0 (relocating .refuse)) = false ∧
    (530 : SprNum).toNat = 528 + (2 : Fin 8) ∧ (528 : SprNum).toNat = 528 + (0 : Fin 8) ∧
    (535 : SprNum).toNat = 528 + (7 : Fin 8) ∧ (blocked 9 0x2001 0x2000).msrBit msrPR = false ∧
    sprBroken (blocked 9 0x2001 0x2000) 530 (writeSpr 530 0x2000 (blocked 9 0x2001 0x2000)) = true ∧
    sprBroken (blocked 9 0x2001 0x2000) 535 (writeSpr 535 0x2000 (blocked 9 0x2001 0x2000)) = false := by decide

theorem witness_SystemCall :
    slice (0x44000000 : Word) 0 6 = 17#6 ∧ bit (0x44000000 : Word) 30 = false ∧ slice (0x44000003 : Word) 0 6 = 17#6 ∧
    bit (0x44000003 : Word) 30 = true ∧ (0x44000003 : Word) ≠ 0x44000002 ∧ slice (0x47FFFFFF : Word) 0 6 = 17#6 := by
  decide

theorem witness_SprReadBack :
    mtsprDefined base.cfg 1 = true ∧ mfsprDefined base.cfg 1 = true ∧ mtsprDefined base.cfg 282 = true ∧
    mfsprDefined base.cfg 282 = true ∧ mtsprDefined base.cfg 22 = true ∧ mfsprDefined base.cfg 22 = true ∧
    mtsprDefined base.cfg 275 = true ∧ mfsprDefined base.cfg 275 = true ∧ mtsprDefined base.cfg 543 = true ∧
    mfsprDefined base.cfg 543 = true ∧ mtsprDefined base.cfg 284 = true ∧
    xerStored base.cfg 0xFFFFFFFF = 0xE000FF7F ∧ earStored base.cfg 0xFFFFFFFF = 0x8000003F := by decide

theorem witness_TimerRegisters :
    base.msrBit msrPR = false ∧ user.msrBit msrPR = true ∧ (∃ t, exec (.mtspr 8 3) base = .next t) ∧
    (8 : SprNum) ≠ 284 ∧ (8 : SprNum) ≠ 285 ∧ (8 : SprNum) ≠ 22 :=
  ⟨by decide, by decide, ⟨_, rfl⟩, by decide, by decide, by decide⟩

theorem witness_TimerTick :
    ({ base with env := [[.ticks 3, .external true]] } : State).env = [.ticks 3, .external true] :: [] ∧
    ({ base with env := [[.external true, .ticks 3]] } : State).env = [.external true, .ticks 3] :: [] := by decide

theorem witness_BranchesAndConditions :
    boValid 16 = true ∧ boValid 20 = true ∧ bit (20 : BitVec 5) 2 = true ∧ boValid 0 = true := by decide

/-- Every width in both Endian modes. -/
theorem witness_AlignedAccess :
    base.msrBit msrDR = false ∧ (base.iea 0x1008).toNat % 8 = 0 ∧ (base.iea 0x1003).toNat % 1 = 0 ∧
    ({ base with msr := 1 } : State).msrBit msrLE = true ∧ ({ base with msr := 1 } : State).msrBit msrDR = false ∧
    (({ base with msr := 1 } : State).iea 0xFFFFFFFFFFFFFFFE).toNat % 2 = 0 := by decide

/-- The reference policy, and one that traps a misaligned `lfs` and not a misaligned `lwz`. -/
theorem witness_MisalignedAccess :
    base.cfg.align = AlignPolicy.reference ∧ base.msrBit msrDR = false ∧ base.msrBit msrLE = false ∧
    alignmentTraps (.lwz 3 1 4) base .fixed .load 0x1FFF 4 = false ∧ alignmentTraps (.lfs 3 1 4) base .float .load 0x1FFF 4 = false ∧
    (let s : State := { base with cfg := { base.cfg with align := { base.cfg.align with float := .trap } } }
     alignmentTraps (.lwz 3 1 4) s .fixed .load 0x1FFF 4 = false ∧ alignmentTraps (.lfs 3 1 4) s .float .load 0x1FFF 4 = true) ∧
    accessReals (.lwz 3 1 4) .other .fixed .load 0x1FFF 4 base = .ok [0x1FFF, 0x2000, 0x2001, 0x2002] := by decide

/-- A base register for the storage accesses below. -/
def based : State := stored |> gpr 4 0x1000

theorem witness_Loads :
    accessReals (.lwz 3 4 4) .other .fixed .load (based.x 4 + (4 : BitVec 16).signExtend 64) 4 based
      = .ok [0x1004, 0x1005, 0x1006, 0x1007] ∧
    accessReals (.lbz 3 0xFFFF 0) .other .fixed .load (0 + (0xFFFF : BitVec 16).signExtend 64) 1 based
      = .ok [0xFFFFFFFFFFFFFFFF] ∧
    accessReals (.lhaux 3 4 5) .update .fixed .load (based.x 4 + based.x 5) 2 based = .ok [0x1000, 0x1001] ∧
    accessReals (.ldu 3 2 4) .update .fixed .load (based.x 4 + ((2 : BitVec 14) ++ 0#2).signExtend 64) 8 based
      = .ok [0x1008, 0x1009, 0x100A, 0x100B, 0x100C, 0x100D, 0x100E, 0x100F] ∧
    accessReals (.lhbrx 3 4 5) .other .fixed .load (based.x 4 + based.x 5) 2 based = .ok [0x1000, 0x1001] ∧
    (4 : Gpr) ≠ 0 ∧ (4 : Gpr) ≠ 3 ∧ based.cfg.impl64 = true := by decide

theorem witness_Stores :
    accessReals (.stwbrx 3 4 5) .other .fixed .store (based.x 4 + based.x 5) 4 based
      = .ok [0x1000, 0x1001, 0x1002, 0x1003] ∧
    accessReals (.stw 3 4 4) .other .fixed .store (based.x 4 + (4 : BitVec 16).signExtend 64) 4 based
      = .ok [0x1004, 0x1005, 0x1006, 0x1007] ∧
    accessReals (.stbux 3 4 5) .update .fixed .store (based.x 4 + based.x 5) 1 based = .ok [0x1000] ∧
    accessReals (.stdx 3 4 5) .other .fixed .store (based.x 4 + based.x 5) 8 based
      = .ok [0x1000, 0x1001, 0x1002, 0x1003, 0x1004, 0x1005, 0x1006, 0x1007] := by decide

/-- The state of `based` with a byte count of 3 in the XER. -/
def counted : State := { based with xer := 3 }

theorem witness_MultiplesAndStrings :
    (4 : Gpr).toNat < (31 : Gpr).toNat ∧
    accessReals (.lmw 31 0 4) (.outside 31 1) .multiple .load (based.x 4 + (0 : BitVec 16).signExtend 64) 4 based
      = .ok [0x1000, 0x1001, 0x1002, 0x1003] ∧
    accessReals (.stmw 31 0 4) .other .multiple .store (based.x 4 + (0 : BitVec 16).signExtend 64) 4 based
      = .ok [0x1000, 0x1001, 0x1002, 0x1003] ∧
    inWrappedRange 5 1 4 = false ∧
    accessReals (.lswi 5 4 1) (.outside 5 1) .string .load (based.x 4) 1 based = .ok [0x1000] ∧
    accessReals (.stswi 5 4 1) .other .string .store (based.x 4) 1 based = .ok [0x1000] ∧
    (slice counted.xer 25 7).toNat = 3 ∧ inWrappedRange 5 1 6 = false ∧
    accessReals (.lswx 5 4 6) (.outside 5 1) .string .load (counted.x 4 + counted.x 6) 3 counted
      = .ok [0x1000, 0x1001, 0x1002] ∧
    accessReals (.stswx 5 4 6) .other .string .store (counted.x 4 + counted.x 6) 3 counted
      = .ok [0x1000, 0x1001, 0x1002] ∧
    (slice based.xer 25 7).toNat = 0 ∧ based.msrBit msrLE = false := by decide

/-- Sequences at the ends of their ranges: 32 values, the last byte of one register, the last partial word. -/
theorem witness_MultiplesAndStrings_sequences :
    (List.replicate 32 (0 : Dword)).length ≤ 32 ∧ 3 < 4 * 1 ∧ 0 < (([1] : List Byte).length + 3) / 4 ∧
    1 < (([1, 2, 3, 4, 5] : List Byte).length + 3) / 4 := by decide

theorem witness_Reservations :
    accessReals (.lwarx 3 4 5) .other .reserve .load (based.x 4 + based.x 5) 4 based
      = .ok (0x1000 :: [0x1001, 0x1002, 0x1003]) ∧
    accessReals (.stwcxDot 3 4 5) .other .reserve .store (based.x 4 + based.x 5) 4 based
      = .ok (0x1000 :: [0x1001, 0x1002, 0x1003]) ∧
    accessReals (.ldarx 3 4 5) .other .reserve .load (based.x 4 + based.x 5) 8 based
      = .ok (0x1000 :: [0x1001, 0x1002, 0x1003, 0x1004, 0x1005, 0x1006, 0x1007]) ∧
    accessReals (.stdcxDot 3 4 5) .other .reserve .store (based.x 4 + based.x 5) 8 based
      = .ok (0x1000 :: [0x1001, 0x1002, 0x1003, 0x1004, 0x1005, 0x1006, 0x1007]) := by decide

/-- A reservation, and a store by another agent into its granule and beside it. -/
theorem witness_Reservations_lost :
    let s (a : Nat) : State := { base with reserve := some 0x1004, env := [[.stores [(a, 7)]]] }
    (s 0x101F).env = [.stores [(0x101F, 7)]] :: [] ∧ (s 0x101F).reserve = some 0x1004 ∧
    BitVec.ofNat 64 0x101F >>> base.cfg.granuleLog2 = (0x1004 : Dword) >>> base.cfg.granuleLog2 ∧
    BitVec.ofNat 64 0x1020 >>> base.cfg.granuleLog2 ≠ (0x1004 : Dword) >>> base.cfg.granuleLog2 ∧
    (environment (s 0x101F)).reserve = none ∧ (environment (s 0x1020)).reserve = some 0x1004 := by decide

theorem witness_Reservations_kept : ∃ t, exec (.dcbz 3 4) { base with reserve := some 0 } = .next t := ⟨_, rfl⟩

theorem witness_StoreThenLoad_word :
    based.mem.wf = true ∧ ([0x1000, 0x1001, 0x1002, 0x1003] : List Dword).Nodup ∧
    accessReals (.stw 3 0 4) .other .fixed .store (eaD based 4 0) 4 based = .ok [0x1000, 0x1001, 0x1002, 0x1003] ∧
    ∃ t, exec (.stw 3 0 4) based = .next t ∧
      accessReals (.lwz 5 0 4) .other .fixed .load (eaD t 4 0) 4 t = .ok [0x1000, 0x1001, 0x1002, 0x1003] :=
  ⟨by decide, by decide, by decide, _, rfl, rfl⟩

theorem witness_StoreThenLoad_doubleword :
    ∃ reals t, reals.Nodup ∧ accessReals (.std 3 0 4) .other .fixed .store (eaDS based 4 0) 8 based = .ok reals ∧
      exec (.std 3 0 4) based = .next t ∧
      accessReals (.ld 5 0 4) .other .fixed .load (eaDS t 4 0) 8 t = .ok reals :=
  ⟨[0x1000, 0x1001, 0x1002, 0x1003, 0x1004, 0x1005, 0x1006, 0x1007], _, by decide, rfl, rfl, rfl⟩

theorem witness_StorageControl :
    translate base .load 0x1000 = .ok (0x1000, {}) ∧ translate base .store 0x1000 = .ok (0x1000, {}) ∧
    base.msrBit msrPR = false ∧ base.cfg.hasTlbia = true ∧ base.cfg.hasTlbsync = true ∧ base.cfg.impl64 = true ∧
    base.cfg.hasSlbie = true ∧ base.cfg.hasSlbia = true ∧ base.cfg.align.zeroBlock = .perform := by decide

/-- R40: every defined bit; SF on a 64-bit implementation only. -/
theorem witness_SupervisorMoves_bits :
    msrStored base.cfg 0xFFFFFFFFFFFFFFFF = 0x800000000005FFF3 ∧ msrStored base32.cfg 0xFFFFFFFFFFFFFFFF = 0x5FFF3 := by decide

/-- The bytes of a word, of a doubleword, and of none (R100). -/
theorem witness_StoreThenLoad_bytes :
    bytesOfValue 4 0x11223344 = [0x11, 0x22, 0x33, 0x44] ∧ valueOfBytes [0x11, 0x22, 0x33, 0x44] = 0x11223344 ∧
    (bytesOfValue 8 0x1122334455667788)[7]? = some 0x88 := by decide

/-- The 32-bit implementation with instruction relocation on and a translation that is not the identity, at an address of
segment 3. -/
def segmented (p : ContextPolicy) : State :=
  { base32 with msr := 0x20, pc := 0x30000000, cfg := { base32.cfg with context := p, xlate := moved.xlate } }

theorem witness_SupervisorMoves :
    base.msrBit msrPR = false ∧ base32.msrBit msrPR = false ∧ base32.cfg.impl64 = false ∧
    msrBroken base 0x8000000000000020 = false ∧ base.cfg.powSequence = false ∧ base.cfg.leSequence = false ∧
    msrBroken (relocating .refuse) 0 = true ∧ msrBroken (relocating .execute) 0 = true ∧
    (relocating .refuse).msrBit msrIR = true ∧ bit (0 : Dword) msrIR = false ∧
    fetchReal (relocating .refuse) ≠ .ok (relocating .refuse).fetchAddress ∧
    (relocating .execute).cfg.context = .execute ∧ (relocating .refuse).cfg.context = .refuse ∧
    segmentBroken base32 3 1 = false ∧ segmentBroken (segmented .refuse) 3 1 = true ∧
    segmentBroken (segmented .execute) 3 1 = true ∧ (segmented .refuse).msrBit msrIR = true ∧
    (segmented .refuse).cfg.xlate ≠ [] ∧ base32.cfg.xlate = [] ∧ slice (segmented .refuse).pc 32 4 = 3 ∧ slice (segmented .refuse).pc 32 4 ≠ 4 ∧
    slice ((segmented .refuse).codeAddress ((segmented .refuse).pc + 4)) 32 4 ≠ 4 ∧
    translate (segmented .refuse) .ifetch (segmented .refuse).fetchAddress = .ok (0x30000000, {}) ∧
    (segmented .refuse).srOf 3 &&& ~~~ 0x60000000 = 0x40000000 &&& ~~~ 0x60000000 ∧
    (segmented .refuse).srOf 3 &&& ~~~ 0x60000000 ≠ 1 &&& ~~~ 0x60000000 := by decide

theorem witness_SupervisorMoves_rfi :
    ((relocating .refuse).cfg.powSequence && bit (0x40000 : Dword) msrPOW != (relocating .refuse).msrBit msrPOW) = true ∧
    msrStored base.cfg 0x40000 = 0x40000 := by decide

theorem witness_ExternalControl :
    base.cfg.hasExternalControl = true ∧ base.cfg.invalidForm = .illegal ∧ base.msrBit msrDR = false ∧
    ({ base with cfg := { base.cfg with invalidForm := .refuse } } : State).cfg.invalidForm = .refuse ∧
    (external 7 []).msrBit msrDR = true ∧ bit (external 7 []).ear 0 = false ∧
    alignmentTraps (.eciwx 3 0 5) (external 7 []) .external .load ((external 7 []).iea 0x1020) 4 = false ∧
    alignmentTraps (.ecowx 3 0 5) (external 7 []) .external .store ((external 7 []).iea 0x1020) 4 = false ∧
    alignmentTraps (.eciwx 3 0 5) base .external .load (base.iea 0x1020) 4 = false ∧
    alignmentTraps (.eciwx 3 0 5) { base with cfg.align.external := .trap } .external .load (base.iea 0x1021) 4 = true ∧
    alignmentTraps (.ecowx 3 0 5) { base with cfg.align.external := .trap } .external .store (base.iea 0x1021) 4 = true ∧
    bit (external 0x80000007 [0xCAFEF00D]).ear 0 = true ∧
    translate (external 0x80000007 []) .load 0x1020 = .ok (0x1020, {}) ∧
    translate (external 0x80000007 []) .store 0x1020 = .ok (0x1020, {}) ∧
    (external 0x80000007 [0xCAFEF00D]).extIn = 0xCAFEF00D :: [] ∧ (external 0x80000007 []).extIn = [] := by decide

theorem witness_FloatLoadsAndStores :
    based.msrBit msrFP = true ∧ based.cfg.hasFpGraphics = true ∧
    accessReals (.lfs 1 0 4) .other .float .load (based.x 4 + (0 : BitVec 16).signExtend 64) 4 based
      = .ok [0x1000, 0x1001, 0x1002, 0x1003] ∧
    accessReals (.lfsux 1 4 5) .update .float .load (based.x 4 + based.x 5) 4 based
      = .ok [0x1000, 0x1001, 0x1002, 0x1003] ∧
    accessReals (.stfsx 1 4 5) .other .float .store (based.x 4 + based.x 5) 4 based
      = .ok [0x1000, 0x1001, 0x1002, 0x1003] ∧
    accessReals (.stfdu 1 0 4) .update .float .store (based.x 4 + (0 : BitVec 16).signExtend 64) 8 based
      = .ok [0x1000, 0x1001, 0x1002, 0x1003, 0x1004, 0x1005, 0x1006, 0x1007] ∧
    accessReals (.stfiwx 1 4 5) .other .float .store (based.x 4 + based.x 5) 4 based
      = .ok [0x1000, 0x1001, 0x1002, 0x1003] := by decide

theorem witness_FloatLoadsAndStores_words :
    singleRepresentable 0x3FF8000000000000 = true ∧ singleRepresentable 0x36A0000000000000 = true ∧
    singleRepresentable 0x3690000000000000 = false ∧ singleRepresentable 0x7FF4000000000000 = true := by decide

/-- R501, R502: a word of each class at the ends of its range, and both ends of the exponents that are denormalized. -/
theorem witness_FloatLoadsAndStores_classes :
    doubleOf 0x3FC00000 = 0x3FF8000000000000 ∧ doubleOf 1 = 0x36A0000000000000 ∧ doubleOf 0xFFA00000 = 0xFFF4000000000000 ∧
    doubleOf 0xFF800000 = 0xFFF0000000000000 ∧ doubleOf 0x80000000 = 0x8000000000000000 ∧
    doubleOf 0x00800000 = 0x3810000000000000 ∧ doubleOf 0x7F7FFFFF = 0x47EFFFFFE0000000 ∧
    singleOf 7 0xB6A0000000000000 = 0x80000001 ∧ singleOf 7 0x3800000000000000 = 0x00400000 ∧
    singleOf 7 0x3690000000000000 = 7 ∧ (slice (0x36A0000000000000 : Dword) 1 11).toNat = 874 := by decide

theorem witness_FloatMovesAndSelect :
    base.cfg.hasFpGraphics = true ∧ base.msrBit msrFP = true ∧ State.reset.msrBit msrFP = false ∧
    State.reset.cfg.hasFpGraphics = true ∧
    ({ base with cfg := { base.cfg with hasFpGraphics := false } } : State).cfg.hasFpGraphics = false := by decide

theorem witness_FloatArithmetic :
    base.msrBit msrFP = true ∧ base.msrBit msrFE0 = false ∧ base.msrBit msrFE1 = false ∧
    base.cfg.hasFpGp = true ∧ base.cfg.hasFpGraphics = true ∧ base.cfg.impl64 = true ∧
    [0x3FF8000000000000, 0x36A0000000000000].all singleRepresentable = true ∧
    [0x3FF8000000000001].all singleRepresentable = false := by decide

theorem witness_FloatStatusInstructions :
    base.msrBit msrFP = true ∧ base.msrBit msrFE0 = false ∧ base.msrBit msrFE1 = false ∧
    fpValue 0x7FF4000000000000 = .nan true ∧ fpValue 0x7FF8000000000000 = .nan false ∧
    fpscrFieldMask 0x81 = 0xF000000F := by decide

/-- Ties in both directions, and each mode. -/
theorem witness_RoundingIsCorrect :
    roundAt 0 false 5 0 1 = { mag := 2, exp := 1, fr := false, fi := true } ∧
    roundAt 0 true 3 0 1 = { mag := 2, exp := 1, fr := true, fi := true } ∧
    roundAt 1 false 3 0 1 = { mag := 1, exp := 1, fr := false, fi := true } ∧
    roundAt 2 false 3 0 1 = { mag := 2, exp := 1, fr := true, fi := true } ∧
    roundAt 3 true 3 0 1 = { mag := 2, exp := 1, fr := true, fi := true } := by decide

theorem witness_QuotientsAndRoots : 0 < 3 ∧ 2 ^ 255 < 2 ^ 260 ∧ 2 ^ 130 < 2 ^ 131 := by decide

/-- A pattern of each class, with fields at the ends of their ranges. -/
theorem witness_PatternsAndValues :
    fpValue 0x3FF0000000000000 = .finite false (2 ^ 52) (-52) ∧
    fpValue 0x8000000000000001 = .finite true 1 (-1074) ∧
    (slice (0x7FE0000000000000 : Dword) 1 11).toNat = 2046 ∧ (slice (0x0010000000000000 : Dword) 1 11).toNat = 1 ∧
    fpValue 0x7FF0000000000000 = .inf false ∧ fpValue 0x8000000000000000 = .zero true ∧
    fpValue 0x7FF0000000000001 = .nan true ∧ fpCompare 0x8000000000000000 0 = 0b0010 ∧
    fpCompare 0xFFF0000000000000 0xFFEFFFFFFFFFFFFF = 0b1000 := by decide

/-- R38: VX and FEX follow the exception and enable bits. -/
theorem witness_ExceptionBitsStick_summary :
    fpscrSummed base.cfg 0x00080080 = 0x60080080 ∧ fpscrSummed base.cfg 0x60000800 = 0 ∧
    fpscrSummed base.cfg 0x04000010 = 0x44000010 ∧ fpscrRaised 0 0x04000000 = 0x84000000 := by decide

theorem witness_InvalidOperations :
    fpValue 0x7FF0000000000000 = .inf false ∧ fpValue 0xFFF0000000000000 = .inf true ∧
    fpValue 0x8000000000000000 = .zero true ∧ fpValue 0xBFF0000000000000 = .finite true (2 ^ 52) (-52) ∧
    fpValue 0x7FF4000000000000 = .nan true ∧ fpValue 0x7FF8000000000000 = .nan false ∧
    (arith3 .double false false 0 true 0x7FF0000000000000 0 0x3FF0000000000000).exceptions = 0x00100000 ∧
    (arith3 .double false false 0 true 0x7FF0000000000000 0x3FF0000000000000 0xFFF0000000000000).exceptions
      = 0x00800000 ∧
    (arith3 .double false false 0 true 0x3FF0000000000000 0x7FF4000000000000 0x7FF8000000000000).value
      = some 0x7FF8000000000000 := by decide

theorem witness_OverflowAndUnderflow : 0 < 1 ∧ 0 < 2 ^ 53 - 1 := by decide

/-- Finite operands: a number, a zero, and the magnitudes of the exact results. -/
theorem witness_ExactResults :
    (fpValue 0x3FF0000000000000).isNan = false ∧ (fpValue 0x3FF0000000000000).isInf = false ∧
    (fpValue 0x8000000000000000).isNan = false ∧ (fpValue 0x8000000000000000).isInf = false ∧
    (0 : ℝ) < 2 ∧ (1 : ℝ) + 1 = (if false then -2 else 2) ∧ (-1 : ℝ) - 1 = (if true then -2 else 2) ∧
    (1 : ℝ) - 1 = 0 ∧ (1 : ℝ) ≠ 0 ∧ (0 : ℝ) ≤ 1 := by
  refine ⟨by decide, by decide, by decide, by decide, ?_⟩
  norm_num

/-- R558 step 1e: infinite operands of both signs, beside a number and beside a zero. -/
theorem witness_ExactResults_infinite :
    (fpValue 0xFFF0000000000000).isInf = true ∧ (fpValue 0x7FF0000000000000).isInf = true ∧
    (fpValue 0xC000000000000000).isZero = false ∧
    (arith2 .double .sub 0 true 0x3FF0000000000000 0x7FF0000000000000).value = some 0xFFF0000000000000 ∧
    arith2 .single .div 0x10 true 0x7FF0000000000000 0x8000000000000000 = fpExactResult 0xFFF0000000000000 0b01001 ∧
    (arith2 .double .div 0 true 0xC000000000000000 0x7FF0000000000000).value = some 0x8000000000000000 ∧
    (arith3 .double true true 0 true 0 0xC000000000000000 0x7FF0000000000000).value = some 0x7FF0000000000000 := by decide

/-- An operand with its reciprocal in the single range, and one whose reciprocal is not. -/
theorem witness_Estimates :
    fpValue 0x4010000000000000 = .finite false (2 ^ 52) (-50) ∧ fpValue 0xC010000000000000 = .finite true (2 ^ 52) (-50) ∧
    fpValue 0xFFF0000000000000 = .inf true ∧
    (2 : ℝ) ^ (-126 : Int) ≤ 1 / ((2 ^ 52 : Nat) * (2 : ℝ) ^ (-50 : Int)) ∧
    1 / ((2 ^ 52 : Nat) * (2 : ℝ) ^ (-50 : Int)) ≤ (2 : ℝ) ^ (127 : Int) := by
  refine ⟨by decide, by decide, by decide, ?_, ?_⟩ <;> norm_num

/-- A value at each end of the 32-bit range, and beyond it. -/
theorem witness_IntegerConversion :
    fpValue 0xC1E0000000000000 = .finite true (2 ^ 52) (-21) ∧ fpValue 0x41E0000000000000 = .finite false (2 ^ 52) (-21) ∧
    (toInteger 0 0 32 0 0xC1E0000000000000).value = some 0x80000000 ∧
    (toInteger 0 0 32 0 0x41E0000000000000).exceptions = 0x100 ∧ fpValue 0xFFF0000000000000 = .inf true ∧
    fpValue 0x7FF4000000000000 = .nan true ∧ fpValue 0x7FF8000000000000 = .nan false ∧ fpValue 0 = .zero false := by
  decide

theorem witness_ExceptionBitsStick :
    (∃ t, exec (.fadd 1 2 3 false) base = .next t) ∧ (∃ t, exec (.fmadd 1 2 3 4 true) base = .next t) ∧
    (∃ t, exec (.fsqrt 1 2 false) base = .next t) ∧ (∃ t, exec (.fcmpo 1 2 3) base = .next t) ∧
    (∃ t, exec (.mtfsb1 3 false) base = .next t) ∧ (∃ t, exec (.fadds 1 2 3 false) base = .next t) ∧
    (∃ t, exec (.fres 1 2 false) base = .next t) ∧ singleRepresentable (base.f 2) = true :=
  ⟨⟨_, rfl⟩, ⟨_, rfl⟩, ⟨_, rfl⟩, ⟨_, rfl⟩, ⟨_, rfl⟩, ⟨_, rfl⟩, ⟨_, rfl⟩, by decide⟩

/-- A machine that takes floating-point exceptions, with Zero Divide enabled. -/
def trapping : State := { base with msr := 0x8000000000002900, fpscr := 0x10 } |> fpr 2 0x3FF0000000000000

theorem witness_FloatEnabledException :
    writesFpscr (.fdiv 1 2 3 false) = true ∧ admission (.fdiv 1 2 3 false) trapping = .execute ∧
    (trapping.msrBit msrFE0 || trapping.msrBit msrFE1) = true ∧ trapping.lastInterrupt = none ∧
    got (exec (.fdiv 1 2 3 false) trapping) (fun t => bit t.fpscr 1) = some true ∧
    got (exec (.fadd 1 2 3 false) trapping) (fun t => bit t.fpscr 1) = some false ∧
    trapping.cfg.fpecrPresent = false := by decide

theorem witness_InterruptEntry :
    Cause.trace ≠ .systemCall ∧ Cause.trace ≠ .machineCheck ∧
    reasoned.cfg.fpecrPresent = true ∧ base.cfg.fpecrPresent = false ∧ (20 : Nat) ∉ [0, 47, 51, 57, 63] ∧ (62 : Nat) ∉ [0, 47, 51, 57, 63] := by decide

theorem witness_InterruptThenReturn :
    Cause.external ≠ .systemCall ∧ Cause.external ≠ .machineCheck ∧ user.cfg.rfiMask = 0xFFFFFFFF87C0FFFF ∧
    user.cfg.powSequence = false ∧ user.codeAddress user.pc = user.pc ∧ msrStored user.cfg user.msr = user.msr := by
  decide

theorem witness_PrivilegeCheck :
    user.msrBit msrPR = true ∧ implemented (Instr.req user.cfg (.mfmsr 3)) user.cfg = true ∧
    (Instr.req user.cfg (.mfmsr 3)).priv = true ∧ implemented (Instr.req base32.cfg .slbia) base32.cfg = false ∧
    implemented (Instr.req base.cfg (.mtsr 3 4)) base.cfg = false ∧ base.cfg.impl64 = true ∧ base32.cfg.impl64 = false := by
  decide

theorem witness_FloatUnavailable :
    slice (encode (.lfs 1 0 4)) 0 6 = 48 ∧ slice (encode (.stfdu 1 0 4)) 0 6 = 55 ∧
    slice (encode (.fadds 1 2 3 false)) 0 6 = 59 ∧ slice (encode (.fadd 1 2 3 false)) 0 6 = 63 ∧
    slice (encode (.lfsx 1 4 5)) 21 10 = 535 ∧ slice (encode (.stfiwx 1 4 5)) 21 10 = 983 ∧
    State.reset.msrBit msrFP = false ∧
    implemented (Instr.req State.reset.cfg (.fadd 1 2 3 false)) State.reset.cfg = true ∧
    implemented (Instr.req Config.reference32 (.fcfid 1 2 false)) Config.reference32 = false ∧
    base32.cfg = Config.reference32 := by decide

/-- A machine that refuses invalid forms. -/
def refusing : State := { base with cfg := { base.cfg with invalidForm := .refuse } }

theorem witness_InvalidForms :
    admissionBeforeForm (.lwzu 3 4 0) base = none ∧ base.cfg.invalidForm = .illegal ∧
    admissionBeforeForm (.lwzu 3 4 0) refusing = none ∧ refusing.cfg.invalidForm = .refuse ∧
    (Instr.lwzu 3 4 0).formValid = false ∧
    (Instr.lwzu 3 4 5).formValid = true ∧ (Instr.lwzu 3 4 5).formValidHere base.cfg base.xer = true := by decide

/-- R183, R211 at the ends of the ranges: registers loaded from 30 on wrap to 0; a reserved bit set in `mtsrin` and `sc`. -/
theorem witness_InvalidForms_boundaries :
    (Instr.lswi 30 0 12).formValid = false ∧ (Instr.lswi 30 1 12).formValid = true ∧
    (Instr.lmw 3 0 3).formValid = false ∧ (Instr.lmw 3 0 2).formValid = true ∧
    (Instr.lswx 30 0 5).formValidHere base.cfg 12 = false ∧ (Instr.lswx 30 1 5).formValidHere base.cfg 12 = true ∧
    boValid 0b01110 = false ∧ boValid 0b10100 = true ∧ boValid 0b00111 = false ∧ boValid 0b00011 = true ∧
    decode 0x7C6021E5 = .reservedBits (.mtsrin 3 4) ∧ decode 0x44000003 = .reservedBits .sc ∧
    0x7C6021E5 &&& ~~~ (Instr.mtsrin 3 4).reservedZeroMask = encode (.mtsrin 3 4) := by decide

/-- An implementation that traps every case, with data pages 5 and 6 in a direct-store segment, page 7 Write Through, and
pages 8 and 9 in one BAT area; `lwax` reports the form of `lwa`. -/
def strict : Config :=
  let at_ (page : BitVec 52) (kind : AccessKind) (attrs : StorageAttrs) : TranslationEntry :=
    { page, kind, privileged := true, result := .ok page attrs }
  { Config.reference with
    align := { float := .trap, double := .trap, multiple := .trap, reserve := .trap, external := .trap, floatDirect := .trap,
               crossing := .trap, multipleCrossing := .trap, zeroBlock := .trap, little := .trapCrossing }
    alternateDsisr := [0b0000100101]
    xlate := [at_ 5 .load { directStore := true }, at_ 6 .load { directStore := true },
      at_ 7 .store { writeThrough := true }, at_ 8 .load { block := some 1 }, at_ 9 .load { block := some 1 }] }

/-- A machine of that implementation with data relocation on, in either Endian mode. -/
def strictly (le : Bool) : State :=
  { base with cfg := strict, msr := if le then 0x8000000000002011 else 0x8000000000002010 }

/-- A protection domain is a 4K page, a BAT area or a direct-store segment (R112 e). -/
theorem test_protection_domains :
    let crosses (ea : Dword) := alignmentTraps (.lwz 3 0 4) (strictly false) .fixed .load ea 4
    crosses 0x5FFE = false ∧ crosses 0x8FFE = false ∧ crosses 0x2FFE = true ∧ crosses 0x6FFE = true ∧
    crosses 0x7FFE = true ∧ crosses 0x2FF0 = false := by decide

/-- The two patterns of 60_exceptions.md R716: of `lwax`, and as `lwa` where the implementation reports that. -/
theorem test_alternate_dsisr :
    dsisrCode true (encode (.lwax 3 4 5)) = 0b0000100101 ∧ dsisrCode true (encode (.lwa 3 8 4)) = 0b1000001101 ∧
    reportedForm strict (.lwax 3 4 5) = .lwa 3 0 4 ∧ dsisrCode true (encode (.lwa 3 0 4)) = 0b1000001101 ∧
    reportedForm strict (.lwa 3 8 4) = .lwa 3 8 4 ∧ reportedForm Config.reference (.lwax 3 4 5) = .lwax 3 4 5 := by decide

/-- One access for each case of R112 and of R106, R107. -/
theorem witness_AlignmentInterrupts :
    let s := strictly false
    let t := strictly true
    accessOf (.lfd 1 2 0) s = some ⟨.other, .float, .load, 2, 8⟩ ∧ admission (.lfd 1 2 0) s = .execute ∧
    alignmentTraps (.lfd 1 2 0) s .float .load (s.iea 2) 8 = true ∧
    accessOf (.lwz 3 7 0) t = some ⟨.other, .fixed, .load, 7, 4⟩ ∧
    alignmentTraps (.lwz 3 7 0) t .fixed .load (t.iea 7) 4 = true ∧
    alignmentTraps (.lwz 3 1 0) t .fixed .load (t.iea 1) 4 = false ∧
    alignmentTraps (.ld 3 0 4) s .fixed .load 0x1002 8 = true ∧
    alignmentTraps (.lmw 31 2 0) s .multiple .load 2 4 = true ∧
    alignmentTraps (.stwcxDot 3 4 5) s .reserve .store 2 4 = true ∧
    alignmentTraps (.lfs 1 0 4) s .float .load 0x5000 4 = true ∧
    alignmentTraps (.lmw 30 0 4) s .multiple .load 0x7FFC 8 = true ∧
    alignmentTraps (.stswi 5 4 1) t .string .store 0x1000 1 = true ∧
    (.byAccess : AlignChoice) ≠ .perform := by decide

theorem witness_AlignmentInterrupts_others :
    (strictly false).msrBit msrDR = true ∧ (strictly false).cfg.hasExternalControl = true ∧
    translate (strictly false) .store 0x7000 = .ok (0x7000, { writeThrough := true }) ∧
    (strictly false).cfg.align.zeroBlock = .trap ∧ (strictly false).cfg.align.external = .trap ∧
    ((strictly false).iea 0x1022).toNat % 4 ≠ 0 := by decide

/-- A machine with translation on and a page that fails. -/
def paged : State := { base with cfg := faulting, msr := 0x8000000000002010 } |> gpr 4 0x5000

/-- A machine with translation on and pages in a direct-store segment. -/
def direct : State := { strictly false with cfg := { strict with align := AlignPolicy.reference } } |> gpr 4 0x5000

/-- An access whose third byte is the first in the failing page, one of each class in a direct-store segment, one that
passes. -/
theorem witness_StorageInterrupts :
    alignmentTraps (.lwz 3 0 4) paged .fixed .load (paged.iea 0x4FFE) 4 = false ∧
    translate paged .load 0x4FFF = .ok (0x4FFF, {}) ∧ translate paged .load 0x5000 = .error { notFound := true } ∧
    accessReals (.lwz 3 0 4) .other .fixed .load 0x4FFE 4 paged
      = .error (.interrupt (.dataStorage 0x40000000 (some 0x5000))) ∧
    translate direct .load 0x5000 = .ok (0x5000, { directStore := true }) ∧
    alignmentTraps (.lwarx 3 4 5) direct .reserve .load 0x5000 4 = false ∧
    accessReals (.lwarx 3 4 5) .other .reserve .load 0x5000 4 direct
      = .error (.interrupt (.dataStorage 0x04000000 (some 0x5000))) ∧
    accessReals (.stwcxDot 3 0 5) .other .reserve .store 0x7000 4 direct
      = .error (.interrupt (.dataStorage 0x06000000 (some 0x7000))) ∧
    accessReals (.lwz 3 0 4) .other .fixed .load 0x5000 4 direct = .error (.fault .directStoreAccess) := by decide

theorem witness_StorageInterrupts_instructions :
    (∃ a, accessOf (.lwz 3 0 4) paged = some a ∧ a.reals (.lwz 3 0 4) paged
      = .error (.interrupt (.dataStorage 0x40000000 (some 0x5000)))) ∧ admission (.lwz 3 0 4) paged = .execute ∧
    (∃ a, accessOf (.lwz 3 0 4) direct = some a ∧ a.reals (.lwz 3 0 4) direct = .error (.fault .directStoreAccess)) ∧
    admission (.lwz 3 0 4) direct = .execute ∧
    translate paged .store (paged.iea 0x5000) = .error { protection := true } ∧ paged.msrBit msrPR = false ∧
    (paged.relocates .load && paged.cfg.xlate.length == 3) = true :=
  ⟨⟨_, rfl, by decide⟩, by decide, ⟨_, rfl, by decide⟩, by decide, by decide, by decide, by decide⟩

theorem witness_StorageInterrupts_external :
    let s : State := { paged with ear := 0x80000000 }
    let t : State := { direct with ear := 0x80000000 }
    s.cfg.hasExternalControl = true ∧ s.msrBit msrDR = true ∧ bit s.ear 0 = true ∧ AccessKind.load ≠ .ifetch ∧
    alignmentTraps (.eciwx 3 0 4) s .external .load 0x5000 4 = false ∧
    translate s .load 0x5000 = .error { notFound := true } ∧
    alignmentTraps (.eciwx 3 0 4) t .external .load 0x5000 4 = false ∧
    translate t .load 0x5000 = .ok (0x5000, { directStore := true }) := by decide

theorem witness_AlignmentDsisr :
    slice (encode (.lwarx 3 0 4)) 0 6 = 31#6 ∧ slice (encode (.std 3 0 4)) 0 6 = 62#6 ∧
    slice (encode (.lmw 31 0 4)) 0 6 ≠ 31#6 ∧ DsisrRegs.update ≠ .zeroBlock ∧
    alternateForm (.lwax 3 4 5) = some (.lwa 3 0 4) ∧ alternateForm (.lwaux 3 4 5) = none ∧
    accessOf (.lwax 3 4 5) base = some ⟨.other, .fixed, .load, 0, 4⟩ ∧
    accessOf (.lmw 31 0 4) base = some ⟨.outside 31 1, .multiple, .load, 0, 4⟩ ∧
    accessOf (.lswi 31 4 0) base = some ⟨.outside 31 8, .string, .load, 0, 32⟩ ∧
    accessOf (.lswx 31 4 5) { base with xer := 127 } = some ⟨.outside 31 32, .string, .load, 0, 127⟩ ∧
    accessOf (.lbzu 3 0 4) base = some ⟨.update, .fixed, .load, 0, 1⟩ := by decide

/-- R716: whatever is free, DSISR bits 27:31 name RA where the whole file is loaded, and RA or register 0 where 1 to 31
are. -/
theorem test_dsisr_range :
    slice (alignmentDsisr true (encode (.lswx 31 4 5)) (.outside 31 32) 7) 27 5 = 4#5 ∧
    slice (alignmentDsisr true (encode (.lmw 1 0 0)) (.outside 1 31) 7) 27 5 = 0#5 ∧
    slice (alignmentDsisr true (encode (.lmw 30 0 4)) (.outside 30 2) 31) 27 5 = 4#5 ∧
    slice (alignmentDsisr true (encode (.lmw 30 0 4)) (.outside 30 2) 29) 27 5 = 29#5 := by decide

/-- Machines with a request pending and enabled. -/
def requested (ext dec : Bool) (ee : Dword) : State := { base with msr := ee, extPending := ext, decPending := dec }

theorem witness_AsynchronousInterrupts :
    (requested true true 0x8000).msrBit msrEE = true ∧ (requested true true 0x8000).fpEnabledException = false ∧
    (requested true true 0x8000).checkstop = false ∧ (requested true true 0).msrBit msrEE = false ∧
    (requested false true 0x8000).msrBit msrEE = true ∧ (requested false true 0x8000).fpEnabledException = false := by
  decide

/-- A machine with an unmasked floating-point exception, and one with only POW set. -/
theorem witness_AsynchronousInterrupts_late :
    let s : State := { base with msr := 0x8000000000002800, fpscr := 0x64000010 }
    let p : State := { base with msr := 0x8000000000042000 }
    s.msrBit msrFE0 = true ∧ bit s.fpscr 1 = true ∧ s.checkstop = false ∧ s.sresetReq = false ∧ s.mcheckReq = false ∧
    p.msrBit msrPOW = true ∧ p.msrBit msrFE0 = false ∧ p.msrBit msrFE1 = false ∧ p.msrBit msrEE = false ∧
    p.checkstop = false ∧ p.extPending = false := by decide

theorem witness_AsynchronousInterrupts_masked : ∃ t, step (requested true true 0) = .next t := ⟨_, rfl⟩

theorem witness_ResetAndMachineCheck :
    ({ base with sresetReq := true } : State).checkstop = false ∧
    ({ base with mcheckReq := true } : State).msrBit msrME = false ∧
    ({ base with mcheckReq := true, msr := 0x1000 } : State).msrBit msrME = true ∧
    ({ base with checkstop := true } : State).sresetReq = false ∧
    ({ base with checkstop := true, sresetReq := true } : State).sresetReq = true := by decide

/-- A machine with both traces on. -/
def traced : State := { base with msr := 0x8000000000000600 }

theorem witness_TraceAndAssist :
    traced.cfg.hasTrace = true ∧ traced.msrBit msrSE = true ∧ Instr.sync ≠ .rfi ∧ traced.msrBit msrBE = true ∧
    traced.lastInterrupt = none ∧ base.msrBit msrSE = false ∧ base.msrBit msrBE = false ∧
    (takeInterrupt .systemCall traced).lastInterrupt ≠ none ∧ bit traced.fpscr 1 = false ∧
    ({ traced with msr := 0x8000000000000800, fpscr := 0x64000010 } : State).fpEnabledException = true ∧
    traced.cfg.hasFpAssist = false ∧ (slice (encode (.fadd 1 2 3 false)) 0 6).toNat = 63 := by decide

theorem witness_RegisterFrame :
    (∃ t, exec (.stwcxDot 3 4 5) based = .next t) ∧ writesGpr (.stwcxDot 3 4 5) based 3 = false ∧
    writesFpr (.stwcxDot 3 4 5) 3 = false ∧ writesFpscr (.stwcxDot 3 4 5) = false ∧
    writesLr (.stwcxDot 3 4 5) = false ∧ writesCtr (.stwcxDot 3 4 5) = false :=
  ⟨⟨_, rfl⟩, by decide, by decide, by decide, by decide, by decide⟩

theorem witness_MemoryFrame :
    based.mem.wf = true ∧ (∃ t, exec (.stwu 3 8 4) based = .next t) ∧
    (0x1007 : Dword) ∉ storesAt (.stwu 3 8 4) based ∧ (0x1008 : Dword) ∈ storesAt (.stwu 3 8 4) based ∧
    (0x100C : Dword) ∉ storesAt (.stwu 3 8 4) based :=
  ⟨by decide, ⟨_, rfl⟩, by decide, by decide, by decide⟩

theorem witness_SystemFrame :
    user.lastInterrupt = none ∧ (∃ t, exec (.mcrf 1 2) user = .next t ∧ t.lastInterrupt = none) :=
  ⟨rfl, _, rfl, rfl⟩

theorem witness_InvariantKept : State.reset.Inv ∧ ∃ t, step State.reset = .next t :=
  ⟨⟨by decide, by decide, by decide, by decide, by decide, by decide⟩, _, rfl⟩

/-- The context policy that executes, with a table, and the identity translation. -/
theorem witness_StepNeverStops : (relocating .execute).cfg.total ∧ State.reset.cfg.total := by
  constructor
  · refine ⟨rfl, .inl rfl, fun e h page attrs hr => ?_⟩
    simp only [relocating, moved, List.mem_cons, List.not_mem_nil, or_false] at h
    rcases h with rfl | rfl <;> cases hr <;> rfl
  · exact ⟨rfl, .inr ⟨rfl, rfl, rfl⟩, fun _ h => absurd h (by show _ ∉ ([] : List TranslationEntry); exact List.not_mem_nil)⟩

theorem witness_ProblemStateIsolation :
    user.checkstop = false ∧ user.msrBit msrPR = true ∧ ∃ t, step user = .next t := ⟨by decide, by decide, _, rfl⟩

end Sys2Proof.Tests
end

/-! SUPPORT. Where an aligned scalar of an untranslated access goes (20_memory.md R101, R103). The idea: the low-order bits of
an aligned address are 0, so that adding a byte's offset is XORing it. The truncation by the mode distributes over XOR, and
the Endian modification is an XOR, so that the address of every byte is an XOR of EA with a small constant. -/

namespace Sys2Proof.Machine

/-! ## Aligned addresses -/

/-- The widths of R103 are powers of two. -/
theorem scalarWidth_eq_two_pow {w : Nat} (hw : w ∈ [1, 2, 4, 8]) : ∃ n ≤ 3, w = 2 ^ n := by
  simp only [List.mem_cons, List.not_mem_nil, or_false] at hw
  obtain rfl | rfl | rfl | rfl := hw
  exacts [⟨0, by decide⟩, ⟨1, by decide⟩, ⟨2, by decide⟩, ⟨3, by decide⟩]

/-- Where two vectors have no bit in common, OR is XOR. -/
theorem or_eq_xor_of_and_eq_zero {w : Nat} {a b : BitVec w} (h : a &&& b = 0#w) : a ||| b = a ^^^ b := by
  apply BitVec.eq_of_getLsbD_eq
  intro j _
  have hj : (a.getLsbD j && b.getLsbD j) = false := by rw [← BitVec.getLsbD_and, h, BitVec.getLsbD_zero]
  rw [BitVec.getLsbD_or, BitVec.getLsbD_xor]
  revert hj
  cases a.getLsbD j <;> cases b.getLsbD j <;> decide

/-- An aligned address and an offset within its operand have no bit in common, so that their sum is their XOR. -/
theorem add_eq_xor_of_aligned {n k : Nat} {a : Dword} (hn : n ≤ 64) (ha : a.toNat % 2 ^ n = 0) (hk : k < 2 ^ n) :
    a + BitVec.ofNat 64 k = a ^^^ BitVec.ofNat 64 k := by
  have hk64 : (BitVec.ofNat 64 k).toNat = k := by
    rw [BitVec.toNat_ofNat, Nat.mod_eq_of_lt (hk.trans_le (Nat.pow_le_pow_right (by decide) hn))]
  have hand : a &&& BitVec.ofNat 64 k = 0#64 := by
    apply BitVec.eq_of_toNat_eq
    rw [BitVec.toNat_and, hk64, ← Nat.mod_eq_of_lt (Nat.and_lt_two_pow a.toNat hk), Nat.and_mod_two_pow, ha,
      Nat.zero_and, BitVec.toNat_zero]
  rw [BitVec.add_eq_or_of_and_eq_zero _ _ hand, or_eq_xor_of_and_eq_zero hand]

/-- The XOR of aligned addresses is aligned. -/
theorem xor_aligned {n : Nat} {a b : Dword} (ha : a.toNat % 2 ^ n = 0) (hb : b.toNat % 2 ^ n = 0) :
    (a ^^^ b).toNat % 2 ^ n = 0 := by
  rw [BitVec.toNat_xor, Nat.xor_mod_two_pow, ha, hb, Nat.xor_self]

/-! ## The truncation by the mode -/

/-- Truncating to 32 bits distributes over XOR. -/
theorem zext_lowWord_xor (a b : Dword) : zext (lowWord (a ^^^ b)) = zext (lowWord a) ^^^ zext (lowWord b) := by
  simp only [zext, lowWord, BitVec.setWidth_xor]

/-- A truncated address is the address modulo `2 ^ 32`. -/
theorem toNat_zext_lowWord (a : Dword) : (zext (lowWord a)).toNat = a.toNat % 2 ^ 32 := by
  rw [zext, lowWord, BitVec.toNat_setWidth_of_le (by decide), BitVec.toNat_setWidth]

/-- The truncation by the mode distributes over XOR. -/
theorem State.iea_xor (s : State) (a b : Dword) : s.iea (a ^^^ b) = s.iea a ^^^ s.iea b := by
  unfold State.iea
  split
  · rfl
  · exact zext_lowWord_xor a b

/-- The truncation by the mode keeps what lies below `2 ^ 32`. -/
theorem State.iea_of_lt (s : State) {k : Nat} (hk : k < 2 ^ 32) : s.iea (BitVec.ofNat 64 k) = BitVec.ofNat 64 k := by
  unfold State.iea
  split
  · rfl
  · apply BitVec.eq_of_toNat_eq
    rw [toNat_zext_lowWord, BitVec.toNat_ofNat, Nat.mod_mod_of_dvd _ (pow_dvd_pow 2 (by decide)), Nat.mod_eq_of_lt hk,
      Nat.mod_eq_of_lt (hk.trans (by decide))]

/-- The truncation by the mode keeps the low-order 32 bits, and so the alignment. -/
theorem State.iea_mod_two_pow (s : State) (ea : Dword) {n : Nat} (hn : n ≤ 32) :
    (s.iea ea).toNat % 2 ^ n = ea.toNat % 2 ^ n := by
  unfold State.iea
  split
  · rfl
  · rw [toNat_zext_lowWord, Nat.mod_mod_of_dvd _ (pow_dvd_pow 2 hn)]

/-- An aligned operand does not wrap at the top of the address space: its bytes are consecutive in either mode. -/
theorem State.iea_add_of_aligned (s : State) {n k : Nat} {ea : Dword} (hn : n ≤ 32) (ha : (s.iea ea).toNat % 2 ^ n = 0)
    (hk : k < 2 ^ n) : s.iea (ea + BitVec.ofNat 64 k) = s.iea ea + BitVec.ofNat 64 k := by
  have hea : ea.toNat % 2 ^ n = 0 := by rw [← s.iea_mod_two_pow ea hn, ha]
  have hk32 : k < 2 ^ 32 := hk.trans_le (Nat.pow_le_pow_right (by decide) hn)
  rw [add_eq_xor_of_aligned (by omega) hea hk, s.iea_xor, s.iea_of_lt hk32, ← add_eq_xor_of_aligned (by omega) ha hk]

/-- The operand of an aligned access in rising order of address. -/
theorem operandBytes_of_aligned {s : State} {n : Nat} {ea : Dword} (hn : n ≤ 32) (ha : (s.iea ea).toNat % 2 ^ n = 0) :
    operandBytes s ea (2 ^ n) = (List.range (2 ^ n)).map fun k => s.iea ea + BitVec.ofNat 64 k :=
  List.map_congr_left fun _ hk => s.iea_add_of_aligned hn ha (List.mem_range.mp hk)

/-! ## The Endian modification -/

/-- R103 in its two forms: the bytes of `munge(EA, W)` in rising order are the bytes of `EA`, each XORed with 7, in falling
order. -/
theorem munge_add_eq_xor_seven {n k : Nat} {a : Dword} (hn : n ≤ 3) (ha : a.toNat % 2 ^ n = 0) (hk : k < 2 ^ n) :
    (a ^^^ BitVec.ofNat 64 (8 - 2 ^ n)) + BitVec.ofNat 64 k = (a + BitVec.ofNat 64 (2 ^ n - 1 - k)) ^^^ 7 := by
  have hmunge : ∀ n ≤ 3, (BitVec.ofNat 64 (8 - 2 ^ n)).toNat % 2 ^ n = 0 := by decide
  have hoffsets : ∀ n ≤ 3, ∀ k < 2 ^ n,
      BitVec.ofNat 64 (8 - 2 ^ n) ^^^ BitVec.ofNat 64 k = BitVec.ofNat 64 (2 ^ n - 1 - k) ^^^ 7 := by decide
  rw [add_eq_xor_of_aligned (by omega) (xor_aligned ha (hmunge n hn)) hk,
    add_eq_xor_of_aligned (by omega) ha (by omega), BitVec.xor_assoc, hoffsets n hn k hk, BitVec.xor_assoc]

/-! ## The access -/

/-- A data access is relocated where MSR_DR says so. -/
theorem State.relocates_of_data (s : State) {kind : AccessKind} (h : kind ≠ .ifetch) :
    s.relocates kind = s.msrBit msrDR := by
  cases kind with
  | ifetch => exact absurd rfl h
  | load => rfl
  | store => rfl

/-- With relocation off a page has no attributes. -/
theorem attrsOf_untranslated {s : State} {kind : AccessKind} (h : s.relocates kind = false) (a : Dword) :
    attrsOf s kind a = {} := by
  rw [attrsOf, translate_untranslated h]

/-- No alignment policy traps an aligned scalar of an untranslated access: R112 asks for a misaligned operand, a direct-store
segment, or a crossing with MSR_DR = 1. -/
theorem alignmentTraps_of_aligned {s : State} {cls : AccessClass} {kind : AccessKind} {ea : Dword} {w : Nat}
    (hw : w ∈ [1, 2, 4, 8]) (hcls : cls = .fixed ∨ cls = .reserve ∨ (cls = .float ∧ 4 ≤ w)) (hkind : kind ≠ .ifetch)
    (hdr : s.msrBit msrDR = false) (ha : ea.toNat % w = 0) (i : Instr) : alignmentTraps i s cls kind ea w = false := by
  have hrel : s.relocates kind = false := (s.relocates_of_data hkind).trans hdr
  have hword : 4 ≤ w → ea.toNat % 4 = 0 := by
    simp only [List.mem_cons, List.not_mem_nil, or_false] at hw
    obtain rfl | rfl | rfl | rfl := hw <;> omega
  obtain rfl | rfl | ⟨rfl, h4⟩ := hcls
  · by_cases h8 : w = 8
    · simp [alignmentTraps, littleTraps, hdr, ha, hword (by omega)]
    · simp [alignmentTraps, littleTraps, hdr, ha, h8]
  · simp [alignmentTraps, littleTraps, hdr, ha]
  · simp [alignmentTraps, littleTraps, hdr, ha, hword h4, attrsOf_untranslated hrel]

/-- An untranslated access that does not trap reaches the storage addresses of its bytes, most significant byte first. -/
theorem accessReals_untranslated {i : Instr} {regs : DsisrRegs} {cls : AccessClass} {kind : AccessKind} {ea : Dword}
    {w : Nat} {s : State} (hrel : s.relocates kind = false) (h : alignmentTraps i s cls kind (s.iea ea) w = false) :
    accessReals i regs cls kind ea w s =
      let bytes := (operandBytes s ea w).map (storageAddress s)
      .ok (if s.msrBit msrLE then bytes.reverse else bytes) :=
  (accessReals_of_not_traps h).2 _ (bytesReal_map fun a _ => byteReal_untranslated hrel cls a)

/-- A list of `n` values by falling index. -/
theorem reverse_map_range {α : Type} (f : Nat → α) (n : Nat) :
    ((List.range n).map f).reverse = (List.range n).map fun k => f (n - 1 - k) := by
  rw [← List.map_reverse, List.range_eq_range', List.reverse_range', List.map_map, List.range_eq_range']
  simp only [Function.comp_def, Nat.zero_add]

section Aligned

variable {s : State} {i : Instr} {regs : DsisrRegs} {cls : AccessClass} {kind : AccessKind} {ea : Dword} {n : Nat}

/-- An aligned Big-Endian access goes to the bytes of EA. -/
theorem accessReals_of_aligned_big (hn : n ≤ 32) (ha : (s.iea ea).toNat % 2 ^ n = 0) (hrel : s.relocates kind = false)
    (h : alignmentTraps i s cls kind (s.iea ea) (2 ^ n) = false) (hle : s.msrBit msrLE = false) :
    accessReals i regs cls kind ea (2 ^ n) s =
      .ok ((List.range (2 ^ n)).map fun k => s.iea ea + BitVec.ofNat 64 k) := by
  rw [accessReals_untranslated hrel h, operandBytes_of_aligned hn ha]
  simp [storageAddress, hle]

/-- An aligned Little-Endian access goes to the bytes of EA, each XORed with 7, the last byte first. -/
theorem accessReals_of_aligned_little (hn : n ≤ 32) (ha : (s.iea ea).toNat % 2 ^ n = 0)
    (hrel : s.relocates kind = false) (h : alignmentTraps i s cls kind (s.iea ea) (2 ^ n) = false)
    (hle : s.msrBit msrLE = true) :
    accessReals i regs cls kind ea (2 ^ n) s =
      .ok ((List.range (2 ^ n)).map fun k => (s.iea ea + BitVec.ofNat 64 (2 ^ n - 1 - k)) ^^^ 7) := by
  rw [accessReals_untranslated hrel h, operandBytes_of_aligned hn ha, List.map_map]
  simp only [hle, if_true, reverse_map_range, Function.comp_def, storageAddress]

end Aligned

/-- Settles O19: in Little-Endian mode the model sends byte `k` from the least significant end to `(EA + k) XOR 7`, which
`munge_add_eq_xor_seven` ties to R103's XOR of EA with `8 - W`. -/
theorem alignedAccess : Obligations.AlignedAccess := by
  intro s i regs cls kind ea w hw hcls hkind hdr ha
  have hrel : s.relocates kind = false := (s.relocates_of_data hkind).trans hdr
  have htraps := alignmentTraps_of_aligned hw hcls hkind hdr ha i
  obtain ⟨n, hn, rfl⟩ := scalarWidth_eq_two_pow hw
  have little := accessReals_of_aligned_little (regs := regs) (by omega) ha hrel htraps
  refine ⟨?_, little⟩
  cases hle : s.msrBit msrLE with
  | false => exact accessReals_of_aligned_big (by omega) ha hrel htraps hle
  | true =>
    rw [little hle]
    refine congrArg Except.ok (List.map_congr_left fun k hk => ?_)
    exact (munge_add_eq_xor_seven hn ha (List.mem_range.mp hk)).symm

end Sys2Proof.Machine

/-! SUPPORT. The illegal encodings (30_encoding.md R202, R204). The idea: a word with an opcode that has no row is no
instruction; every row of the four 64-bit opcodes builds an instruction that only a 64-bit implementation has, so that the
first decode-time check decides it, whatever the rest of the word says; and the word of zeros falls in no row. -/

namespace Sys2Proof

/-! ## The opcode map -/

/-- A word that falls in no row is no instruction. -/
theorem decode_of_no_row {w : Word} (h : findRow w = none) : decode w = .rejected (rejection w) := by
  unfold decode
  rw [h]

/-- A word that falls in a row without reserved fields is an instruction of that row. -/
theorem decode_of_row_without_reserved {w : Word} {r : OpcodeRow} (h : findRow w = some r) (hr : r.reserved = []) :
    decode w = .instr (r.build w) := by
  unfold decode
  rw [h]
  simp [hr]

/-- A primary opcode without extended opcodes decides the row alone (R190). -/
theorem findRow_of_primary {w : Word} (h : key w 0 6 ∉ [17, 19, 30, 31, 58, 59, 62, 63]) :
    findRow w = primaryRows.lookup (key w 0 6) := by
  unfold findRow
  split <;> simp_all

/-- A word that is no instruction is of the illegal class unless its primary opcode holds words of the reserved class. -/
theorem rejection_of_primary {w : Word} (h : key w 0 6 ∉ [0, 9, 17, 22, 31]) : rejection w = .illegal := by
  unfold rejection
  split <;> simp_all

/-- Each illegal primary opcode has no extended opcodes, no words of the reserved class, and no row (R202). -/
theorem illegalOpcode_vacant : ∀ op ∈ [1#6, 4#6, 5#6, 6#6, 56#6, 57#6, 60#6, 61#6],
    op.toNat ∉ [17, 19, 30, 31, 58, 59, 62, 63] ∧ op.toNat ∉ [0, 9, 17, 22, 31] ∧
      (primaryRows.lookup op.toNat).isNone = true := by
  decide

/-- A word with an illegal primary opcode is of the illegal class. -/
theorem decode_of_illegalOpcode {w : Word}
    (h : slice w 0 6 ∈ [1#6, 4#6, 5#6, 6#6, 56#6, 57#6, 60#6, 61#6]) : decode w = .rejected .illegal := by
  obtain ⟨hprimary, hclass, hvacant⟩ := illegalOpcode_vacant _ h
  have hrow : findRow w = none := (findRow_of_primary hprimary).trans (Option.isNone_iff_eq_none.mp hvacant)
  rw [decode_of_no_row hrow, rejection_of_primary hclass]

/-- The word of zeros is of the illegal class (R204). -/
theorem decode_zero : decode 0 = .rejected .illegal := rfl

/-! ## The rows of the 64-bit opcodes -/

/-- A row of instructions that only a 64-bit implementation has, and that has no reserved field. -/
def OpcodeRow.OnlyOn64 (r : OpcodeRow) : Prop :=
  r.reserved = [] ∧ ∀ (w : Word) (c : Config), ((r.build w).req c).avail = .only64

/-- What holds of every row of a table holds of the row looked up. -/
theorem onlyOn64_of_lookup {rows : List (Nat × OpcodeRow)} (hrows : ∀ p ∈ rows, p.2.OnlyOn64) {k : Nat} {r : OpcodeRow}
    (h : rows.lookup k = some r) : r.OnlyOn64 := by
  obtain ⟨before, after, rfl, -⟩ := List.lookup_eq_some_iff.mp h
  exact hrows (k, r) (by simp)

theorem rows30MD_onlyOn64 : ∀ p ∈ rows30MD, p.2.OnlyOn64 := by
  simp only [rows30MD, List.forall_mem_cons, List.not_mem_nil, false_imp_iff, implies_true, and_true]
  refine ⟨?_, ?_, ?_, ?_⟩ <;> exact ⟨rfl, fun _ _ => rfl⟩

theorem rows30MDS_onlyOn64 : ∀ p ∈ rows30MDS, p.2.OnlyOn64 := by
  simp only [rows30MDS, List.forall_mem_cons, List.not_mem_nil, false_imp_iff, implies_true, and_true]
  refine ⟨?_, ?_⟩ <;> exact ⟨rfl, fun _ _ => rfl⟩

theorem rows58_onlyOn64 : ∀ p ∈ rows58, p.2.OnlyOn64 := by
  simp only [rows58, List.forall_mem_cons, List.not_mem_nil, false_imp_iff, implies_true, and_true]
  refine ⟨?_, ?_, ?_⟩ <;> exact ⟨rfl, fun _ _ => rfl⟩

theorem rows62_onlyOn64 : ∀ p ∈ rows62, p.2.OnlyOn64 := by
  simp only [rows62, List.forall_mem_cons, List.not_mem_nil, false_imp_iff, implies_true, and_true]
  refine ⟨?_, ?_⟩ <;> exact ⟨rfl, fun _ _ => rfl⟩

/-- Primary opcode 30 looks for a row by bits 27:29, then by bits 27:30 (R192). -/
theorem findRow_of_opcode30 {w : Word} (h : slice w 0 6 = 30#6) :
    findRow w = (rows30MD.lookup (key w 27 3)).or (rows30MDS.lookup (key w 27 4)) := by
  simp only [findRow, key, h]
  cases rows30MD.lookup (slice w 27 3).toNat <;> rfl

theorem findRow_of_opcode58 {w : Word} (h : slice w 0 6 = 58#6) : findRow w = rows58.lookup (key w 30 2) := by
  simp only [findRow, key, h]
  rfl

theorem findRow_of_opcode62 {w : Word} (h : slice w 0 6 = 62#6) : findRow w = rows62.lookup (key w 30 2) := by
  simp only [findRow, key, h]
  rfl

/-- Every row of the primary opcodes 2, 30, 58 and 62 is of the 64-bit implementations (R202). -/
theorem findRow_onlyOn64 {w : Word} {r : OpcodeRow} (hop : slice w 0 6 ∈ [2#6, 30#6, 58#6, 62#6])
    (h : findRow w = some r) : r.OnlyOn64 := by
  simp only [List.mem_cons, List.not_mem_nil, or_false] at hop
  obtain htdi | h30 | h58 | h62 := hop
  · have hkey : key w 0 6 = 2 := by rw [key, htdi]; rfl
    rw [findRow_of_primary (by rw [hkey]; decide), hkey] at h
    cases h
    exact ⟨rfl, fun _ _ => rfl⟩
  · rw [findRow_of_opcode30 h30, Option.or_eq_some_iff] at h
    obtain hMD | ⟨-, hMDS⟩ := h
    · exact onlyOn64_of_lookup rows30MD_onlyOn64 hMD
    · exact onlyOn64_of_lookup rows30MDS_onlyOn64 hMDS
  · rw [findRow_of_opcode58 h58] at h
    exact onlyOn64_of_lookup rows58_onlyOn64 h
  · rw [findRow_of_opcode62 h62] at h
    exact onlyOn64_of_lookup rows62_onlyOn64 h

end Sys2Proof

namespace Sys2Proof.Machine

/-! ## The first decode-time check -/

/-- Every instruction makes the decode-time checks before its body runs. -/
theorem exec_eq_admitted (i : Instr) (s : State) : ∃ body, exec i s = admitted i s body := by
  cases i <;> exact ⟨_, rfl⟩

/-- An instruction the implementation does not have takes Program(Illegal) (R200 steps 3 and 4). -/
theorem exec_of_not_implemented {i : Instr} {s : State} (h : implemented (i.req s.cfg) s.cfg = false) :
    exec i s = .next (takeInterrupt (.program .illegal) s) := by
  obtain ⟨body, hbody⟩ := exec_eq_admitted i s
  rw [hbody]
  simp [admitted, admission, admissionBeforeForm, h, interrupt]

/-- A 32-bit implementation does not have the instructions of the 64-bit ones. -/
theorem not_implemented_of_only64 {r : Req} {c : Config} (hr : r.avail = .only64) (hc : c.impl64 = false) :
    implemented r c = false := by
  simp [implemented, hr, hc]

/-! ## The step that fetches a word which is no instruction -/

/-- Which translation applies does not depend on the interrupt last taken. -/
theorem findTranslation_lastInterrupt (s : State) (l : List TranslationEntry) (page : BitVec 52) (kind : AccessKind)
    (priv : Bool) (k : Option IntrKind) :
    findTranslation { s with lastInterrupt := k } l page kind priv = findTranslation s l page kind priv := by
  have hmeets : State.meets { s with lastInterrupt := k } = s.meets := by
    funext c
    cases c <;> rfl
  induction l with
  | nil => rfl
  | cons e rest ih => simp only [findTranslation, hmeets, ih]

/-- Translation does not depend on the interrupt last taken. -/
theorem translate_lastInterrupt (s : State) (kind : AccessKind) (a : Dword) (k : Option IntrKind) :
    translate { s with lastInterrupt := k } kind a = translate s kind a := by
  have hrelocates : State.relocates { s with lastInterrupt := k } kind = s.relocates kind := by cases kind <;> rfl
  simp only [translate, hrelocates, findTranslation_lastInterrupt, State.msrBit]

/-- Where an instruction is fetched does not depend on the interrupt last taken. -/
theorem fetchReal_lastInterrupt (s : State) (k : Option IntrKind) :
    fetchReal { s with lastInterrupt := k } = fetchReal s := by
  unfold fetchReal
  rw [translate_lastInterrupt]
  rfl

/-- Nothing comes before the fetch of the next instruction (60_exceptions.md R782 steps 1 to 6). -/
structure State.Quiet (s : State) : Prop where
  sreset : s.sresetReq = false
  mcheck : s.mcheckReq = false
  floating : s.fpEnabledException = false
  external : (s.extPending && s.msrBit msrEE) = false
  decrementer : (s.decPending && s.msrBit msrEE) = false
  pow : s.msrBit msrPOW = false

/-- Where nothing comes before it, the next instruction runs. -/
theorem select_of_quiet {s : State} (h : s.Quiet) : select s = runInstruction s := by
  simp [select, h.sreset, h.mcheck, h.floating, h.external, h.decrementer, h.pow]

/-- A step outside Checkstop is the selection, in a state that has taken no interrupt yet, and then the environment. -/
theorem step_of_select {s t : State} (hc : s.checkstop = false) (h : select { s with lastInterrupt := none } = .next t) :
    step s = .next (environment t) := by
  unfold step cycle
  dsimp only
  rw [if_neg (by simp [hc]), h]

/-- What decodes is the four bytes that stand where the fetch goes (20_memory.md R102). -/
theorem fetchDecode_of_fetchReal {s : State} {real : Dword} (h : fetchReal s = .ok real) :
    fetchDecode s = .ok (decodeBytes (s.mem.readAll (wordAddresses real))) := by
  simp [fetchDecode, h]

/-- A word that is no instruction takes Program(Illegal) (30_encoding.md R205, R215). -/
theorem runInstruction_of_rejected {s : State} {r : Rejection} (h : fetchDecode s = .ok (.rejected r)) :
    runInstruction s = .next (takeInterrupt (.program .illegal) s) := by
  simp [runInstruction, h, interrupt]

/-- A step that fetches a word which is no instruction, with nothing to come before it, takes Program(Illegal). -/
theorem step_of_rejected {s : State} {real : Dword} {r : Rejection} (hc : s.checkstop = false) (hq : s.Quiet)
    (hfetch : fetchReal s = .ok real) (hdecode : decodeBytes (s.mem.readAll (wordAddresses real)) = .rejected r) :
    step s = .next (environment (takeInterrupt (.program .illegal) { s with lastInterrupt := none })) := by
  have hq0 : State.Quiet { s with lastInterrupt := none } := { hq with }
  have hreal : fetchReal { s with lastInterrupt := none } = .ok real := (fetchReal_lastInterrupt s none).trans hfetch
  have hrejected : fetchDecode { s with lastInterrupt := none } = .ok (.rejected r) :=
    (fetchDecode_of_fetchReal hreal).trans (congrArg Except.ok hdecode)
  exact step_of_select hc ((select_of_quiet hq0).trans (runInstruction_of_rejected hrejected))

/-! ## O6 -/

/-- On a 32-bit implementation every word of the 64-bit opcodes ends in Program(Illegal): as an instruction the
implementation lacks, or as a word without a row. -/
theorem decode_of_opcode64 {w : Word} {s : State} (hop : slice w 0 6 ∈ [2#6, 30#6, 58#6, 62#6])
    (hc : s.cfg.impl64 = false) :
    (∃ i, decode w = .instr i ∧ exec i s = .next (takeInterrupt (.program .illegal) s)) ∨
      ∃ r, decode w = .rejected r := by
  cases hrow : findRow w with
  | none => exact .inr ⟨_, decode_of_no_row hrow⟩
  | some r =>
    obtain ⟨hreserved, havail⟩ := findRow_onlyOn64 hop hrow
    exact .inl ⟨_, decode_of_row_without_reserved hrow hreserved,
      exec_of_not_implemented (not_implemented_of_only64 (havail w s.cfg) hc)⟩

/-- Settles O6, from the opcode map: no row for the eight opcodes, only rows of the 64-bit implementations for the other
four, and no row for the word of zeros. -/
theorem illegalEncodings : Obligations.IllegalEncodings := by
  refine ⟨⟨fun w => decode_of_illegalOpcode, fun w s => decode_of_opcode64⟩, decode_zero, ?_⟩
  intro s real hcheckstop hsreset hmcheck hfloating hexternal hdecrementer hpow hfetch hbytes
  have hquiet : s.Quiet := ⟨hsreset, hmcheck, hfloating, hexternal, hdecrementer, hpow⟩
  have hdecode : decodeBytes (s.mem.readAll (wordAddresses real)) = .rejected .illegal := by
    rw [hbytes]
    exact decode_zero
  exact step_of_rejected hcheckstop hquiet hfetch hdecode

end Sys2Proof.Machine

/-! SUPPORT. System Call (40_branch.md R256). The idea: `sc` is the one row of primary opcode 17, and no other row builds it,
so a word is a valid `sc` exactly if its four fields are those of 0x44000002; its interrupt is taken in every state, since
no decode-time check holds it back, and Trace does not follow an interrupt. -/

namespace Sys2Proof

/-! ## The fields of a word -/

/-- The slice of one bit. -/
theorem slice_one {n : Nat} (v : BitVec n) {i : Nat} (h : i < n) : slice v i 1 = b1 (bit v i) := by
  apply BitVec.eq_of_getLsbD_eq
  intro k hk
  obtain rfl : k = 0 := by omega
  simp [slice, b1, bit, BitVec.getMsbD, h, Nat.sub_right_comm]

/-- A word is the four fields of its SC-form in order (30_encoding.md R164). -/
theorem scFields_append (w : Word) : slice w 0 6 ++ slice w 6 24 ++ slice w 30 1 ++ slice w 31 1 = w := by
  rw [← Laws.slice_split w 0 6 24 (by omega), ← Laws.slice_split w 0 30 1 (by omega),
    ← Laws.slice_split w 0 31 1 (by omega)]
  exact Laws.slice_all w

/-- A word with the opcode of `sc`, its constant 1 and its reserved bits 0 is the word of `sc`. -/
theorem eq_encode_sc_of_fields {w : Word} (hop : slice w 0 6 = 17#6) (hmiddle : slice w 6 24 = 0#24)
    (hone : bit w 30 = true) (hlast : slice w 31 1 = 0#1) : w = encode .sc := by
  rw [← scFields_append w, hop, hmiddle, slice_one w (by omega), hone, hlast]
  rfl

/-! ## The opcode map around `sc` -/

/-- Primary opcode 17 has the row of `sc`, for the words with bit 30 set (R164, R215). -/
theorem findRow_of_opcode17 {w : Word} (h : slice w 0 6 = 17#6) :
    findRow w = if bit w 30 then some rowSc else none := by
  simp only [findRow, key, h]
  rfl

/-- A word that falls in a row is its instruction or, with a reserved bit set, an invalid form of it (R183). -/
theorem decode_of_row {w : Word} {r : OpcodeRow} (h : findRow w = some r) :
    decode w = if r.reserved.all (fieldClear w) then .instr (r.build w) else .reservedBits (r.build w) := by
  unfold decode
  rw [h]

/-- The tables of the primary opcodes other than 17. -/
def tablesOutside17 : List (List (Nat × OpcodeRow)) :=
  [primaryRows, rows19, rows30MD, rows30MDS, rows31X, rows31XO, rows58, rows59, rows62, rows63A, rows63X]

/-- The row of a word of another primary opcode than 17 was looked up in one of those tables. -/
theorem findRow_outside17 {w : Word} {r : OpcodeRow} (hop : slice w 0 6 ≠ 17#6) (h : findRow w = some r) :
    ∃ rows ∈ tablesOutside17, ∃ k, rows.lookup k = some r := by
  unfold findRow at h
  split at h
  case h_1 h17 => exact absurd (BitVec.eq_of_toNat_eq (y := 17#6) h17) hop
  case h_2 => exact ⟨rows19, by simp [tablesOutside17], _, h⟩
  case h_3 =>
    split at h
    · cases h
      exact ⟨rows30MD, by simp [tablesOutside17], _, ‹_›⟩
    · exact ⟨rows30MDS, by simp [tablesOutside17], _, h⟩
  case h_4 =>
    split at h
    · split at h
      · cases h
      · cases h
        exact ⟨rows31X, by simp [tablesOutside17], _, ‹_›⟩
    · exact ⟨rows31XO, by simp [tablesOutside17], _, h⟩
  case h_5 => exact ⟨rows58, by simp [tablesOutside17], _, h⟩
  case h_6 => exact ⟨rows59, by simp [tablesOutside17], _, h⟩
  case h_7 => exact ⟨rows62, by simp [tablesOutside17], _, h⟩
  case h_8 =>
    split at h
    · cases h
      exact ⟨rows63A, by simp [tablesOutside17], _, ‹_›⟩
    · exact ⟨rows63X, by simp [tablesOutside17], _, h⟩
  case h_9 => exact ⟨primaryRows, by simp [tablesOutside17], _, h⟩

/-- No row of the other primary opcodes builds `sc`, whatever the word. -/
theorem tablesOutside17_build_ne_sc (w : Word) :
    (tablesOutside17.all fun rows => rows.all fun p => p.2.build w != .sc) = true := rfl

/-- The row of a word of another primary opcode builds another instruction. -/
theorem build_ne_sc_of_outside17 {w : Word} {r : OpcodeRow} (hop : slice w 0 6 ≠ 17#6) (h : findRow w = some r) :
    r.build w ≠ .sc := by
  obtain ⟨rows, hrows, k, hlookup⟩ := findRow_outside17 hop h
  obtain ⟨before, after, rfl, -⟩ := List.lookup_eq_some_iff.mp hlookup
  have hall := List.all_eq_true.mp (tablesOutside17_build_ne_sc w) _ hrows
  have hrow := List.all_eq_true.mp hall (k, r) (by simp)
  exact bne_iff_ne.mp hrow

/-- A word that decodes to `sc` has primary opcode 17. -/
theorem opcode17_of_decode_eq_sc {w : Word} (h : decode w = .instr .sc) : slice w 0 6 = 17#6 := by
  by_contra hop
  cases hrow : findRow w with
  | none => simp [decode_of_no_row hrow] at h
  | some r =>
    rw [decode_of_row hrow] at h
    split at h
    · exact build_ne_sc_of_outside17 hop hrow (Decoded.instr.inj h)
    · cases h

/-- The reserved bits of the row of `sc` are 0 in its own word alone (R164, R183). -/
theorem rowSc_reserved_iff {w : Word} (hop : slice w 0 6 = 17#6) (hone : bit w 30 = true) :
    rowSc.reserved.all (fieldClear w) = true ↔ w = encode .sc := by
  constructor
  · intro h
    simp only [rowSc, fieldClear, List.all_cons, List.all_nil, Bool.and_true, Bool.and_eq_true, beq_iff_eq] at h
    obtain ⟨hmiddle, hlast⟩ := h
    exact eq_encode_sc_of_fields hop hmiddle hone hlast
  · rintro rfl
    rfl

/-- With bit 30 clear, a word of primary opcode 17 is of the reserved class (R215). -/
theorem decode_of_opcode17_zero {w : Word} (hop : slice w 0 6 = 17#6) (hzero : bit w 30 = false) :
    decode w = .rejected .reservedClass := by
  rw [decode_of_no_row (by rw [findRow_of_opcode17 hop, hzero]; rfl)]
  simp only [rejection, key, hop]
  rfl

/-- With bit 30 set, a word of primary opcode 17 is `sc` or an invalid form of it (R211 d). -/
theorem decode_of_opcode17_one {w : Word} (hop : slice w 0 6 = 17#6) (hone : bit w 30 = true) :
    decode w = if w = encode .sc then .instr .sc else .reservedBits .sc := by
  rw [decode_of_row (r := rowSc) (by rw [findRow_of_opcode17 hop, hone]; rfl)]
  simp only [rowSc_reserved_iff hop hone]
  rfl

/-- The one valid word of `sc` (40_branch.md R256). -/
theorem decode_eq_sc_iff {w : Word} : decode w = .instr .sc ↔ w = encode .sc := by
  constructor
  · intro h
    have hop := opcode17_of_decode_eq_sc h
    cases hbit : bit w 30 with
    | false => simp [decode_of_opcode17_zero hop hbit] at h
    | true =>
      by_contra hw
      simp [decode_of_opcode17_one hop hbit, hw] at h
  · rintro rfl
    rfl

end Sys2Proof

namespace Sys2Proof.Machine

/-! ## The interrupt -/

/-- No decode-time check holds `sc` back: it takes its interrupt in every state. -/
theorem exec_sc (s : State) : exec .sc s = .next (takeInterrupt .systemCall s) :=
  admitted_of_execute (i := .sc) (s := s) (admission_free rfl rfl rfl) _

/-- No Trace interrupt follows another interrupt (60_exceptions.md R721). -/
theorem withTrace_of_interrupted {i : Instr} {s t : State} (h : t.lastInterrupt ≠ none) :
    withTrace i s (.next t) = .next t := by
  simp [withTrace, h]

/-- Outside its mask, `merge` gives the old bits. -/
theorem merge_and_not {n : Nat} (mask new old : BitVec n) : merge mask new old &&& ~~~mask = old &&& ~~~mask := by
  apply BitVec.eq_of_getLsbD_eq
  intro k hk
  simp only [merge, BitVec.getLsbD_and, BitVec.getLsbD_or, BitVec.getLsbD_not, hk]
  cases mask.getLsbD k <;> simp

/-- Absent bits are absent from a masked value too (00_scope.md R6). -/
theorem State.narrow_and (s : State) (a b : Dword) : s.narrow (a &&& b) = s.narrow a &&& b := by
  unfold State.narrow
  split
  · rfl
  · apply BitVec.eq_of_getLsbD_eq
    intro k hk
    by_cases h : k < 32 <;> simp [zext, lowWord, hk, h]

/-- Outside bits 32:47, SRR1 is the MSR (R702). -/
theorem srr1_systemCall_and (s : State) :
    Cause.systemCall.srr1 s &&& ~~~0xFFFF0000 = s.narrow s.msr &&& ~~~0xFFFF0000 := by
  unfold Cause.srr1
  rw [← State.narrow_and, merge_and_not, State.narrow_and]

/-- What the System Call interrupt writes: the DSISR, the DAR, the FPECR and the requests stay. -/
theorem takeInterrupt_systemCall_shape (s : State) :
    takeInterrupt .systemCall s =
      { s with
        srr0 := s.nextPc
        srr1 := Cause.systemCall.srr1 s
        msr := interruptMsr .systemCall s
        pc := s.narrow (s.vectorBase + 0xC00) &&& ~~~ 3#64
        lastInterrupt := some .systemCall
        ibatAltered := noneAltered
        draws := s.draws + 2 } := by
  simp [takeInterrupt, Cause.srr0, Cause.dsisr, Cause.dar, Cause.fpecr, Cause.floating, Cause.synchronizes, Cause.kind,
    vectorOffset]

/-! ## O18 -/

/-- Settles O18, from the opcode map around primary opcode 17 and what the System Call interrupt writes. -/
theorem systemCall : Obligations.SystemCall := by
  refine ⟨fun w => ⟨decode_eq_sc_iff, decode_of_opcode17_zero, fun hop hone hw => ?_⟩, rfl, fun s => ?_⟩
  · exact (decode_of_opcode17_one hop hone).trans (if_neg hw)
  · refine ⟨exec_sc s, withTrace_of_interrupted (by simp), rfl, srr1_systemCall_and s, rfl, rfl, ?_⟩
    rw [takeInterrupt_systemCall_shape]

end Sys2Proof.Machine

/-! SUPPORT. The Time Base and the Decrementer as Special Purpose Registers (60_exceptions.md R756, R761). The idea: the three
numbers 22, 284 and 285 name defined registers, are privileged and fall under no requirement on an altered context, so that
only the privilege check stands before the move; and what an mtspr of any number ends in is its register write or an
interrupt that is raised before execution, which is never the Decrementer's. -/

namespace Sys2Proof.Machine

/-! ## The decode-time checks before a move -/

/-- In problem state a privileged instruction that the implementation has takes Program(Privileged) (R200 step 5). -/
theorem exec_of_privileged {i : Instr} {s : State} (himpl : implemented (i.req s.cfg) s.cfg = true)
    (hpriv : (i.req s.cfg).priv = true) (hpr : s.msrBit msrPR = true) :
    exec i s = .next (takeInterrupt (.program .privileged) s) := by
  obtain ⟨body, hbody⟩ := exec_eq_admitted i s
  rw [hbody]
  simp [admitted, admission, admissionBeforeForm, himpl, hpriv, hpr, interrupt]

/-- The checks before execution never raise the Decrementer interrupt. -/
theorem kind_ne_decrementer_of_raise {i : Instr} {s : State} {c : Cause} (h : admission i s = .raise c) :
    c.kind ≠ .decrementer := by
  have hbefore : admissionBeforeForm i s = some c := by
    unfold admission at h
    split at h
    · next hsome => rw [hsome, Admission.raise.inj h]
    · split at h <;> cases h
  unfold admissionBeforeForm at hbefore
  dsimp only at hbefore
  split at hbefore
  · cases hbefore; decide
  · split at hbefore
    · cases hbefore; decide
    · split at hbefore
      · cases hbefore; decide
      · cases hbefore

/-! ## What an mtspr ends in -/

/-- `mtspr` is its checks before the register write and the requirements on an altered context. -/
theorem exec_mtspr (n : SprNum) (rx : Gpr) (s : State) :
    exec (.mtspr n rx) s = admitted (.mtspr n rx) s
      (contextAltered (sprBroken s n (writeSpr n (s.x rx) s)) (writeSpr n (s.x rx) s).advance) := rfl

/-- `mfspr` is its checks before the copy into the register. -/
theorem exec_mfspr (rx : Gpr) (n : SprNum) (s : State) :
    exec (.mfspr rx n) s = admitted (.mfspr rx n) s (.next (s.setX rx (readSpr n s)).advance) := rfl

/-- The next state after an mtspr: the register is written, and the state perhaps marked, or an interrupt raised before
execution is taken. -/
theorem exec_mtspr_cases {n : SprNum} {rx : Gpr} {s t : State} (h : exec (.mtspr n rx) s = .next t) :
    (∃ marked, t = { (writeSpr n (s.x rx) s).advance with flagged := marked }) ∨
      ∃ c : Cause, c.kind ≠ .decrementer ∧ t = takeInterrupt c s := by
  rw [exec_mtspr] at h
  obtain ⟨-, hbody⟩ | ⟨c, hraise, ht⟩ | ⟨-, -, ht⟩ := admitted_cases h
  · obtain ⟨-, ht⟩ | ⟨-, -, ht⟩ := contextAltered_cases hbody
    · exact .inl ⟨_, ht⟩
    · exact .inl ⟨true, ht⟩
  · exact .inr ⟨c, kind_ne_decrementer_of_raise hraise, ht⟩
  · exact .inr ⟨_, by decide, ht⟩

/-! ## The register written -/

/-- `SPR(22)` is the Decrementer; a write requests an interrupt where bit 0 goes from 0 to 1 (R761). -/
theorem writeSpr_dec (v : Dword) (s : State) :
    writeSpr 22 v s =
      { s with dec := lowWord v, decPending := s.decPending || (!bit s.dec 0 && bit (lowWord v) 0) } := rfl

/-- `SPR(284)` is the lower half of the Time Base (R756). -/
theorem writeSpr_tbl (v : Dword) (s : State) : writeSpr 284 v s = { s with tb := slice s.tb 0 32 ++ lowWord v } := rfl

/-- `SPR(285)` is the upper half of the Time Base (R756). -/
theorem writeSpr_tbu (v : Dword) (s : State) : writeSpr 285 v s = { s with tb := lowWord v ++ lowWord s.tb } := rfl

/-- `SPR(22)` reads as the Decrementer, zero-extended. -/
theorem readSpr_dec (s : State) : readSpr 22 s = zext s.dec := rfl

/-! ## The three timer numbers -/

/-- The SPR numbers of the Decrementer and of the two halves of the Time Base that mtspr may name. -/
def TimerSpr (n : SprNum) : Prop := n = 22 ∨ n = 284 ∨ n = 285

/-- No other number names a timer register. -/
theorem writeSpr_of_not_timer {n : SprNum} (h : ¬ TimerSpr n) (v : Dword) (s : State) :
    (writeSpr n v s).tb = s.tb ∧ (writeSpr n v s).dec = s.dec ∧ (writeSpr n v s).decPending = s.decPending := by
  unfold writeSpr
  split
  all_goals try exact ⟨rfl, rfl, rfl⟩
  · next hn => exact absurd (.inl (BitVec.eq_of_toNat_eq hn)) h
  · next hn => exact absurd (.inr (.inl (BitVec.eq_of_toNat_eq hn))) h
  · next hn => exact absurd (.inr (.inr (BitVec.eq_of_toNat_eq hn))) h
  · split_ifs <;> exact ⟨rfl, rfl, rfl⟩

/-- Only 284 and 285 name a half of the Time Base. -/
theorem writeSpr_keeps_tb {n : SprNum} (htbl : n ≠ 284) (htbu : n ≠ 285) (v : Dword) (s : State) :
    (writeSpr n v s).tb = s.tb := by
  by_cases h : TimerSpr n
  · obtain rfl | htimer | htimer := h
    · rfl
    · exact absurd htimer htbl
    · exact absurd htimer htbu
  · exact (writeSpr_of_not_timer h v s).left

/-- Only 22 names the Decrementer. -/
theorem writeSpr_keeps_dec {n : SprNum} (hdec : n ≠ 22) (v : Dword) (s : State) :
    (writeSpr n v s).dec = s.dec ∧ (writeSpr n v s).decPending = s.decPending := by
  by_cases h : TimerSpr n
  · obtain htimer | rfl | rfl := h
    · exact absurd htimer hdec
    · exact ⟨rfl, rfl⟩
    · exact ⟨rfl, rfl⟩
  · exact (writeSpr_of_not_timer h v s).right

/-- mtspr may name it on every implementation. -/
theorem TimerSpr.mtsprDefined_eq_true {n : SprNum} (h : TimerSpr n) (c : Config) : mtsprDefined c n = true := by
  obtain rfl | rfl | rfl := h <;> simp [mtsprDefined]

/-- Moves to it are privileged. -/
theorem TimerSpr.req_priv {n : SprNum} (h : TimerSpr n) (rx : Gpr) (c : Config) :
    (Instr.req c (.mtspr n rx)).priv = true := by
  have hbit : n.getLsbD 4 = true := by obtain rfl | rfl | rfl := h <;> decide
  simp [Instr.req, sprPrivileged, hbit, h.mtsprDefined_eq_true c]

/-- Appendix L.4 puts no requirement on writing them. -/
theorem TimerSpr.sprBroken_eq_false {n : SprNum} (h : TimerSpr n) (s t : State) : sprBroken s n t = false := by
  obtain rfl | rfl | rfl := h <;> simp [sprBroken]

/-- In supervisor state an mtspr of a timer number writes its register. -/
theorem exec_mtspr_timer {n : SprNum} (h : TimerSpr n) {s : State} (hpr : s.msrBit msrPR = false) (rx : Gpr) :
    exec (.mtspr n rx) s = .next (writeSpr n (s.x rx) s).advance := by
  have hadmit : admission (.mtspr n rx) s = .execute :=
    (admission_execute_iff _ _).mpr ⟨rfl, fun _ => hpr, nofun, rfl, h.mtsprDefined_eq_true s.cfg⟩
  rw [exec_mtspr, admitted_of_execute hadmit, contextAltered_of_kept (h.sprBroken_eq_false s _)]

/-- In problem state an mtspr of a timer number takes Program(Privileged). -/
theorem exec_mtspr_timer_problem {n : SprNum} (h : TimerSpr n) {s : State} (hpr : s.msrBit msrPR = true) (rx : Gpr) :
    exec (.mtspr n rx) s = .next (takeInterrupt (.program .privileged) s) :=
  exec_of_privileged rfl (h.req_priv rx s.cfg) hpr

/-- In supervisor state mfspr 22 copies the Decrementer. -/
theorem exec_mfspr_dec {s : State} (hpr : s.msrBit msrPR = false) (rx : Gpr) :
    exec (.mfspr rx 22) s = .next (s.setX rx (zext s.dec)).advance := by
  have hadmit : admission (.mfspr rx 22) s = .execute :=
    (admission_execute_iff _ _).mpr ⟨rfl, fun _ => hpr, nofun, rfl, rfl⟩
  rw [exec_mfspr, admitted_of_execute hadmit, readSpr_dec]

/-- In problem state mfspr 22 takes Program(Privileged). -/
theorem exec_mfspr_dec_problem {s : State} (hpr : s.msrBit msrPR = true) (rx : Gpr) :
    exec (.mfspr rx 22) s = .next (takeInterrupt (.program .privileged) s) :=
  exec_of_privileged rfl rfl hpr

/-! ## The moves and the timer registers -/

/-- In supervisor state mtspr 284 replaces the lower half of the Time Base, and that alone of the timer registers. -/
theorem exec_mtspr_tbl {s : State} (hpr : s.msrBit msrPR = false) (rx : Gpr) :
    ∃ t, exec (.mtspr 284 rx) s = .next t ∧ slice t.tb 32 32 = lowWord (s.x rx) ∧
      slice t.tb 0 32 = slice s.tb 0 32 ∧ t.dec = s.dec ∧ t.decPending = s.decPending := by
  refine ⟨_, exec_mtspr_timer (.inr (.inl rfl)) hpr rx, ?_, ?_, rfl, rfl⟩ <;>
    rw [State.advance_tb, writeSpr_tbl] <;> dsimp only
  · rw [Laws.slice_append_right _ _ _ _ (by decide) (by decide), Laws.slice_all]
  · rw [Laws.slice_append_left _ _ _ _ (by decide), Laws.slice_all]

/-- In supervisor state mtspr 285 replaces the upper half of the Time Base, and that alone of the timer registers. -/
theorem exec_mtspr_tbu {s : State} (hpr : s.msrBit msrPR = false) (rx : Gpr) :
    ∃ t, exec (.mtspr 285 rx) s = .next t ∧ slice t.tb 0 32 = lowWord (s.x rx) ∧
      slice t.tb 32 32 = slice s.tb 32 32 ∧ t.dec = s.dec ∧ t.decPending = s.decPending := by
  refine ⟨_, exec_mtspr_timer (.inr (.inr rfl)) hpr rx, ?_, ?_, rfl, rfl⟩ <;>
    rw [State.advance_tb, writeSpr_tbu] <;> dsimp only
  · rw [Laws.slice_append_left _ _ _ _ (by decide), Laws.slice_all]
  · rw [Laws.slice_append_right _ _ _ _ (by decide) (by decide), Laws.slice_all]
    rfl

/-- An mtspr of any other number, done or stopped by an interrupt, leaves the timer registers alone. -/
theorem exec_mtspr_keeps_timers {s t : State} {n : SprNum} {rx : Gpr} (h : exec (.mtspr n rx) s = .next t) :
    (n ≠ 284 → n ≠ 285 → t.tb = s.tb) ∧ (n ≠ 22 → t.dec = s.dec ∧ t.decPending = s.decPending) := by
  obtain ⟨marked, rfl⟩ | ⟨c, hkind, rfl⟩ := exec_mtspr_cases h
  · exact ⟨fun htbl htbu => writeSpr_keeps_tb htbl htbu _ s, fun hdec => writeSpr_keeps_dec hdec _ s⟩
  · exact ⟨fun _ _ => rfl, fun _ => ⟨rfl, by simp [hkind]⟩⟩

/-! ## O15 -/

/-- Settles O15, from the privilege check and the register write of the three timer numbers, and from what an mtspr of any
number can end in. -/
theorem timerRegisters : Obligations.TimerRegisters := by
  refine ⟨fun s rx => ⟨fun hpr => ⟨exec_mtspr_tbl hpr rx, exec_mtspr_tbu hpr rx⟩, fun hpr => ⟨?_, ?_⟩⟩,
    fun s rx => ⟨fun hpr => ⟨?_, exec_mfspr_dec hpr rx, rfl, rfl⟩, fun hpr => ⟨?_, exec_mfspr_dec_problem hpr rx⟩⟩,
    fun s t n rx => exec_mtspr_keeps_timers⟩
  · exact exec_mtspr_timer_problem (.inr (.inl rfl)) hpr rx
  · exact exec_mtspr_timer_problem (.inr (.inr rfl)) hpr rx
  · rw [exec_mtspr_timer (.inl rfl) hpr, writeSpr_dec]
  · exact exec_mtspr_timer_problem (.inl rfl) hpr rx

end Sys2Proof.Machine


/-! SUPPORT. The decoder and the encoder are inverse (30_encoding.md R160 to R200). The idea: the encoder puts every field
where the decoder reads it, so that the encoding of what a row builds from a word is that word with the reserved fields of
the row cleared; this is shown row by row, table by table, after the words of all forms are written as words of a few forms.
With `Laws.Encoded`, which finds the row of every encoding, both directions follow. -/

namespace Sys2Proof
open Laws

/-! ## Masks -/

/-- The mask with the bits of some fields set, each given by its first bit and its length. -/
def fieldsMask : List (Nat × Nat) → Word
  | [] => 0
  | f :: fs => ones 32 f.1 f.2 ||| fieldsMask fs

theorem slice_and {n : Nat} (v m : BitVec n) (i k : Nat) : slice (v &&& m) i k = slice v i k &&& slice m i k :=
  BitVec.extractLsb'_and

theorem bit_and {n : Nat} (v m : BitVec n) (i : Nat) : bit (v &&& m) i = (bit v i && bit m i) :=
  BitVec.getMsbD_and

/-- A slice of a slice. -/
theorem slice_slice {m i n j k : Nat} (v : BitVec m) (hn : i + n ≤ m) (hk : j + k ≤ n) :
    slice (slice v i n) j k = slice v (i + j) k := by
  apply BitVec.eq_of_getLsbD_eq
  intro l hl
  have h : n - j - k + l < n := by omega
  simp only [slice, BitVec.getLsbD_extractLsb', hl, h, decide_true, Bool.true_and]
  congr 1; omega

/-- The bit of a slice of one bit. -/
theorem bit_of_slice_one {n i : Nat} {v : BitVec n} {b : BitVec 1} (h : slice v i 1 = b) (hi : i < n := by omega) :
    bit v i = bit b 0 := by
  rw [← h, slice_one v hi, bit_b1]

/-- A key of the opcode map as a field. -/
theorem slice_of_key {w : Word} {i n k : Nat} (h : key w i n = k) : slice w i n = BitVec.ofNat n k := by
  rw [← h, key, BitVec.ofNat_toNat, BitVec.setWidth_eq]

theorem and_five_ones (x : BitVec 5) : x &&& 31#5 = x := BitVec.and_allOnes

theorem and_sixteen_ones (x : BitVec 16) : x &&& 65535#16 = x := BitVec.and_allOnes

/-! ## The forms as fields in order -/

theorem encX_fields (w : Word) :
    encX (slice w 0 6) (slice w 6 5) (slice w 11 5) (slice w 16 5) (slice w 21 10) (bit w 31) = w := by
  unfold encX
  rw [← slice_one w (by omega), ← slice_split w 0 6 5 (by omega), ← slice_split w 0 11 5 (by omega),
    ← slice_split w 0 16 5 (by omega), ← slice_split w 0 21 10 (by omega), ← slice_split w 0 31 1 (by omega)]
  exact slice_all w

theorem encD_fields (w : Word) : encD (slice w 0 6) (slice w 6 5) (slice w 11 5) (slice w 16 16) = w := by
  unfold encD
  rw [← slice_split w 0 6 5 (by omega), ← slice_split w 0 11 5 (by omega), ← slice_split w 0 16 16 (by omega)]
  exact slice_all w

theorem encDS_fields (w : Word) :
    encDS (slice w 0 6) (slice w 6 5) (slice w 11 5) (slice w 16 14) (slice w 30 2) = w := by
  unfold encDS
  rw [← slice_split w 0 6 5 (by omega), ← slice_split w 0 11 5 (by omega), ← slice_split w 0 16 14 (by omega),
    ← slice_split w 0 30 2 (by omega)]
  exact slice_all w

theorem encI_fields (w : Word) : encI (slice w 0 6) (slice w 6 24) (bit w 30) (bit w 31) = w := by
  unfold encI
  rw [← slice_one w (by omega), ← slice_one w (by omega), ← slice_split w 0 6 24 (by omega),
    ← slice_split w 0 30 1 (by omega), ← slice_split w 0 31 1 (by omega)]
  exact slice_all w

theorem encB_fields (w : Word) :
    encB (slice w 0 6) (slice w 6 5) (slice w 11 5) (slice w 16 14) (bit w 30) (bit w 31) = w := by
  unfold encB
  rw [← slice_one w (by omega), ← slice_one w (by omega), ← slice_split w 0 6 5 (by omega),
    ← slice_split w 0 11 5 (by omega), ← slice_split w 0 16 14 (by omega), ← slice_split w 0 30 1 (by omega),
    ← slice_split w 0 31 1 (by omega)]
  exact slice_all w

theorem encM_fields (w : Word) :
    encM (slice w 0 6) (slice w 6 5) (slice w 11 5) (slice w 16 5) (slice w 21 5) (slice w 26 5) (bit w 31) = w := by
  unfold encM
  rw [← slice_one w (by omega), ← slice_split w 0 6 5 (by omega), ← slice_split w 0 11 5 (by omega),
    ← slice_split w 0 16 5 (by omega), ← slice_split w 0 21 5 (by omega), ← slice_split w 0 26 5 (by omega),
    ← slice_split w 0 31 1 (by omega)]
  exact slice_all w

theorem encA_fields (w : Word) :
    encA (slice w 0 6) (slice w 6 5) (slice w 11 5) (slice w 16 5) (slice w 21 5) (slice w 26 5) (bit w 31) = w :=
  encM_fields w

theorem encXO_fields {w : Word} (h : slice w 0 6 = 31#6) :
    encXO (slice w 6 5) (slice w 11 5) (slice w 16 5) (bit w 21) (slice w 22 9) (bit w 31) = w := by
  unfold encXO
  rw [← h, ← slice_one w (by omega), ← slice_one w (by omega), ← slice_split w 0 6 5 (by omega),
    ← slice_split w 0 11 5 (by omega), ← slice_split w 0 16 5 (by omega), ← slice_split w 0 21 1 (by omega),
    ← slice_split w 0 22 9 (by omega), ← slice_split w 0 31 1 (by omega)]
  exact slice_all w

/-- A field written with its first bit last reads back in order (R180). -/
theorem splitField (a : BitVec 1) (b : BitVec 5) : slice (a ++ b) 1 5 = b ∧ slice (a ++ b) 0 1 = a :=
  ⟨(slice_append_right a b 1 5 (by omega) (by omega)).trans (slice_all b),
    (slice_append_left a b 0 1 (by omega)).trans (slice_all a)⟩

theorem encMD_fields {w : Word} (h : slice w 0 6 = 30#6) :
    encMD (slice w 6 5) (slice w 11 5) (slice w 30 1 ++ slice w 16 5) (slice w 26 1 ++ slice w 21 5) (slice w 27 3)
      (bit w 31) = w := by
  unfold encMD
  rw [(splitField _ _).1, (splitField _ _).1, (splitField _ _).2, (splitField _ _).2, ← h, ← slice_one w (by omega),
    ← slice_split w 0 6 5 (by omega), ← slice_split w 0 11 5 (by omega), ← slice_split w 0 16 5 (by omega),
    ← slice_split w 0 21 5 (by omega), ← slice_split w 0 26 1 (by omega), ← slice_split w 0 27 3 (by omega),
    ← slice_split w 0 30 1 (by omega), ← slice_split w 0 31 1 (by omega)]
  exact slice_all w

theorem encMDS_fields {w : Word} (h : slice w 0 6 = 30#6) :
    encMDS (slice w 6 5) (slice w 11 5) (slice w 16 5) (slice w 26 1 ++ slice w 21 5) (slice w 27 4) (bit w 31) = w := by
  unfold encMDS
  rw [(splitField _ _).1, (splitField _ _).2, ← h, ← slice_one w (by omega),
    ← slice_split w 0 6 5 (by omega), ← slice_split w 0 11 5 (by omega), ← slice_split w 0 16 5 (by omega),
    ← slice_split w 0 21 5 (by omega), ← slice_split w 0 26 1 (by omega), ← slice_split w 0 27 4 (by omega),
    ← slice_split w 0 31 1 (by omega)]
  exact slice_all w

/-! ## A masked word, field by field -/

theorem and_eq_encX (w m : Word) :
    w &&& m = encX (slice w 0 6 &&& m.extractLsb' 26 6) (slice w 6 5 &&& m.extractLsb' 21 5)
      (slice w 11 5 &&& m.extractLsb' 16 5) (slice w 16 5 &&& m.extractLsb' 11 5)
      (slice w 21 10 &&& m.extractLsb' 1 10) (bit w 31 && m.getLsbD 0) := by
  conv_lhs => rw [← encX_fields (w &&& m)]
  simp only [slice_and, bit_and]
  rfl

theorem and_eq_encD (w m : Word) :
    w &&& m = encD (slice w 0 6 &&& m.extractLsb' 26 6) (slice w 6 5 &&& m.extractLsb' 21 5)
      (slice w 11 5 &&& m.extractLsb' 16 5) (slice w 16 16 &&& m.extractLsb' 0 16) := by
  conv_lhs => rw [← encD_fields (w &&& m)]
  simp only [slice_and]
  rfl

theorem and_eq_encA (w m : Word) :
    w &&& m = encA (slice w 0 6 &&& m.extractLsb' 26 6) (slice w 6 5 &&& m.extractLsb' 21 5)
      (slice w 11 5 &&& m.extractLsb' 16 5) (slice w 16 5 &&& m.extractLsb' 11 5)
      (slice w 21 5 &&& m.extractLsb' 6 5) (slice w 26 5 &&& m.extractLsb' 1 5) (bit w 31 && m.getLsbD 0) := by
  conv_lhs => rw [← encA_fields (w &&& m)]
  simp only [slice_and, bit_and]
  rfl

/-- For the rows of primary opcode 31, whose opcode the mask keeps. -/
theorem and_eq_encXO {w m : Word} (h : slice w 0 6 = 31#6) (hm : slice m 0 6 = 63#6) :
    w &&& m = encXO (slice w 6 5 &&& m.extractLsb' 21 5) (slice w 11 5 &&& m.extractLsb' 16 5)
      (slice w 16 5 &&& m.extractLsb' 11 5) (bit w 21 && m.getLsbD 10) (slice w 22 9 &&& m.extractLsb' 1 9)
      (bit w 31 && m.getLsbD 0) := by
  have hop : slice (w &&& m) 0 6 = 31#6 := by rw [slice_and, h, hm]; rfl
  conv_lhs => rw [← encXO_fields hop]
  simp only [slice_and, bit_and]
  rfl

/-- What a mask leaves of a field that starts with a CR field number. -/
theorem fieldBf_of_and (w : Word) (i : Nat) (h : i + 5 ≤ 32) : slice w i 5 &&& 28#5 = fieldBf (slice w i 3) := by
  have hs : slice w i 5 = slice w i 3 ++ slice w (i + 3) 2 := slice_split w i 3 2 h
  rw [hs, fieldBf]
  generalize slice w i 3 = a
  generalize slice w (i + 3) 2 = b
  revert a b; decide

/-- What a mask leaves of the first field of a fixed-point compare. -/
theorem fieldBfL_of_and (w : Word) : slice w 6 5 &&& 29#5 = fieldBfL (slice w 6 3) (bit w 10) := by
  have hs : slice w 6 5 = slice w 6 3 ++ slice w 9 1 ++ b1 (bit w 10) := by
    rw [← slice_one w (by omega), ← slice_split w 6 3 1 (by omega), ← slice_split w 6 4 1 (by omega)]
  rw [hs, fieldBfL]
  generalize slice w 6 3 = a
  generalize slice w 9 1 = b
  generalize bit w 10 = c
  revert a b c; decide

/-- What a mask leaves of a field that ends in a reserved bit. -/
theorem fieldU_of_and (w : Word) (i : Nat) (h : i + 5 ≤ 32) : slice w i 5 &&& 30#5 = slice w i 4 ++ 0#1 := by
  have hs : slice w i 5 = slice w i 4 ++ slice w (i + 4) 1 := slice_split w i 4 1 h
  rw [hs]
  generalize slice w i 4 = a
  generalize slice w (i + 4) 1 = b
  revert a b; decide

/-- What a mask leaves of a field that starts with a reserved bit. -/
theorem fieldSr_of_and (w : Word) (i : Nat) (h : i + 5 ≤ 32) : slice w i 5 &&& 15#5 = 0#1 ++ slice w (i + 1) 4 := by
  have hs : slice w i 5 = slice w i 1 ++ slice w (i + 1) 4 := slice_split w i 1 4 h
  rw [hs]
  generalize slice w i 1 = a
  generalize slice w (i + 1) 4 = b
  revert a b; decide

/-! ## The encoder after the decoder, row by row -/

/-- The encoding of what a row builds from a word is the word with the reserved fields of the row cleared. -/
def OpcodeRow.Encodes (r : OpcodeRow) (w : Word) : Prop := encode (r.build w) = w &&& ~~~ fieldsMask r.reserved

/-- Without reserved fields nothing is cleared. -/
theorem OpcodeRow.encodes_of_eq {r : OpcodeRow} {w : Word} (hr : r.reserved = []) (h : encode (r.build w) = w) :
    r.Encodes w := by
  rw [OpcodeRow.Encodes, h, hr]
  exact BitVec.and_allOnes.symm

/-- The exchanged halves of an SPR number are exchanged back (R176). -/
theorem sprHalves (w : Word) :
    slice (slice w 16 5 ++ slice w 11 5) 5 5 = slice w 11 5 ∧ slice (slice w 16 5 ++ slice w 11 5) 0 5 = slice w 16 5 :=
  ⟨(slice_append_right _ _ 5 5 (by omega) (by omega)).trans (slice_all _),
    (slice_append_left _ _ 0 5 (by omega)).trans (slice_all _)⟩

/-- `mtcrf` in the layout of the X-form. -/
theorem encode_mtcrf (w : Word) (rs : Gpr) :
    encode (.mtcrf (slice w 12 8) rs) = encX 31#6 rs (0#1 ++ slice w 12 4) (slice w 16 4 ++ 0#1) 144#10 false := by
  show encMtcrf _ _ = _
  rw [← encX_fields (encMtcrf rs (slice w 12 8)), slice_split _ 11 1 4 (by omega), slice_split _ 16 4 1 (by omega),
    ← slice_slice _ (i := 12) (n := 8) (j := 0) (k := 4) (by omega) (by omega),
    ← slice_slice _ (i := 12) (n := 8) (j := 4) (k := 4) (by omega) (by omega), encMtcrf_slice_0_6, encMtcrf_slice_6_5,
    encMtcrf_slice_11_1, encMtcrf_slice_12_8, encMtcrf_slice_20_1, encMtcrf_slice_21_10,
    slice_slice w (by omega) (by omega), slice_slice w (by omega) (by omega), bit_of_slice_one (encMtcrf_slice_31_1 _ _)]
  rfl

/-- `mtfsf` in the layout of the X-form. -/
theorem encode_mtfsf (w : Word) (frb : Fpr) (rc : Bool) :
    encode (.mtfsf (slice w 7 8) frb rc) = encX 63#6 (0#1 ++ slice w 7 4) (slice w 11 4 ++ 0#1) frb 711#10 rc := by
  show encXFL _ _ _ = _
  rw [← encX_fields (encXFL (slice w 7 8) frb rc), slice_split _ 6 1 4 (by omega), slice_split _ 11 4 1 (by omega),
    ← slice_slice _ (i := 7) (n := 8) (j := 0) (k := 4) (by omega) (by omega),
    ← slice_slice _ (i := 7) (n := 8) (j := 4) (k := 4) (by omega) (by omega), encXFL_slice_0_6, encXFL_slice_6_1,
    encXFL_slice_7_8, encXFL_slice_15_1, encXFL_slice_16_5, encXFL_slice_21_10, encXFL_bit_31,
    slice_slice w (by omega) (by omega), slice_slice w (by omega) (by omega)]

/-- `sradi` in the layout of the X-form: bit 30, the high-order bit of SH, belongs to its extended opcode (R171). -/
theorem encode_sradi (w : Word) (ra rs : Gpr) (rc : Bool) :
    encode (.sradi ra rs (slice w 30 1 ++ slice w 16 5) rc) =
      encX 31#6 rs ra (slice w 16 5) (413#9 ++ (slice w 21 10).extractLsb' 0 1) rc := by
  have h30 : slice w 30 1 = (slice w 21 10).extractLsb' 0 1 :=
    (slice_slice (i := 21) (n := 10) (j := 9) (k := 1) w (by omega) (by omega)).symm
  show encXS _ _ _ _ = _
  rw [← encX_fields (encXS rs ra (slice w 30 1 ++ slice w 16 5) rc), encXS_slice_0_6, encXS_slice_6_5, encXS_slice_11_5,
    encXS_slice_16_5, encXS_slice_21_10, encXS_bit_31, (splitField _ _).1, (splitField _ _).2, h30]

theorem rows19_encodes {w : Word} (h : slice w 0 6 = 19#6) : ∀ p ∈ rows19, key w 21 10 = p.1 → p.2.Encodes w := by
  simp only [rows19, List.forall_mem_cons, List.not_mem_nil, false_imp_iff, implies_true, and_true]
  and_intros <;> intro hx <;> show encX _ _ _ _ _ _ = w &&& ~~~ fieldsMask _ <;>
    simp [and_eq_encX, h, slice_of_key hx, and_five_ones, fieldsMask, ones, fieldBf_of_and]

theorem rows63X_encodes {w : Word} (h : slice w 0 6 = 63#6) : ∀ p ∈ rows63X, key w 21 10 = p.1 → p.2.Encodes w := by
  simp only [rows63X, List.forall_mem_cons, List.not_mem_nil, false_imp_iff, implies_true, and_true,
    OpcodeRow.Encodes, encode_mtfsf]
  and_intros <;> intro hx <;> show encX _ _ _ _ _ _ = w &&& ~~~ fieldsMask _ <;>
    simp [and_eq_encX, h, slice_of_key hx, and_five_ones, fieldsMask, ones, fieldBf_of_and, fieldU_of_and, fieldSr_of_and]

theorem rows31X_encodes {w : Word} (h : slice w 0 6 = 31#6) :
    ∀ p ∈ rows31X, key w 21 10 = p.1 → (p.2.mark = true → bit w 31 = true) → p.2.Encodes w := by
  simp only [rows31X, List.forall_mem_append, List.forall_mem_cons, List.not_mem_nil, false_imp_iff, implies_true,
    and_true, OpcodeRow.Encodes, encode_mtcrf, encode_sradi]
  and_intros <;> intro hx hm <;> show encX _ _ _ _ _ _ = w &&& ~~~ fieldsMask _ <;>
    simp [and_eq_encX, h, slice_of_key hx, and_five_ones, fieldsMask, ones, fieldBf_of_and, fieldBfL_of_and,
      fieldU_of_and, fieldSr_of_and, sprHalves, hm]

theorem rows31XO_encodes {w : Word} (h : slice w 0 6 = 31#6) : ∀ p ∈ rows31XO, key w 22 9 = p.1 → p.2.Encodes w := by
  simp only [rows31XO, List.forall_mem_cons, List.not_mem_nil, false_imp_iff, implies_true, and_true]
  and_intros <;> intro hx <;> show encXO _ _ _ _ _ _ = w &&& ~~~ fieldsMask _ <;>
    rw [and_eq_encXO h (by rfl)] <;> simp [slice_of_key hx, and_five_ones, fieldsMask, ones]

theorem rows59_encodes {w : Word} (h : slice w 0 6 = 59#6) : ∀ p ∈ rows59, key w 26 5 = p.1 → p.2.Encodes w := by
  simp only [rows59, List.forall_mem_cons, List.not_mem_nil, false_imp_iff, implies_true, and_true]
  and_intros <;> intro hx <;> show encA _ _ _ _ _ _ _ = w &&& ~~~ fieldsMask _ <;>
    simp [and_eq_encA, h, slice_of_key hx, and_five_ones, fieldsMask, ones]

theorem rows63A_encodes {w : Word} (h : slice w 0 6 = 63#6) : ∀ p ∈ rows63A, key w 26 5 = p.1 → p.2.Encodes w := by
  simp only [rows63A, List.forall_mem_cons, List.not_mem_nil, false_imp_iff, implies_true, and_true]
  and_intros <;> intro hx <;> show encA _ _ _ _ _ _ _ = w &&& ~~~ fieldsMask _ <;>
    simp [and_eq_encA, h, slice_of_key hx, and_five_ones, fieldsMask, ones]

theorem rows58_encodes {w : Word} (h : slice w 0 6 = 58#6) : ∀ p ∈ rows58, key w 30 2 = p.1 → p.2.Encodes w := by
  simp only [rows58, List.forall_mem_cons, List.not_mem_nil, false_imp_iff, implies_true, and_true]
  and_intros <;> intro hx <;> apply OpcodeRow.encodes_of_eq rfl <;> show encDS _ _ _ _ _ = w <;>
    conv_rhs => rw [← encDS_fields w, h, slice_of_key hx]

theorem rows62_encodes {w : Word} (h : slice w 0 6 = 62#6) : ∀ p ∈ rows62, key w 30 2 = p.1 → p.2.Encodes w := by
  simp only [rows62, List.forall_mem_cons, List.not_mem_nil, false_imp_iff, implies_true, and_true]
  and_intros <;> intro hx <;> apply OpcodeRow.encodes_of_eq rfl <;> show encDS _ _ _ _ _ = w <;>
    conv_rhs => rw [← encDS_fields w, h, slice_of_key hx]

theorem rows30MD_encodes {w : Word} (h : slice w 0 6 = 30#6) : ∀ p ∈ rows30MD, key w 27 3 = p.1 → p.2.Encodes w := by
  simp only [rows30MD, List.forall_mem_cons, List.not_mem_nil, false_imp_iff, implies_true, and_true]
  and_intros <;> intro hx <;> apply OpcodeRow.encodes_of_eq rfl <;> show encMD _ _ _ _ _ _ = w <;>
    conv_rhs => rw [← encMD_fields h, slice_of_key hx]

theorem rows30MDS_encodes {w : Word} (h : slice w 0 6 = 30#6) : ∀ p ∈ rows30MDS, key w 27 4 = p.1 → p.2.Encodes w := by
  simp only [rows30MDS, List.forall_mem_cons, List.not_mem_nil, false_imp_iff, implies_true, and_true]
  and_intros <;> intro hx <;> apply OpcodeRow.encodes_of_eq rfl <;> show encMDS _ _ _ _ _ _ = w <;>
    conv_rhs => rw [← encMDS_fields h, slice_of_key hx]

/-- `b` in the layout of the D-form. -/
theorem encode_b {w : Word} (h : key w 0 6 = 18) :
    encode (.b (slice w 6 24) (bit w 30) (bit w 31)) = encD 18#6 (slice w 6 5) (slice w 11 5) (slice w 16 16) := by
  show encI _ _ _ _ = _
  rw [← slice_of_key h, encI_fields, encD_fields]

/-- `bc` in the layout of the D-form. -/
theorem encode_bc {w : Word} (h : key w 0 6 = 16) :
    encode (.bc (slice w 6 5) (slice w 11 5) (slice w 16 14) (bit w 30) (bit w 31)) =
      encD 16#6 (slice w 6 5) (slice w 11 5) (slice w 16 16) := by
  show encB _ _ _ _ _ _ = _
  rw [← slice_of_key h, encB_fields, encD_fields]

/-- The word of an M-form row in the layout of the D-form. -/
theorem encM_eq_encD {w : Word} {k : Nat} (h : key w 0 6 = k) :
    encM (BitVec.ofNat 6 k) (slice w 6 5) (slice w 11 5) (slice w 16 5) (slice w 21 5) (slice w 26 5) (bit w 31) =
      encD (BitVec.ofNat 6 k) (slice w 6 5) (slice w 11 5) (slice w 16 16) := by
  rw [← slice_of_key h, encM_fields, encD_fields]

theorem encode_rlwimi {w : Word} (h : key w 0 6 = 20) :
    encode (.rlwimi (slice w 11 5) (slice w 6 5) (slice w 16 5) (slice w 21 5) (slice w 26 5) (bit w 31)) =
      encD 20#6 (slice w 6 5) (slice w 11 5) (slice w 16 16) :=
  encM_eq_encD h

theorem encode_rlwinm {w : Word} (h : key w 0 6 = 21) :
    encode (.rlwinm (slice w 11 5) (slice w 6 5) (slice w 16 5) (slice w 21 5) (slice w 26 5) (bit w 31)) =
      encD 21#6 (slice w 6 5) (slice w 11 5) (slice w 16 16) :=
  encM_eq_encD h

theorem encode_rlwnm {w : Word} (h : key w 0 6 = 23) :
    encode (.rlwnm (slice w 11 5) (slice w 6 5) (slice w 16 5) (slice w 21 5) (slice w 26 5) (bit w 31)) =
      encD 23#6 (slice w 6 5) (slice w 11 5) (slice w 16 16) :=
  encM_eq_encD h

theorem primaryRows_encodes {w : Word} : ∀ p ∈ primaryRows, key w 0 6 = p.1 → p.2.Encodes w := by
  simp +contextual only [primaryRows, List.forall_mem_append, List.forall_mem_cons, List.not_mem_nil, false_imp_iff,
    implies_true, and_true, OpcodeRow.Encodes, encode_b, encode_bc, encode_rlwimi, encode_rlwinm, encode_rlwnm]
  and_intros <;> intro hx <;> show encD _ _ _ _ = w &&& ~~~ fieldsMask _ <;>
    simp [and_eq_encD, slice_of_key hx, and_five_ones, and_sixteen_ones, fieldsMask, ones, fieldBfL_of_and]

end Sys2Proof


namespace Sys2Proof
open Laws

/-! ## The decoder after the encoder, form by form -/

/-- The row of a word builds an instruction from it. -/
def ReadsBack (w : Word) (i : Instr) : Prop := ∃ r, findRow w = some r ∧ r.build w = i

theorem fieldBf_bf (bf : CrField) : slice (fieldBf bf) 0 3 = bf :=
  (slice_append_left bf _ 0 3 (by omega)).trans (slice_all bf)

theorem fieldBfL_bf (bf : CrField) (l : Bool) : slice (fieldBfL bf l) 0 3 = bf :=
  (slice_append_left (bf ++ 0#1) _ 0 3 (by omega)).trans
    ((slice_append_left bf _ 0 3 (by omega)).trans (slice_all bf))

theorem fieldBfL_l (bf : CrField) (l : Bool) : bit (fieldBfL bf l) 4 = l :=
  (bit_append_right (bf ++ 0#1) (b1 l) 4 (by omega) (by omega)).trans (bit_b1 l)

theorem fieldU_u (u : BitVec 4) : slice (u ++ 0#1) 0 4 = u :=
  (slice_append_left u _ 0 4 (by omega)).trans (slice_all u)

theorem fieldSr_sr (sr : BitVec 4) : slice (0#1 ++ sr) 1 4 = sr :=
  (slice_append_right _ sr 1 4 (by omega) (by omega)).trans (slice_all sr)

/-- A six-bit field from its two parts (R180). -/
theorem splitField_join (v : BitVec 6) : slice v 0 1 ++ slice v 1 5 = v :=
  (slice_split v 0 1 5 (by omega)).symm.trans (slice_all v)

/-- An SPR number from its halves (R176). -/
theorem sprHalves_join (n : SprNum) : slice n 0 5 ++ slice n 5 5 = n :=
  (slice_split n 0 5 5 (by omega)).symm.trans (slice_all n)

theorem findRow_encD {op : BitVec 6} {f1 f2 : BitVec 5} {d : BitVec 16} {r : OpcodeRow}
    (hop : op.toNat ∉ [17, 19, 30, 31, 58, 59, 62, 63]) (h : primaryRows.lookup op.toNat = some r) :
    findRow (encD op f1 f2 d) = some r := by
  rw [← h, findRow_of_primary] <;> simp only [key, encD_slice_0_6]
  exact hop

theorem findRow_encX_19 {f1 f2 f3 : BitVec 5} {xo : BitVec 10} {last : Bool} {r : OpcodeRow}
    (h : rows19.lookup xo.toNat = some r) : findRow (encX 19#6 f1 f2 f3 xo last) = some r := by
  simp only [findRow, key, encX_slice_0_6, encX_slice_21_10]
  exact h

theorem findRow_encX_31 {f1 f2 f3 : BitVec 5} {xo : BitVec 10} {last : Bool} {r : OpcodeRow}
    (h : rows31X.lookup xo.toNat = some r) (hm : (r.mark && !last) = false) :
    findRow (encX 31#6 f1 f2 f3 xo last) = some r := by
  have hrow : findRow (encX 31#6 f1 f2 f3 xo last) = if r.mark && !last then none else some r := by
    simp only [findRow, key, encX_slice_0_6, encX_slice_21_10, encX_bit_31]
    simp only [h]
    rfl
  rw [hrow, hm]
  rfl

theorem findRow_encX_63 {f1 f2 f3 : BitVec 5} {xo : BitVec 10} {last : Bool} {r : OpcodeRow}
    (hno : rows63A.lookup (slice xo 5 5).toNat = none) (h : rows63X.lookup xo.toNat = some r) :
    findRow (encX 63#6 f1 f2 f3 xo last) = some r := by
  simp only [findRow, key, encX_slice_0_6, encX_slice_21_10, encX_slice_26_5]
  simp only [hno, h]
  rfl

theorem findRow_encXO {rt ra rb : BitVec 5} {oe rc : Bool} {xo : BitVec 9} {r : OpcodeRow}
    (hno : ([false, true].all fun b => (rows31X.lookup (b1 b ++ xo).toNat).isNone) = true)
    (h : rows31XO.lookup xo.toNat = some r) :
    findRow (encXO rt ra rb oe xo rc) = some r := by
  simp only [findRow, key, encXO_slice_0_6, encXO_slice_21_10, encXO_slice_22_9]
  have hnone : rows31X.lookup (b1 oe ++ xo).toNat = none :=
    Option.isNone_iff_eq_none.mp (List.all_eq_true.mp hno oe (by simp))
  simp only [hnone, h]
  rfl

theorem findRow_encA_59 {frt fra frb frc xo : BitVec 5} {rc : Bool} {r : OpcodeRow}
    (h : rows59.lookup xo.toNat = some r) : findRow (encA 59#6 frt fra frb frc xo rc) = some r := by
  simp only [findRow, key, encA_slice_0_6, encA_slice_26_5]
  exact h

theorem findRow_encA_63 {frt fra frb frc xo : BitVec 5} {rc : Bool} {r : OpcodeRow}
    (h : rows63A.lookup xo.toNat = some r) : findRow (encA 63#6 frt fra frb frc xo rc) = some r := by
  simp only [findRow, key, encA_slice_0_6, encA_slice_26_5]
  simp only [h]
  rfl

/-- The row of every encoding builds the encoded instruction from it. -/
theorem readsBack (i : Instr) : ReadsBack (encode i) i := by
  cases i with
  | sc => exact ⟨rowSc, rfl, rfl⟩
  | b =>
    show ReadsBack (encI _ _ _ _) _
    exact ⟨_, by simp only [findRow, key, encI_slice_0_6]; rfl, by simp only [encI_slice_6_24, encI_bit_30, encI_bit_31]⟩
  | bc =>
    show ReadsBack (encB _ _ _ _ _ _) _
    exact ⟨_, by simp only [findRow, key, encB_slice_0_6]; rfl,
      by simp only [encB_slice_6_5, encB_slice_11_5, encB_slice_16_14, encB_bit_30, encB_bit_31]⟩
  | lbz | lbzu | lhz | lhzu | lha | lhau | lwz | lwzu | stb | stbu | sth | sthu | stw | stwu | lmw | stmw | addi | addis
  | addic | addicDot | subfic | mulli | cmpi | cmpli | tdi | twi | andiDot | andisDot | ori | oris | xori | xoris | lfs
  | lfsu | lfd | lfdu | stfs | stfsu | stfd | stfdu =>
    show ReadsBack (encD _ _ _ _) _
    exact ⟨_, findRow_encD (by decide) rfl, by simp only [encD_slice_6_5, encD_slice_11_5, encD_slice_16_16,
      encD_slice_6_3, encD_bit_10, fieldBfL_bf, fieldBfL_l]⟩
  | lwa | ld | ldu | std | stdu =>
    show ReadsBack (encDS _ _ _ _ _) _
    exact ⟨_, by simp only [findRow, key, encDS_slice_0_6, encDS_slice_30_2]; rfl,
      by simp only [encDS_slice_6_5, encDS_slice_11_5, encDS_slice_16_14]⟩
  | rlwinm | rlwnm | rlwimi =>
    show ReadsBack (encM _ _ _ _ _ _ _) _
    exact ⟨_, by simp only [findRow, key, encM_slice_0_6]; rfl, by simp only [encM_slice_6_5, encM_slice_11_5,
      encM_slice_16_5, encM_slice_21_5, encM_slice_26_5, encM_bit_31]⟩
  | rldicl | rldicr | rldic | rldimi =>
    show ReadsBack (encMD _ _ _ _ _ _) _
    exact ⟨_, by simp only [findRow, key, encMD_slice_0_6, encMD_slice_27_3]; rfl, by simp only [encMD_slice_6_5,
      encMD_slice_11_5, encMD_slice_16_5, encMD_slice_21_5, encMD_slice_26_1, encMD_slice_30_1, encMD_bit_31,
      splitField_join]⟩
  | rldcl | rldcr =>
    show ReadsBack (encMDS _ _ _ _ _ _) _
    exact ⟨_, by simp only [findRow, key, encMDS_slice_0_6, encMDS_slice_27_3, encMDS_slice_27_4]; rfl,
      by simp only [encMDS_slice_6_5, encMDS_slice_11_5, encMDS_slice_16_5, encMDS_slice_21_5, encMDS_slice_26_1,
        encMDS_bit_31, splitField_join]⟩
  | crand | cror | crxor | crnand | crnor | creqv | crandc | crorc | rfi | isync | mcrf | bclr | bcctr =>
    show ReadsBack (encX _ _ _ _ _ _) _
    exact ⟨_, findRow_encX_19 rfl, by simp only [encX_slice_6_5, encX_slice_11_5, encX_slice_16_5, encX_bit_31,
      encX_slice_6_3, encX_slice_11_3, fieldBf_bf]⟩
  | lbzx | lbzux | lhzx | lhzux | lhax | lhaux | lwzx | lwzux | lwax | lwaux | ldx | ldux | stbx | stbux | sthx | sthux
  | stwx | stwux | stdx | stdux | lhbrx | lwbrx | sthbrx | stwbrx | lswi | lswx | stswi | stswx | lwarx | ldarx | sync
  | cmp | cmpl | td | tw | mtspr | mfspr | mcrxr | mfcr | lfsx | lfsux | lfdx | lfdux | stfsx | stfsux | stfdx | stfdux
  | stfiwx | icbi | dcbt | dcbtst | dcbz | dcbst | dcbf | eieio | mftb | mtmsr | mfmsr | mtsr | mtsrin | mfsr | mfsrin
  | dcbi | slbie | slbia | tlbie | tlbia | tlbsync | eciwx | ecowx | stwcxDot | stdcxDot | and | or | xor | nand | nor
  | eqv | andc | orc | extsb | extsh | extsw | cntlzd | cntlzw | sld | slw | srd | srw | srawi | srad | sraw =>
    show ReadsBack (encX _ _ _ _ _ _) _
    exact ⟨_, findRow_encX_31 rfl rfl, by simp only [encX_slice_6_5, encX_slice_11_5, encX_slice_16_5, encX_bit_31,
      encX_slice_6_3, encX_bit_10, encX_slice_12_4, fieldBf_bf, fieldBfL_bf, fieldBfL_l, fieldSr_sr, sprHalves_join]⟩
  | mtcrf =>
    show ReadsBack (encMtcrf _ _) _
    exact ⟨_, by simp only [findRow, key, encMtcrf_slice_0_6, encMtcrf_slice_21_10]; rfl,
      by simp only [encMtcrf_slice_6_5, encMtcrf_slice_12_8]⟩
  | sradi ra rs sh =>
    show ReadsBack (encXS _ _ _ _) _
    rcases BitVec.eq_zero_or_eq_one (slice sh 0 1) with h | h <;>
    exact ⟨_, by simp only [findRow, key, encXS_slice_0_6, encXS_slice_21_10, h]; rfl, by simp only [encXS_slice_6_5,
      encXS_slice_11_5, encXS_slice_16_5, encXS_slice_30_1, encXS_bit_31, splitField_join]⟩
  | add | subf | addc | subfc | adde | subfe | addme | subfme | addze | subfze | neg | mulld | mullw | divd | divw
  | divdu | divwu | mulhd | mulhw | mulhdu | mulhwu =>
    show ReadsBack (encXO _ _ _ _ _ _) _
    exact ⟨_, findRow_encXO rfl rfl,
      by simp only [encXO_slice_6_5, encXO_slice_11_5, encXO_slice_16_5, encXO_bit_21, encXO_bit_31]⟩
  | fadds | fsubs | fmuls | fdivs | fmadds | fmsubs | fnmadds | fnmsubs | fsqrts | fres =>
    show ReadsBack (encA _ _ _ _ _ _ _) _
    exact ⟨_, findRow_encA_59 rfl,
      by simp only [encA_slice_6_5, encA_slice_11_5, encA_slice_16_5, encA_slice_21_5, encA_bit_31]⟩
  | fadd | fsub | fmul | fdiv | fmadd | fmsub | fnmadd | fnmsub | fsqrt | frsqrte | fsel =>
    show ReadsBack (encA _ _ _ _ _ _ _) _
    exact ⟨_, findRow_encA_63 rfl,
      by simp only [encA_slice_6_5, encA_slice_11_5, encA_slice_16_5, encA_slice_21_5, encA_bit_31]⟩
  | fmr | fneg | fabs | fnabs | frsp | fctid | fctidz | fctiw | fctiwz | fcfid | fcmpu | fcmpo | mffs | mcrfs | mtfsfi
  | mtfsb0 | mtfsb1 =>
    show ReadsBack (encX _ _ _ _ _ _) _
    exact ⟨_, findRow_encX_63 rfl rfl, by simp only [encX_slice_6_5, encX_slice_11_5, encX_slice_16_5, encX_bit_31,
      encX_slice_6_3, encX_slice_11_3, encX_slice_16_4, fieldBf_bf, fieldU_u]⟩
  | mtfsf =>
    show ReadsBack (encXFL _ _ _) _
    exact ⟨_, by simp only [findRow, key, encXFL_slice_0_6, encXFL_slice_26_5, encXFL_slice_21_10]; rfl,
      by simp only [encXFL_slice_7_8, encXFL_slice_16_5, encXFL_bit_31]⟩

end Sys2Proof


namespace Sys2Proof
open Laws

/-! ## The row of a word -/

/-- How a word falls in a row: its keys, and the table they are looked up in (30_encoding.md R190 to R196). -/
inductive RowOf (w : Word) : OpcodeRow → Prop
  | sc (hop : slice w 0 6 = 17#6) (hone : bit w 30 = true) : RowOf w rowSc
  | row19 {r} (hop : slice w 0 6 = 19#6) (h : rows19.lookup (key w 21 10) = some r) : RowOf w r
  | row30MD {r} (hop : slice w 0 6 = 30#6) (h : rows30MD.lookup (key w 27 3) = some r) : RowOf w r
  | row30MDS {r} (hop : slice w 0 6 = 30#6) (hno : rows30MD.lookup (key w 27 3) = none)
      (h : rows30MDS.lookup (key w 27 4) = some r) : RowOf w r
  | row31X {r} (hop : slice w 0 6 = 31#6) (h : rows31X.lookup (key w 21 10) = some r)
      (hm : r.mark = true → bit w 31 = true) : RowOf w r
  | row31XO {r} (hop : slice w 0 6 = 31#6) (hno : rows31X.lookup (key w 21 10) = none)
      (h : rows31XO.lookup (key w 22 9) = some r) : RowOf w r
  | row58 {r} (hop : slice w 0 6 = 58#6) (h : rows58.lookup (key w 30 2) = some r) : RowOf w r
  | row59 {r} (hop : slice w 0 6 = 59#6) (h : rows59.lookup (key w 26 5) = some r) : RowOf w r
  | row62 {r} (hop : slice w 0 6 = 62#6) (h : rows62.lookup (key w 30 2) = some r) : RowOf w r
  | row63A {r} (hop : slice w 0 6 = 63#6) (h : rows63A.lookup (key w 26 5) = some r) : RowOf w r
  | row63X {r} (hop : slice w 0 6 = 63#6) (hno : rows63A.lookup (key w 26 5) = none)
      (h : rows63X.lookup (key w 21 10) = some r) : RowOf w r
  | primary {r} (hop : key w 0 6 ∉ [17, 19, 30, 31, 58, 59, 62, 63]) (h : primaryRows.lookup (key w 0 6) = some r) :
      RowOf w r

theorem rowOf_of_findRow {w : Word} {r : OpcodeRow} (h : findRow w = some r) : RowOf w r := by
  unfold findRow at h
  split at h
  case h_1 hk =>
    split at h <;> cases h
    exact .sc (slice_of_key hk) ‹_›
  case h_2 hk => exact .row19 (slice_of_key hk) h
  case h_3 hk =>
    split at h
    · cases h
      exact .row30MD (slice_of_key hk) ‹_›
    · exact .row30MDS (slice_of_key hk) ‹_› h
  case h_4 hk =>
    split at h
    · split at h <;> cases h
      exact .row31X (slice_of_key hk) ‹_› (by simp_all)
    · exact .row31XO (slice_of_key hk) ‹_› h
  case h_5 hk => exact .row58 (slice_of_key hk) h
  case h_6 hk => exact .row59 (slice_of_key hk) h
  case h_7 hk => exact .row62 (slice_of_key hk) h
  case h_8 hk =>
    split at h
    · cases h
      exact .row63A (slice_of_key hk) ‹_›
    · exact .row63X (slice_of_key hk) ‹_› h
  case h_9 => exact .primary (by simp_all) h

theorem RowOf.findRow_eq {w : Word} {r : OpcodeRow} (h : RowOf w r) : findRow w = some r := by
  cases h with
  | sc hop hone => rw [findRow_of_opcode17 hop, hone]; rfl
  | row19 hop h | row58 hop h | row59 hop h | row62 hop h => simp only [findRow, key, hop]; exact h
  | row30MD hop h | row63A hop h =>
    simp only [findRow, key, hop] at h ⊢
    simp only [h]
    rfl
  | row30MDS hop hno h | row63X hop hno h | row31XO hop hno h =>
    simp only [findRow, key, hop] at hno h ⊢
    simp only [hno, h]
    rfl
  | row31X hop h hm =>
    have hmark : (r.mark && !bit w 31) = false := by
      cases hr : r.mark
      · rfl
      · simp [hm hr]
    have hrow : findRow w = if r.mark && !bit w 31 then none else some r := by
      simp only [findRow, key, hop] at h ⊢
      simp only [h]
      rfl
    rw [hrow, hmark]
    rfl
  | primary hop h => rw [findRow_of_primary hop, h]

/-- What holds of the rows of a table by their keys holds of the row looked up. -/
theorem of_lookup {rows : List (Nat × OpcodeRow)} {k : Nat} {r : OpcodeRow} {P : Nat × OpcodeRow → Prop}
    (hall : ∀ p ∈ rows, P p) (h : rows.lookup k = some r) : P (k, r) := by
  obtain ⟨before, after, rfl, -⟩ := List.lookup_eq_some_iff.mp h
  exact hall (k, r) (by simp)

theorem rowSc_encodes {w : Word} (hop : slice w 0 6 = 17#6) (hone : bit w 30 = true) : rowSc.Encodes w := by
  show 0x44000002#32 = _
  have hfields : w &&& ~~~ fieldsMask rowSc.reserved = encI 17#6 0 true false := by
    have hmask : slice (~~~ fieldsMask rowSc.reserved) 6 24 = 0#24 := rfl
    rw [← encI_fields (w &&& ~~~ fieldsMask rowSc.reserved), slice_and, slice_and, bit_and, bit_and, hop, hone, hmask,
      show bit (~~~ fieldsMask rowSc.reserved) 31 = false from rfl, Bool.and_false, BitVec.and_zero]
    rfl
  rw [hfields]
  rfl

/-- The encoder after the decoder, for every row a word falls in. -/
theorem RowOf.encodes {w : Word} {r : OpcodeRow} (h : RowOf w r) : r.Encodes w := by
  cases h with
  | sc hop hone => exact rowSc_encodes hop hone
  | row19 hop h => exact of_lookup (rows19_encodes hop) h rfl
  | row30MD hop h => exact of_lookup (rows30MD_encodes hop) h rfl
  | row30MDS hop _ h => exact of_lookup (rows30MDS_encodes hop) h rfl
  | row31X hop h hm => exact of_lookup (rows31X_encodes hop) h rfl hm
  | row31XO hop _ h => exact of_lookup (rows31XO_encodes hop) h rfl
  | row58 hop h => exact of_lookup (rows58_encodes hop) h rfl
  | row59 hop h => exact of_lookup (rows59_encodes hop) h rfl
  | row62 hop h => exact of_lookup (rows62_encodes hop) h rfl
  | row63A hop h => exact of_lookup (rows63A_encodes hop) h rfl
  | row63X hop _ h => exact of_lookup (rows63X_encodes hop) h rfl
  | primary _ h => exact of_lookup primaryRows_encodes h rfl

/-! ## Reserved fields as a mask -/

theorem fieldClear_iff (w : Word) (f : Nat × Nat) : fieldClear w f = true ↔ w &&& ones 32 f.1 f.2 = 0 := by
  rw [fieldClear, beq_iff_eq]
  constructor
  · intro h
    apply BitVec.eq_of_getLsbD_eq
    intro l hl
    have hbit := congrArg (BitVec.getLsbD · (l - (32 - f.1 - f.2))) h
    simp only [slice, BitVec.getLsbD_extractLsb', BitVec.getLsbD_zero] at hbit
    simp only [ones, BitVec.getLsbD_and, BitVec.getLsbD_shiftLeft, BitVec.getLsbD_setWidth, BitVec.getLsbD_allOnes]
    by_cases hlt : l < 32 - f.1 - f.2
    · simp [hlt]
    · rw [show 32 - f.1 - f.2 + (l - (32 - f.1 - f.2)) = l by omega] at hbit
      grind
  · intro h
    apply BitVec.eq_of_getLsbD_eq
    intro l hl
    have hbit := congrArg (BitVec.getLsbD · (32 - f.1 - f.2 + l)) h
    simp only [ones, BitVec.getLsbD_and, BitVec.getLsbD_shiftLeft, BitVec.getLsbD_setWidth, BitVec.getLsbD_allOnes] at hbit
    simp only [slice, BitVec.getLsbD_extractLsb', BitVec.getLsbD_zero]
    have hout : w.getLsbD (32 - f.1 - f.2 + l) = true → 32 - f.1 - f.2 + l < 32 := BitVec.lt_of_getLsbD
    grind

theorem reserved_clear_iff (w : Word) (fs : List (Nat × Nat)) :
    fs.all (fieldClear w) = true ↔ w &&& fieldsMask fs = 0 := by
  induction fs with
  | nil => simp [fieldsMask]
  | cons f fs ih =>
    rw [List.all_cons, Bool.and_eq_true, fieldClear_iff, ih, fieldsMask, BitVec.and_or_distrib_left]
    exact BitVec.or_eq_zero_iff.symm

/-- A word with its reserved fields clear is what the mask leaves of it. -/
theorem and_not_of_and_eq_zero {w m : Word} (h : w &&& m = 0) : w &&& ~~~ m = w := by
  have hsplit : (w &&& m) ||| (w &&& ~~~ m) = w := by
    rw [← BitVec.and_or_distrib_left, BitVec.or_not_self, BitVec.and_allOnes]
  rw [h] at hsplit
  exact BitVec.zero_or.symm.trans hsplit

/-! ## The two directions -/

/-- The encoding of an instruction falls in the row that builds the instruction from it, with its reserved bits 0. -/
theorem findRow_encode (i : Instr) :
    ∃ r, findRow (encode i) = some r ∧ r.build (encode i) = i ∧ r.reserved.all (fieldClear (encode i)) = true := by
  obtain ⟨r, hrow, hbuild⟩ := readsBack i
  have henc : encode i = encode i &&& ~~~ fieldsMask r.reserved :=
    (congrArg encode hbuild).symm.trans (rowOf_of_findRow hrow).encodes
  refine ⟨r, hrow, hbuild, (reserved_clear_iff _ _).mpr ?_⟩
  rw [henc, BitVec.and_assoc, BitVec.and_comm (~~~ _), BitVec.and_not_self]
  exact BitVec.and_zero

theorem decode_encode (i : Instr) : decode (encode i) = .instr i := by
  obtain ⟨r, hrow, hbuild, hclear⟩ := findRow_encode i
  rw [decode_of_row hrow, hclear, hbuild]
  rfl

/-- Two instructions never have one word. -/
theorem encode_injective {i j : Instr} (h : encode i = encode j) : i = j := by
  have hij := congrArg decode h
  rw [decode_encode, decode_encode] at hij
  exact Decoded.instr.inj hij

/-- A word that decodes to an instruction is its encoding. -/
theorem encode_of_decode {w : Word} {i : Instr} (h : decode w = .instr i) : encode i = w := by
  cases hrow : findRow w with
  | none => rw [decode_of_no_row hrow] at h; cases h
  | some r =>
    rw [decode_of_row hrow] at h
    split at h
    · next hclear =>
      cases h
      rw [(rowOf_of_findRow hrow).encodes, and_not_of_and_eq_zero ((reserved_clear_iff _ _).mp hclear)]
    · cases h

theorem decode_eq_instr_iff {w : Word} {i : Instr} : decode w = .instr i ↔ encode i = w :=
  ⟨encode_of_decode, fun h => h ▸ decode_encode i⟩

theorem wordOfBytes_slices (w : Word) : wordOfBytes (slice w 0 8) (slice w 8 8) (slice w 16 8) (slice w 24 8) = w := by
  unfold wordOfBytes
  rw [← slice_split w 0 8 8 (by omega), ← slice_split w 0 16 8 (by omega), ← slice_split w 0 24 8 (by omega)]
  exact slice_all w

theorem decodeBytes_bytesOfWord (w : Word) : decodeBytes (bytesOfWord w) = decode w :=
  congrArg decode (wordOfBytes_slices w)

theorem decodeTableWord_encode (i : Instr) : decodeTableWord 32 (encode i).toNat = some i := by
  unfold decodeTableWord
  rw [BitVec.ofNat_toNat, BitVec.setWidth_eq, decodeBytes_bytesOfWord, decode_encode]

/-- Settles O5: a row reads back what the encoder writes (`decode_encode`), and the encoder writes what a row reads
(`encode_of_decode`). -/
theorem decodeEncode : Obligations.DecodeEncode := by
  unfold Obligations.DecodeEncode
  exact ⟨fun w i => decode_eq_instr_iff,
    fun i => ⟨(decodeBytes_bytesOfWord _).trans (decode_encode i), decodeTableWord_encode i⟩⟩

/-! ## Words with a reserved bit set -/

/-- The reserved bits of an instruction are the reserved fields of its row, table by table (30_encoding.md section 4). -/
theorem tables_reservedZeroMask (w : Word) :
    ([(17, rowSc)] :: tablesOutside17).all
      (fun rows => rows.all fun p => (p.2.build w).reservedZeroMask == fieldsMask p.2.reserved) = true := rfl

end Sys2Proof


/-! SUPPORT. What an instruction does to the state, said once for all frame statements. The idea: every next state of an
instruction is built from the state before it by a few state operations, each of which its rule allows (`Wrote`), and then
perhaps an interrupt (`Ends`); a frame or an invariant then follows by induction over the operations, whatever the
instruction. -/

namespace Sys2Proof.Machine
open Laws

/-! ## The operations an instruction may use -/

/-- A reservation instruction (20_memory.md R145). -/
def Reserves (i : Instr) : Prop :=
  (∃ r a b, i = .lwarx r a b) ∨ (∃ r a b, i = .ldarx r a b) ∨ (∃ r a b, i = .stwcxDot r a b) ∨ ∃ r a b, i = .stdcxDot r a b

/-- A move to a Segment Register (48_supervisor.md R673, R674). -/
def MovesToSr (i : Instr) : Prop := (∃ n r, i = .mtsr n r) ∨ ∃ r b, i = .mtsrin r b

/-- An external control instruction (48_supervisor.md R683, R684). -/
def ControlsExternal (i : Instr) : Prop := (∃ r a b, i = .eciwx r a b) ∨ ∃ r a b, i = .ecowx r a b

/-- An instruction that writes the MSR (48_supervisor.md R670, R671). -/
def WritesMsr (i : Instr) : Prop := (∃ r, i = .mtmsr r) ∨ i = .rfi

/-- An instruction that may mark the state (logs 20, 30). -/
def MayFlag (i : Instr) : Prop := MovesToSr i ∨ ControlsExternal i ∨ (∃ n r, i = .mtspr n r) ∨ WritesMsr i

/-- `u` is made from `s` by operations that the rule of `i` allows. -/
inductive Wrote (i : Instr) (s : State) : State → Prop
  | refl : Wrote i s s
  | setX {u} (h : Wrote i s u) (r : Gpr) (v : Dword) (hr : writesGpr i s r = true) : Wrote i s (u.setX r v)
  | setF {u} (h : Wrote i s u) (r : Fpr) (v : Dword) (single : Bool) (hr : writesFpr i r = true) :
      Wrote i s (u.setF r v single)
  | setCr {u} (h : Wrote i s u) (v : Word) (hv : v &&& ~~~ crWritten i = u.cr &&& ~~~ crWritten i) :
      Wrote i s { u with cr := v }
  | setXer {u} (h : Wrote i s u) (v : Word) (hv : v &&& ~~~ xerWritten i = u.xer &&& ~~~ xerWritten i)
      (hstored : xerStored u.cfg u.xer = u.xer → xerStored u.cfg v = v) : Wrote i s { u with xer := v }
  | setLr {u} (h : Wrote i s u) (v : Dword) (hi : writesLr i = true) : Wrote i s { u with lr := v }
  | setCtr {u} (h : Wrote i s u) (v : Dword) (hi : writesCtr i = true) : Wrote i s { u with ctr := v }
  | withFpscr {u} (h : Wrote i s u) (v : Word) (hi : writesFpscr i = true) : Wrote i s (u.withFpscr v)
  | withFpReason {u} (h : Wrote i s u) (occurred : Bool) (hi : writesFpscr i = true) :
      Wrote i s (u.withFpReason occurred)
  | drawn {u} (h : Wrote i s u) (k : Nat) : Wrote i s (u.drawn k)
  | goTo {u} (h : Wrote i s u) (a : Dword) : Wrote i s (u.goTo a)
  | storeAll {u} (h : Wrote i s u) (rs : List Dword) (bs : List Byte) (hrs : ∀ a ∈ rs, a ∈ storesAt i s) :
      Wrote i s { u with mem := u.mem.writeAll rs bs }
  | reserve {u} (h : Wrote i s u) (r : Option Dword) (hi : Reserves i) : Wrote i s { u with reserve := r }
  | send {u} (h : Wrote i s u) (out : List ExtRequest) (hi : ControlsExternal i) : Wrote i s { u with extOut := out }
  | receive {u} (h : Wrote i s u) (rest : List Word) (hi : ∃ r a b, i = .eciwx r a b) : Wrote i s { u with extIn := rest }
  | flag {u} (h : Wrote i s u) (hi : MayFlag i) : Wrote i s { u with flagged := true }
  | writeSpr {u} (h : Wrote i s u) (n : SprNum) (v : Dword) (hi : ∃ r, i = .mtspr n r) : Wrote i s (writeSpr n v u)
  | setSr {u} (h : Wrote i s u) (n : BitVec 4) (v : Word) (hi : MovesToSr i) : Wrote i s (u.setSr n v)
  | setMsr {u} (h : Wrote i s u) (v a : Dword) (hi : WritesMsr i) :
      Wrote i s ({ u with msr := msrStored u.cfg v }.goTo a)
  | synchronize {u} (h : Wrote i s u) (hi : i = .isync ∨ i = .rfi) : Wrote i s { u with ibatAltered := noneAltered }

/-- An interrupt that an instruction raises: no System Reset, Machine Check, External or Decrementer interrupt. -/
def Cause.Synchronous (c : Cause) : Prop :=
  c.kind ≠ .systemReset ∧ c.kind ≠ .machineCheck ∧ c.kind ≠ .decrementer ∧ c.kind ≠ .external

/-- How an instruction ends: after operations it may use, perhaps in an interrupt; it stops the machine only under a
configuration that is not total. -/
inductive Ends (i : Instr) (s : State) : Result → Prop
  | done {u} (h : Wrote i s u) : Ends i s (.next u)
  | raised {u} (h : Wrote i s u) (c : Cause) (hc : c.Synchronous) (hf : c.floating = true → writesFpscr i = true) :
      Ends i s (.next (takeInterrupt c u))
  | fault (f : Fault) (h : ¬ s.cfg.total) : Ends i s (.fault f)
  | refused (r : Refusal) (h : ¬ s.cfg.total) (hr : r = .invalidForm → admission i s = .invalidForm) : Ends i s (.refused r)

section
variable {i : Instr} {s u : State}

/-! ## The shared register operations -/

theorem Wrote.advance (h : Wrote i s u) : Wrote i s u.advance := h.goTo (u.pc + 4)

theorem Wrote.completed (h : Wrote i s u) : Ends i s (completed u) := .done h.advance

/-- Replacing a field keeps the bits outside it. -/
theorem withSlice_and_not {w n : Nat} (v : BitVec w) (k : Nat) (x : BitVec n) :
    withSlice v k x &&& ~~~ ones w k n = v &&& ~~~ ones w k n := by
  apply BitVec.eq_of_getLsbD_eq
  intro l hl
  simp only [withSlice, ones, BitVec.getLsbD_and, BitVec.getLsbD_or, BitVec.getLsbD_not, BitVec.getLsbD_shiftLeft,
    BitVec.getLsbD_setWidth, BitVec.getLsbD_allOnes]
  have hx : x.getLsbD (l - (w - k - n)) = true → l - (w - k - n) < n := BitVec.lt_of_getLsbD
  grind

/-- Replacing a bit keeps the bits outside a mask that holds it. -/
theorem withBit_and_not {w : Nat} (v m : BitVec w) {k : Nat} (b : Bool) (hk : k < w) (hm : bit m k = true) :
    withBit v k b &&& ~~~ m = v &&& ~~~ m := by
  apply BitVec.eq_of_getMsbD_eq
  intro j hj
  have hbit : bit (withBit v k b) j = if j = k then b else bit v j := bit_withBit v b hk hj
  simp only [bit] at hbit hm
  rw [BitVec.getMsbD_and, BitVec.getMsbD_and, hbit]
  split
  · next h => subst h; simp [hm, hk]
  · rfl

theorem Wrote.setCrField (h : Wrote i s u) {n : CrField} (v : BitVec 4) (hn : crWritten i = crFieldMask n) :
    Wrote i s (u.setCrField n v) :=
  h.setCr _ (by rw [hn]; exact withSlice_and_not _ _ _)

theorem Wrote.record (h : Wrote i s u) {rc : Bool} (r : Dword) (hc : crWritten i = if rc then crFieldMask 0 else 0) :
    Wrote i s (u.record rc r) := by
  cases rc
  · exact h
  · exact h.setCrField _ hc

theorem Wrote.recordFree (h : Wrote i s u) {rc : Bool} (r : Dword) (hc : crWritten i = if rc then crFieldMask 0 else 0) :
    Wrote i s (u.recordFree rc r) := by
  cases rc
  · exact h
  · exact h.setCrField _ hc

theorem Wrote.recordFp (h : Wrote i s u) {rc : Bool} (hc : crWritten i = if rc then crFieldMask 1 else 0) :
    Wrote i s (u.recordFp rc) := by
  cases rc
  · exact h
  · exact h.setCrField _ hc

/-- The XER keeps what it holds where a bit of a defined field changes. -/
theorem xerStored_withBit (c : Config) {v : Word} {k : Nat} (b : Bool) (hk : k < 3) (h : xerStored c v = v) :
    xerStored c (withBit v k b) = withBit v k b := by
  have hone : bit (0xE000007F ||| c.xerCopy) k = true := by
    have hk' : bit (0xE000007F#32) k = true := by
      match k, hk with
      | 0, _ | 1, _ | 2, _ => rfl
    simp only [bit, BitVec.getMsbD_or] at hk' ⊢
    simp [hk']
  unfold xerStored at h ⊢
  apply BitVec.eq_of_getMsbD_eq
  intro j hj
  have hv := congrArg (bit · j) h
  have hbit : bit (withBit v k b) j = if j = k then b else bit v j := bit_withBit v b (by omega) hj
  simp only [bit, BitVec.getMsbD_and] at hv hbit hone ⊢
  rw [hbit]
  split
  · next hjk => subst hjk; rw [hone, Bool.and_true]
  · exact hv

theorem Wrote.setCa (h : Wrote i s u) (ca : Bool) (hx : bit (xerWritten i) 2 = true) : Wrote i s (u.setCa ca) :=
  h.setXer _ (withBit_and_not _ _ _ (by omega) hx) (xerStored_withBit _ _ (by omega))

theorem Wrote.setOv (h : Wrote i s u) {oe : Bool} (ov : Bool)
    (hx : oe = true → bit (xerWritten i) 0 = true ∧ bit (xerWritten i) 1 = true) : Wrote i s (u.setOv oe ov) := by
  cases oe
  · exact h
  · obtain ⟨h0, h1⟩ := hx rfl
    exact h.setXer _ ((withBit_and_not _ _ _ (by omega) h0).trans (withBit_and_not _ _ _ (by omega) h1))
      fun hu => xerStored_withBit _ _ (by omega) (xerStored_withBit _ _ (by omega) hu)

theorem Wrote.setXs (h : Wrote i s u) {r : Gpr} {vs : List Dword}
    (hr : ∀ k, k < vs.length → writesGpr i s (r + BitVec.ofNat 5 k) = true) : Wrote i s (u.setXs r vs) := by
  induction vs generalizing u r with
  | nil => exact h
  | cons v vs ih =>
    have h0 : writesGpr i s r = true := by simpa using hr 0 (by simp)
    refine ih (h.setX r v h0) fun k hk => ?_
    have hk' := hr (k + 1) (by simpa using hk)
    rwa [BitVec.ofNat_add, BitVec.add_comm (BitVec.ofNat 5 k), ← BitVec.add_assoc] at hk'

theorem Wrote.link (h : Wrote i s u) {lk : Bool} (hl : writesLr i = lk) : Wrote i s (u.link lk) := by
  cases lk
  · exact h
  · exact h.setLr _ hl

/-! ## Interrupts and stops -/

/-- What a stop can be: a synchronous interrupt that is no floating-point exception, or a fault of a configuration that is
not total. -/
def Stop.Arises (c : Config) : Stop → Prop
  | .interrupt k => k.Synchronous ∧ k.floating = false
  | .fault _ => ¬ c.total

theorem Stop.outcome_ends {e : Stop} (he : e.Arises s.cfg) (h : Wrote i s u) : Ends i s (e.outcome u) := by
  cases e with
  | interrupt k =>
    obtain ⟨hk, hf⟩ := he
    exact .raised h k hk (by simp [hf])
  | fault f => exact .fault f he

theorem dataStorage_arises (c : Config) (dsisr : Word) (dar : Option Dword) :
    (Stop.interrupt (.dataStorage dsisr dar)).Arises c :=
  ⟨⟨nofun, nofun, nofun, nofun⟩, rfl⟩

theorem alignment_arises (c : Config) (j : Instr) (regs : DsisrRegs) (ea : Dword) (t : State) :
    (Stop.interrupt (alignmentCause j regs ea t)).Arises c :=
  ⟨⟨nofun, nofun, nofun, nofun⟩, rfl⟩

/-- The line that answers a translation is one of the table. -/
theorem findTranslation_mem {l : List TranslationEntry} {page : BitVec 52} {kind : AccessKind} {priv : Bool}
    {r : TranslationResult} (h : findTranslation s l page kind priv = some r) : ∃ e ∈ l, e.result = r := by
  rw [findTranslation_eq_find, Option.map_eq_some_iff] at h
  obtain ⟨e, he, hr⟩ := h
  exact ⟨e, List.mem_of_find?_eq_some he, hr⟩

/-- No address is in a direct-store segment where the table names none. -/
theorem not_total_of_directStore {kind : AccessKind} {a real : Dword} {attrs : StorageAttrs}
    (h : translate s kind a = .ok (real, attrs)) (hd : attrs.directStore = true) : ¬ s.cfg.total := by
  rintro ⟨-, -, hno⟩
  unfold translate at h
  split at h
  · split at h
    · cases h; cases hd
    · next page attrs' hfind =>
      cases h
      obtain ⟨e, he, hr⟩ := findTranslation_mem hfind
      rw [hno e he _ _ hr] at hd
      cases hd
    · cases h
  · cases h; cases hd

theorem byteReal_arises {cls : AccessClass} {kind : AccessKind} {a : Dword} {e : Stop}
    (h : byteReal s cls kind a = .error e) : e.Arises s.cfg := by
  unfold byteReal at h
  split at h
  · cases h; exact dataStorage_arises _ _ _
  · next htr =>
    split at h <;> split at h <;> cases h
    · exact dataStorage_arises _ _ _
    · exact dataStorage_arises _ _ _
    · exact not_total_of_directStore htr ‹_›

theorem bytesReal_arises {cls : AccessClass} {kind : AccessKind} {as : List Dword} {e : Stop}
    (h : bytesReal s cls kind as = .error e) : e.Arises s.cfg := by
  induction as generalizing e with
  | nil => cases h
  | cons a as ih =>
    unfold bytesReal at h
    split at h
    · cases h; exact byteReal_arises ‹_›
    · split at h <;> cases h
      exact ih ‹_›

theorem accessReals_arises {j : Instr} {regs : DsisrRegs} {cls : AccessClass} {kind : AccessKind} {ea : Dword} {n : Nat}
    {e : Stop} (h : accessReals j regs cls kind ea n s = .error e) : e.Arises s.cfg := by
  unfold accessReals at h
  split at h
  · cases h; exact alignment_arises _ _ _ _ _
  · split at h <;> cases h
    exact bytesReal_arises ‹_›

theorem externalReal_arises {j : Instr} {kind : AccessKind} {ea : Dword} {e : Stop}
    (h : externalReal j kind ea s = .error e) : e.Arises s.cfg := by
  unfold externalReal at h
  split at h
  · cases h; exact alignment_arises _ _ _ _ _
  · split at h
    · cases h; exact dataStorage_arises _ _ _
    · split at h
      · cases h; exact dataStorage_arises _ _ _
      · split at h <;> cases h
        exact dataStorage_arises _ _ _

/-- An access goes to as many bytes as the operand has. -/
theorem bytesReal_length {cls : AccessClass} {kind : AccessKind} {as rs : List Dword}
    (h : bytesReal s cls kind as = .ok rs) : rs.length = as.length := by
  induction as generalizing rs with
  | nil => cases h; rfl
  | cons a as ih =>
    unfold bytesReal at h
    split at h
    · cases h
    · split at h <;> cases h
      simp [ih ‹_›]

theorem accessReals_length {j : Instr} {regs : DsisrRegs} {cls : AccessClass} {kind : AccessKind} {ea : Dword} {n : Nat}
    {rs : List Dword} (h : accessReals j regs cls kind ea n s = .ok rs) : rs.length = n := by
  unfold accessReals at h
  split at h
  · cases h
  · split at h
    · cases h
    · next hb =>
      cases h
      have hlen := bytesReal_length hb
      simp only [operandBytes, List.length_map, List.length_range] at hlen
      split <;> simp [hlen]

theorem wordsOfBytes_length (bs : List Byte) : (wordsOfBytes bs).length = regsFor bs.length := by
  induction bs using wordsOfBytes.induct <;> simp_all [wordsOfBytes, regsFor]
  omega

/-! ## The checks before execution -/

theorem not_total_of_refuse (h : s.cfg.invalidForm = .refuse) : ¬ s.cfg.total := by
  rintro ⟨hp, -⟩
  rw [h] at hp
  cases hp

theorem program_synchronous (k : ProgramKind) : (Cause.program k).Synchronous := ⟨nofun, nofun, nofun, nofun⟩

theorem invalidForm_ends (hadm : admission i s = .invalidForm) : Ends i s (invalidForm s) := by
  unfold invalidForm
  split
  · exact .raised .refl _ (program_synchronous _) nofun
  · exact .refused _ (not_total_of_refuse ‹_›) fun _ => hadm

/-- The checks before execution raise Program(Illegal), Program(Privileged) or Floating-Point Unavailable. -/
theorem admissionBeforeForm_cases {c : Cause} (h : admissionBeforeForm i s = some c) :
    c = .program .illegal ∨ c = .program .privileged ∨ c = .fpUnavailable := by
  unfold admissionBeforeForm at h
  dsimp only at h
  split at h
  · exact .inl (Option.some.inj h).symm
  · split at h
    · exact .inr (.inl (Option.some.inj h).symm)
    · split at h
      · exact .inr (.inr (Option.some.inj h).symm)
      · cases h

theorem admitted_ends {body : Result} (h : Ends i s body) : Ends i s (admitted i s body) := by
  unfold admitted
  split
  · exact h
  · next c hadm =>
    unfold admission at hadm
    split at hadm
    · next hbefore =>
      cases hadm
      rcases admissionBeforeForm_cases hbefore with rfl | rfl | rfl <;>
        exact .raised .refl _ ⟨nofun, nofun, nofun, nofun⟩ nofun
    · split at hadm <;> cases hadm
  · next hadm => exact invalidForm_ends hadm

end
end Sys2Proof.Machine


namespace Sys2Proof.Machine
open Laws

section
variable {i : Instr} {s u : State}

/-! ## The fixed-point shapes -/

theorem setGpr_ends {rt : Gpr} (v : Dword) (hg : writesGpr i s rt = true) : Ends i s (completed (s.setX rt v)) :=
  (Wrote.refl.setX rt v hg).completed

/-- The XER bits of a sum: CA where it is set, OV and SO with OE. -/
def sumXer (carry oe : Bool) : Word :=
  if carry then (if oe then 0xE0000000 else 0x20000000) else if oe then 0xC0000000 else 0

theorem sumInto_ends {rt : Gpr} {a b : Dword} {c carry oe rc : Bool} (hg : writesGpr i s rt = true)
    (hx : xerWritten i = sumXer carry oe) (hc : crWritten i = if rc then crFieldMask 0 else 0) :
    Ends i s (sumInto rt a b c carry oe rc s) := by
  have hx' := Wrote.refl.setX rt (a + b + (b1 c).setWidth 64) hg
  have hov : oe = true → bit (xerWritten i) 0 = true ∧ bit (xerWritten i) 1 = true := by
    rintro rfl
    rw [hx]
    cases carry <;> exact ⟨rfl, rfl⟩
  cases carry with
  | false => exact ((hx'.setOv _ hov).record _ hc).completed
  | true =>
    have hca : bit (xerWritten i) 2 = true := by rw [hx]; cases oe <;> rfl
    exact (((hx'.setCa _ hca).setOv _ hov).record _ hc).completed

/-- OV and SO are XER bits that an instruction with OE may write. -/
theorem ovWritten {oe : Bool} (hx : xerWritten i = if oe then 0xC0000000 else 0) :
    oe = true → bit (xerWritten i) 0 = true ∧ bit (xerWritten i) 1 = true := by
  rintro rfl
  rw [hx]
  exact ⟨rfl, rfl⟩

theorem resultInto_ends {rt : Gpr} {r : Dword} {oe ov rc : Bool} (hg : writesGpr i s rt = true)
    (hx : xerWritten i = if oe then 0xC0000000 else 0) (hc : crWritten i = if rc then crFieldMask 0 else 0) :
    Ends i s (resultInto rt r oe ov rc s) :=
  (((Wrote.refl.setX rt r hg).setOv ov (ovWritten hx)).record r hc).completed

theorem wordInto_ends {rt : Gpr} {w : Word} {oe ov rc : Bool} (hg : writesGpr i s rt = true)
    (hx : xerWritten i = if oe then 0xC0000000 else 0) (hc : crWritten i = if rc then crFieldMask 0 else 0) :
    Ends i s (wordInto rt w oe ov rc s) := by
  have h := (Wrote.refl.setX rt (slice (s.free 0) 0 32 ++ w) hg).setOv ov (ovWritten hx)
  unfold wordInto
  refine Wrote.completed (Wrote.drawn ?_ 2)
  split
  · exact h.recordFree _ hc
  · exact h.record _ hc

theorem undefinedInto_ends {rt : Gpr} {oe rc : Bool} (hg : writesGpr i s rt = true)
    (hx : xerWritten i = if oe then 0xC0000000 else 0) (hc : crWritten i = if rc then crFieldMask 0 else 0) :
    Ends i s (undefinedInto rt oe rc s) :=
  ((((Wrote.refl.setX rt _ hg).setOv true (ovWritten hx)).recordFree _ hc).drawn 2).completed

theorem ite_ends {c : Prop} [Decidable c] {a b : Result} (ha : Ends i s a) (hb : Ends i s b) :
    Ends i s (if c then a else b) := by
  split
  · exact ha
  · exact hb

theorem setCrField_ends {bf : CrField} (v : BitVec 4) (hc : crWritten i = crFieldMask bf) :
    Ends i s (completed (s.setCrField bf v)) :=
  (Wrote.refl.setCrField v hc).completed

theorem compareSignedBy_ends {bf : CrField} {l : Bool} {a b : Dword} (hc : crWritten i = crFieldMask bf) :
    Ends i s (compareSignedBy bf l a b s) := by
  cases l <;> exact setCrField_ends _ hc

theorem compareUnsignedBy_ends {bf : CrField} {l : Bool} {a b : Dword} (hc : crWritten i = crFieldMask bf) :
    Ends i s (compareUnsignedBy bf l a b s) := by
  cases l <;> exact setCrField_ends _ hc

theorem trapIf_ends {taken : Bool} : Ends i s (trapIf taken s) :=
  ite_ends (.raised .refl _ (program_synchronous _) nofun) Wrote.refl.completed

theorem logicInto_ends {ra : Gpr} {r : Dword} {rc : Bool} (hg : writesGpr i s ra = true)
    (hc : crWritten i = if rc then crFieldMask 0 else 0) : Ends i s (logicInto ra r rc s) :=
  ((Wrote.refl.setX ra r hg).record r hc).completed

theorem shiftInto_ends {ra : Gpr} {r : Dword} {ca rc : Bool} (hg : writesGpr i s ra = true)
    (hx : xerWritten i = 0x20000000) (hc : crWritten i = if rc then crFieldMask 0 else 0) :
    Ends i s (shiftInto ra r ca rc s) :=
  (((Wrote.refl.setX ra r hg).setCa ca (by rw [hx]; rfl)).record r hc).completed

/-! ## The branches and the Condition Register -/

theorem branchTo_ends {lk taken : Bool} {target : Dword} (h : Wrote i s u) (hl : writesLr i = lk) :
    Ends i s (branchTo u lk taken target) := by
  cases taken
  · exact .done (h.link hl).advance
  · exact .done ((h.link hl).goTo _)

theorem branchConditional_ends {bo : BitVec 5} {bi : CrBit} {lk : Bool} {target : Dword} (hl : writesLr i = lk)
    (hc : writesCtr i = !bit bo 2) : Ends i s (branchConditional s bo bi lk target) := by
  refine branchTo_ends ?_ hl
  cases hbo : bit bo 2
  · exact Wrote.refl.setCtr _ (by rw [hc, hbo]; rfl)
  · exact .refl

theorem oneBit_bit {w k : Nat} (hk : k < w) : bit (oneBit w k) k = true := by
  simp only [bit, oneBit, BitVec.getMsbD_twoPow]
  simp
  omega

theorem crLogic_ends {op : Bool → Bool → Bool} {bt ba bb : CrBit} (hc : crWritten i = oneBit 32 bt.toNat) :
    Ends i s (crLogic s op bt ba bb) :=
  (Wrote.refl.setCr _ (by rw [hc]; exact withBit_and_not _ _ _ bt.isLt (oneBit_bit bt.isLt))).completed

/-! ## The loads and stores -/

theorem access_ends {regs : DsisrRegs} {cls : AccessClass} {kind : AccessKind} {ea : Dword} {n : Nat}
    {body : List Dword → Result} (hu : Wrote i s u)
    (hok : ∀ rs, accessReals i regs cls kind ea n s = .ok rs → Ends i s (body rs)) :
    Ends i s
      (match accessReals i regs cls kind ea n s with
      | .error e => e.outcome u
      | .ok rs => body rs) := by
  split
  · exact Stop.outcome_ends (accessReals_arises ‹_›) hu
  · exact hok _ ‹_›

theorem memRead_ends {regs : DsisrRegs} {cls : AccessClass} {ea : Dword} {n : Nat} {body : Dword → Result}
    (hbody : ∀ v, Ends i s (body v)) : Ends i s (memRead i regs cls ea n s body) :=
  access_ends .refl fun _ _ => hbody _

/-- The bytes of a store operand are where the instruction stores. -/
theorem storesAt_of_ok {regs : DsisrRegs} {cls : AccessClass} {ea : Dword} {n : Nat} {rs : List Dword}
    (hst : storesAt i s = realsOf (accessReals i regs cls .store ea n s))
    (h : accessReals i regs cls .store ea n s = .ok rs) : ∀ a ∈ rs, a ∈ storesAt i s := by
  rw [hst, h]
  exact fun _ ha => ha

theorem memWrite_ends {regs : DsisrRegs} {cls : AccessClass} {ea v : Dword} {n : Nat} {body : State → Result}
    (hst : storesAt i s = realsOf (accessReals i regs cls .store ea n s))
    (hbody : ∀ t, Wrote i s t → Ends i s (body t)) : Ends i s (memWrite i regs cls ea n v s body) :=
  access_ends .refl fun rs hrs => hbody _ (Wrote.refl.storeAll rs _ (storesAt_of_ok hst hrs))

theorem loadInto_ends {rt : Gpr} {ea : Dword} {n : Nat} {ext : Dword → Dword} (hg : writesGpr i s rt = true) :
    Ends i s (loadInto i rt ea n ext s) :=
  memRead_ends fun _ => setGpr_ends _ hg

theorem loadUpdate_ends {rt ra : Gpr} {ea : Dword} {n : Nat} {ext : Dword → Dword} (hg : writesGpr i s rt = true)
    (ha : writesGpr i s ra = true) : Ends i s (loadUpdate i rt ra ea n ext s) :=
  memRead_ends fun _ => ((Wrote.refl.setX rt _ hg).setX ra ea ha).completed

theorem storeFrom_ends {v ea : Dword} {n : Nat}
    (hst : storesAt i s = realsOf (accessReals i .other .fixed .store ea n s)) : Ends i s (storeFrom i v ea n s) :=
  memWrite_ends hst fun _ ht => ht.completed

theorem storeUpdate_ends {ra : Gpr} {v ea : Dword} {n : Nat}
    (hst : storesAt i s = realsOf (accessReals i .update .fixed .store ea n s)) (ha : writesGpr i s ra = true) :
    Ends i s (storeUpdate i ra v ea n s) :=
  memWrite_ends hst fun _ ht => (ht.setX ra ea ha).completed

theorem loadSingle_ends {frt : Fpr} {ea : Dword} (hf : writesFpr i frt = true) : Ends i s (loadSingle i frt ea s) :=
  memRead_ends fun _ => (Wrote.refl.setF frt _ true hf).completed

theorem loadSingleUpdate_ends {frt : Fpr} {ra : Gpr} {ea : Dword} (hf : writesFpr i frt = true)
    (ha : writesGpr i s ra = true) : Ends i s (loadSingleUpdate i frt ra ea s) :=
  memRead_ends fun _ => ((Wrote.refl.setF frt _ true hf).setX ra ea ha).completed

theorem loadDouble_ends {frt : Fpr} {ea : Dword} (hf : writesFpr i frt = true) : Ends i s (loadDouble i frt ea s) :=
  memRead_ends fun _ => (Wrote.refl.setF frt _ false hf).completed

theorem loadDoubleUpdate_ends {frt : Fpr} {ra : Gpr} {ea : Dword} (hf : writesFpr i frt = true)
    (ha : writesGpr i s ra = true) : Ends i s (loadDoubleUpdate i frt ra ea s) :=
  memRead_ends fun _ => ((Wrote.refl.setF frt _ false hf).setX ra ea ha).completed

theorem storeSingle_ends {frs : Fpr} {ea : Dword}
    (hst : storesAt i s = realsOf (accessReals i .other .float .store ea 4 s)) : Ends i s (storeSingle i frs ea s) :=
  memWrite_ends hst fun _ ht => (ht.drawn 1).completed

theorem storeSingleUpdate_ends {frs : Fpr} {ra : Gpr} {ea : Dword}
    (hst : storesAt i s = realsOf (accessReals i .update .float .store ea 4 s)) (ha : writesGpr i s ra = true) :
    Ends i s (storeSingleUpdate i frs ra ea s) :=
  memWrite_ends hst fun _ ht => ((ht.setX ra ea ha).drawn 1).completed

theorem storeDouble_ends {frs : Fpr} {ea : Dword}
    (hst : storesAt i s = realsOf (accessReals i .other .float .store ea 8 s)) : Ends i s (storeDouble i frs ea s) :=
  memWrite_ends hst fun _ ht => ht.completed

theorem storeDoubleUpdate_ends {frs : Fpr} {ra : Gpr} {ea : Dword}
    (hst : storesAt i s = realsOf (accessReals i .update .float .store ea 8 s)) (ha : writesGpr i s ra = true) :
    Ends i s (storeDoubleUpdate i frs ra ea s) :=
  memWrite_ends hst fun _ ht => (ht.setX ra ea ha).completed

theorem storeInteger_ends {frs : Fpr} {ea : Dword}
    (hst : storesAt i s = realsOf (accessReals i .other .float .store ea 4 s)) : Ends i s (storeInteger i frs ea s) :=
  memWrite_ends hst fun _ ht => (ht.drawn 1).completed

/-- Does the instruction write the registers that `n` bytes fill from `rt` on? -/
def FillsFrom (i : Instr) (s : State) (rt : Gpr) (n : Nat) : Prop :=
  ∀ k, k < regsFor n → writesGpr i s (rt + BitVec.ofNat 5 k) = true

theorem loadMany_ends {cls : AccessClass} {rt : Gpr} {ea : Dword} {n : Nat} (hg : FillsFrom i s rt n) :
    Ends i s (loadMany i cls rt ea n s) := by
  refine access_ends .refl fun rs hrs => (Wrote.refl.setXs fun k hk => hg k ?_).completed
  rwa [wordsOfBytes_length, Memory.readAll, List.length_map, accessReals_length hrs] at hk

theorem loadStringIndexed_ends {rt ra rb : Gpr} (hg : FillsFrom i s rt s.xerCount) (ht : writesGpr i s rt = true) :
    Ends i s (loadStringIndexed i rt ra rb s) :=
  ite_ends ((Wrote.refl.setX rt _ ht).drawn 1).completed (loadMany_ends hg)

theorem storeMany_ends {cls : AccessClass} {rs : Gpr} {ea : Dword} {n : Nat}
    (hst : storesAt i s = realsOf (accessReals i .other cls .store ea n s)) : Ends i s (storeMany i cls rs ea n s) :=
  access_ends .refl fun _ hreals => (Wrote.refl.storeAll _ _ (storesAt_of_ok hst hreals)).completed

theorem loadReserve_ends {rt : Gpr} {ea : Dword} {n : Nat} (hg : writesGpr i s rt = true) (hi : Reserves i) :
    Ends i s (loadReserve i rt ea n s) :=
  access_ends .refl fun _ _ => ((Wrote.refl.setX rt _ hg).reserve _ hi).completed

theorem storeConditional_ends {v ea : Dword} {n : Nat} (hi : Reserves i) (hc : crWritten i = crFieldMask 0)
    (hst : ∀ rs, accessReals i .other .reserve .store ea n s = .ok rs → s.holdsReservation (rs.headD 0) = true →
      ∀ a ∈ rs, a ∈ storesAt i s) :
    Ends i s (storeConditional i v ea n s) := by
  refine access_ends ((Wrote.refl.setCrField _ hc).drawn 1) fun rs hrs => ?_
  refine Wrote.completed (Wrote.reserve (Wrote.setCrField ?_ _ hc) none hi)
  split
  · exact Wrote.refl.storeAll rs _ (hst rs hrs ‹_›)
  · exact .refl

/-! ## The floating-point shapes -/

theorem fpFinish_ends {rc : Bool} (h : Wrote i s u) (hw : writesFpscr i = true)
    (hc : crWritten i = if rc then crFieldMask 1 else 0) : Ends i s (fpFinish rc u) :=
  ite_ends (.raised (h.recordFp hc) _ (program_synchronous _) fun _ => hw) (h.recordFp hc).completed

theorem Wrote.delivering (h : Wrote i s u) {frt : Fpr} (single : Bool) (r : FpResult) (hf : writesFpr i frt = true)
    (hw : writesFpscr i = true) : Wrote i s (u.delivering frt single r) := by
  refine ((Wrote.withFpscr ?_ _ hw).drawn 1).withFpReason _ hw
  cases r.value with
  | none => exact h
  | some d => exact h.setF frt d single hf

theorem fpDouble_ends {frt : Fpr} {rc : Bool} {r : FpResult} (hf : writesFpr i frt = true) (hw : writesFpscr i = true)
    (hc : crWritten i = if rc then crFieldMask 1 else 0) : Ends i s (fpDouble frt rc r s) :=
  fpFinish_ends (Wrote.refl.delivering false r hf hw) hw hc

theorem fpSingle_ends {frt : Fpr} {rc : Bool} {ds : List Dword} {r : FpResult} (hf : writesFpr i frt = true)
    (hw : writesFpscr i = true) (hc : crWritten i = if rc then crFieldMask 1 else 0) :
    Ends i s (fpSingle frt rc ds r s) :=
  ite_ends (fpFinish_ends (Wrote.refl.delivering true r hf hw) hw hc)
    (fpFinish_ends ((((Wrote.refl.setF frt _ true hf).withFpscr _ hw).drawn 2).withFpReason true hw) hw hc)

theorem moveFp_ends {frt frb : Fpr} {rc : Bool} {d : Dword} (hf : writesFpr i frt = true)
    (hc : crWritten i = if rc then crFieldMask 1 else 0) : Ends i s (moveFp frt frb rc d s) :=
  ((Wrote.refl.setF frt d _ hf).recordFp hc).completed

theorem selectFp_ends {frt : Fpr} {rc : Bool} {d : Dword} (hf : writesFpr i frt = true)
    (hc : crWritten i = if rc then crFieldMask 1 else 0) : Ends i s (selectFp frt rc d s) :=
  ((Wrote.refl.setF frt d _ hf).recordFp hc).completed

theorem fromFpscr_ends {frt : Fpr} {rc : Bool} (v : Dword) (hf : writesFpr i frt = true)
    (hc : crWritten i = if rc then crFieldMask 1 else 0) :
    Ends i s (completed (((s.setF frt v false).recordFp rc).drawn 1)) :=
  (((Wrote.refl.setF frt v false hf).recordFp hc).drawn 1).completed

theorem compareFp_ends {bf : CrField} {a b : Dword} {exc : Word} (hw : writesFpscr i = true)
    (hc : crWritten i = crFieldMask bf) : Ends i s (compareFp bf a b exc s) := by
  have h := (((Wrote.refl (s := s)).setCrField (fpCompare a b) hc).withFpscr
    (withSlice (fpscrRaised s.fpscr exc) 16 (fpCompare a b)) hw).withFpReason (exc != 0) hw
  exact ite_ends (.raised h _ (program_synchronous _) fun _ => hw) h.completed

theorem moveFromFpscr_ends {bf bfa : CrField} (hw : writesFpscr i = true) (hc : crWritten i = crFieldMask bf) :
    Ends i s (moveFromFpscr bf bfa s) :=
  ((Wrote.refl.setCrField _ hc).withFpscr _ hw).completed

theorem writeFpscr_ends {rc : Bool} {v : Word} (hw : writesFpscr i = true)
    (hc : crWritten i = if rc then crFieldMask 1 else 0) : Ends i s (writeFpscr rc v s) :=
  fpFinish_ends ((Wrote.refl.withFpscr v hw).withFpReason _ hw) hw hc

end
end Sys2Proof.Machine


namespace Sys2Proof.Machine
open Laws

section
variable {i : Instr} {s u : State}

/-! ## The identity translation -/

theorem translate_of_identity (h : s.cfg.xlate = []) (kind : AccessKind) (a : Dword) : translate s kind a = .ok (a, {}) := by
  unfold translate
  rw [h]
  split <;> rfl

theorem fetchReal_of_identity (h : s.cfg.xlate = []) : fetchReal s = .ok s.fetchAddress := by
  unfold fetchReal
  rw [translate_of_identity h]
  rfl

theorem fetchedBytes_of_identity (h : s.cfg.xlate = []) :
    fetchedBytes s = some (s.mem.readAll (wordAddresses s.fetchAddress)) := by
  unfold fetchedBytes
  rw [fetchReal_of_identity h]

theorem fetchedIdentically_of_identity (h : s.cfg.xlate = []) : fetchedIdentically s = true := by
  unfold fetchedIdentically
  rw [fetchReal_of_identity h]
  exact beq_self_eq_true _

theorem fetchAttrs_of_identity (h : s.cfg.xlate = []) : fetchAttrs s = {} := by
  unfold fetchAttrs
  rw [translate_of_identity h]

/-- Under the identity translation relocation may be turned on and off anywhere (70_reset_and_hazards.md R808). -/
theorem relocationBroken_of_identity (h : s.cfg.xlate = []) (m : Dword) : relocationBroken s m = false := by
  have hon (t : State) (ht : t.cfg = s.cfg) : fetchedIdentically t = true :=
    fetchedIdentically_of_identity (ht ▸ h)
  unfold relocationBroken
  dsimp only
  rw [hon _ (by split <;> rfl), hon _ (by split <;> rfl)]
  simp

theorem segmentBroken_of_identity (h : s.cfg.xlate = []) (n : BitVec 4) (v : Word) : segmentBroken s n v = false := by
  simp [segmentBroken, State.identityTranslation, h]

theorem ibatInUse_of_identity (h : s.cfg.xlate = []) (n : Nat) : ibatInUse s n = false := by
  have hmaps (a : Dword) : ibatMaps s n a = false := by
    unfold ibatMaps
    rw [fetchAttrs_of_identity (s := { s with pc := a }) h]
    simp
  simp [ibatInUse, hmaps]

/-- Under the identity translation contexts that agree on the mode and on storage find the same code. -/
theorem sameCode_of_identity {t : State} (h : s.cfg.xlate = []) (hcfg : t.cfg = s.cfg) (hmsr : t.msr = s.msr)
    (hmem : t.mem = s.mem) : sameCode s t = true := by
  unfold sameCode
  rw [fetchedBytes_of_identity (s := { s with pc := s.nextPc }) h,
    fetchedBytes_of_identity (s := { t with pc := s.nextPc }) (hcfg ▸ h : t.cfg.xlate = [])]
  simp [State.fetchAddress, State.codeAddress, State.iea, State.mode64, State.msrBit, hcfg, hmsr, hmem]

theorem sprBroken_of_identity {n : SprNum} {v : Dword} (h : s.cfg.xlate = []) :
    sprBroken s n (writeSpr n v s) = false := by
  have hshape := writeSpr_shape (s := s) n v
  have hcfg : (writeSpr n v s).cfg = s.cfg := by rw [hshape]
  have hsame : sameCode s (writeSpr n v s) = true :=
    sameCode_of_identity h hcfg (by rw [hshape]) (by rw [hshape])
  have hx : (writeSpr n v s).cfg.xlate = [] := by rw [hcfg, h]
  unfold sprBroken
  split
  · simp [State.identityTranslation, h]
  · simp [hsame]
  · simp [ibatBroken, ibatUnsequenced, ibatInUse_of_identity h, ibatInUse_of_identity hx, hsame]

/-! ## The context alterations -/

/-- A broken requirement stops the machine only under a configuration that is not total. -/
theorem contextAltered_ends {broken : Bool} {t : State} (ht : Wrote i s t) (hflag : MayFlag i) (hcfg : t.cfg = s.cfg)
    (hb : s.cfg.xlate = [] → s.cfg.powSequence = false → s.cfg.leSequence = false → broken = false) :
    Ends i s (contextAltered broken t) := by
  unfold contextAltered
  split
  · next hbroken =>
    split
    · next hrefuse =>
      refine .refused _ (fun ⟨_, hctx, _⟩ => ?_) nofun
      rw [hcfg] at hrefuse
      rcases hctx with hexec | ⟨hx, hpow, hle⟩
      · rw [hexec] at hrefuse; cases hrefuse
      · rw [hb hx hpow hle] at hbroken; cases hbroken
    · exact .done (ht.flag hflag)
  · exact .done ht

theorem mtspr_ends {n : SprNum} {v : Dword} (hi : ∃ r, i = .mtspr n r) :
    Ends i s (contextAltered (sprBroken s n (writeSpr n v s)) (writeSpr n v s).advance) := by
  refine contextAltered_ends (Wrote.refl.writeSpr n v hi).advance ?_ ?_ fun hx _ _ => sprBroken_of_identity hx
  · obtain ⟨r, hr⟩ := hi
    exact .inr (.inr (.inl ⟨n, r, hr⟩))
  · show (writeSpr n v s).cfg = s.cfg
    rw [writeSpr_shape]

theorem setSr_ends {n : BitVec 4} {v : Word} (hi : MovesToSr i) :
    Ends i s (contextAltered (segmentBroken s n v) (s.setSr n v).advance) :=
  contextAltered_ends (Wrote.refl.setSr n v hi).advance (.inl hi) rfl fun hx _ _ => segmentBroken_of_identity hx n v

theorem mtmsr_ends {v : Dword} (hi : WritesMsr i) :
    Ends i s (contextAltered (msrBroken s (msrStored s.cfg v)) { s with msr := msrStored s.cfg v }.advance) := by
  refine contextAltered_ends (Wrote.refl.setMsr v (s.pc + 4) hi) (.inr (.inr (.inr hi))) rfl fun hx hpow hle => ?_
  simp [msrBroken, relocationBroken_of_identity hx, powerBroken, hpow, hle]

theorem rfi_ends (hi : i = .rfi) :
    Ends i s (contextAltered (powerBroken s (returnFromInterrupt s).msr) (returnFromInterrupt s)) := by
  refine contextAltered_ends ((Wrote.refl.synchronize (.inr hi)).setMsr _ _ (.inr hi)) (.inr (.inr (.inr (.inr hi)))) rfl
    fun _ hpow _ => ?_
  simp [powerBroken, hpow]

/-! ## Moves, storage control and external control -/

theorem mtcrf_ends {fxm : BitVec 8} {v : Word} (hc : crWritten i = fxmMask fxm) :
    Ends i s (completed { s with cr := merge (fxmMask fxm) v s.cr }) :=
  (Wrote.refl.setCr _ (by rw [hc]; exact merge_and_not _ _ _)).completed

theorem mcrxr_ends {bf : CrField} (hc : crWritten i = crFieldMask bf) (hx : xerWritten i = 0xF0000000) :
    Ends i s (completed { s.setCrField bf (slice s.xer 0 4) with xer := withSlice s.xer 0 0#4 }) := by
  refine ((Wrote.refl.setCrField _ hc).setXer _ ?_ fun hst => ?_).completed
  · rw [hx]
    exact withSlice_and_not s.xer 0 0#4
  · have hclear : withSlice s.xer 0 0#4 = s.xer &&& ~~~ ones 32 0 4 := by
      simp [withSlice]
    rw [hclear, xerStored, BitVec.and_assoc, BitVec.and_comm (~~~ _), ← BitVec.and_assoc]
    exact congrArg (· &&& _) hst

theorem completed_ends : Ends i s (completed s) := Wrote.refl.completed

theorem cacheBlock_ends {kind : AccessKind} {ea : Dword} : Ends i s (cacheBlock kind ea s) := by
  unfold cacheBlock
  split
  · exact .raised .refl _ ⟨nofun, nofun, nofun, nofun⟩ nofun
  · exact completed_ends

theorem zeroBlock_ends {ea : Dword} (hst : storesAt i s = zeroedReals ea s) : Ends i s (zeroBlock i ea s) := by
  unfold zeroBlock
  split
  · exact .raised .refl _ ⟨nofun, nofun, nofun, nofun⟩ nofun
  · next htr =>
    refine ite_ends (.raised .refl _ ⟨nofun, nofun, nofun, nofun⟩ nofun) ?_
    split
    · exact .fault _ (not_total_of_directStore htr ‹_›)
    · refine (Wrote.refl.storeAll _ _ fun a ha => ?_).completed
      rw [hst, zeroedReals, htr]
      exact ha

theorem externalControl_ends {body : State → Result} (hi : ControlsExternal i)
    (hbody : ∀ u, Wrote i s u → u.cfg = s.cfg → Ends i s (body u)) : Ends i s (externalControl s body) := by
  unfold externalControl
  split
  · exact hbody s .refl rfl
  · split
    · exact hbody _ (Wrote.refl.flag (.inr (.inl hi))) rfl
    · exact .refused _ (not_total_of_refuse ‹_›) nofun

theorem externalIn_ends {j : Instr} {rt : Gpr} {ea : Dword} (hi : ∃ r a b, i = .eciwx r a b)
    (hg : writesGpr i s rt = true) (hu : Wrote i s u) (hcfg : u.cfg = s.cfg) : Ends i s (externalIn j rt ea u) := by
  unfold externalIn
  split
  · next e he => exact Stop.outcome_ends (hcfg ▸ externalReal_arises he) hu
  · have hsent := fun real => hu.send (u.extOut ++ [ExtRequest.load u.earRid real]) (.inl hi)
    dsimp only
    split
    · exact (((hsent _).setX rt _ hg).receive _ hi).completed
    · exact (((hsent _).setX rt _ hg).drawn 1).completed

theorem externalOut_ends {j : Instr} {v ea : Dword} (hi : ControlsExternal i) (hu : Wrote i s u)
    (hcfg : u.cfg = s.cfg) : Ends i s (externalOut j v ea u) := by
  unfold externalOut
  split
  · next e he => exact Stop.outcome_ends (hcfg ▸ externalReal_arises he) hu
  · exact (hu.send _ hi).completed

end
end Sys2Proof.Machine


namespace Sys2Proof.Machine
open Laws

/-! ## Every instruction -/

section
variable {s : State}

theorem fills_lmw (rt : Gpr) (d : BitVec 16) (ra : Gpr) : FillsFrom (.lmw rt d ra) s rt (4 * (32 - rt.toNat)) := by
  intro k hk
  have hrt := rt.isLt
  have hk' : k < 32 - rt.toNat := by
    unfold regsFor at hk
    omega
  show decide (rt.toNat ≤ (rt + BitVec.ofNat 5 k).toNat) = true
  rw [decide_eq_true_eq, BitVec.toNat_add, BitVec.toNat_ofNat]
  omega

/-- The register `k` places after the first is within the range of more than `k` registers. -/
theorem inWrappedRange_add {rt : Gpr} {k n : Nat} (hk : k < n) : inWrappedRange rt n (rt + BitVec.ofNat 5 k) = true := by
  unfold inWrappedRange
  rw [BitVec.add_comm, BitVec.add_sub_cancel, decide_eq_true_eq, BitVec.toNat_ofNat]
  exact (Nat.mod_le _ _).trans_lt hk

theorem fills_lswi (rt ra : Gpr) (nb : BitVec 5) : FillsFrom (.lswi rt ra nb) s rt (nbBytes nb) :=
  fun _ hk => inWrappedRange_add hk

theorem fills_lswx (rt ra rb : Gpr) : FillsFrom (.lswx rt ra rb) s rt s.xerCount := by
  intro k hk
  show (_ || _) = true
  rw [inWrappedRange_add hk, Bool.or_true]

theorem storesAt_conditional {i : Instr} {ea : Dword} {n : Nat}
    (h : storesAt i s =
      let rs := realsOf (accessReals i .other .reserve .store ea n s)
      if AccessKind.store ≠ .store ∨ (AccessClass.reserve = .reserve ∧ s.holdsReservation (rs.headD 0) = false) then []
      else rs) (rs : List Dword) (hrs : accessReals i .other .reserve .store ea n s = .ok rs)
    (hheld : s.holdsReservation (rs.headD 0) = true) : ∀ a ∈ rs, a ∈ storesAt i s := by
  rw [h, hrs]
  dsimp only [realsOf]
  rw [if_neg (by rw [hheld]; simp)]
  exact fun _ ha => ha

theorem self_or {w : Nat} (a : BitVec w) (b : Bool) : (a == a || b) = true := by simp

theorem or_self_eq {w : Nat} (a : BitVec w) (b : Bool) : (b || a == a) = true := by simp

/-- How every instruction ends. -/
theorem exec_ends (i : Instr) (s : State) : Ends i s (exec i s) := by
  cases i with
  | addi rt | addis rt | mulli rt | mfspr rt | mftb rt | mfcr rt | mfsr rt | mfsrin rt | mfmsr rt =>
    exact admitted_ends (setGpr_ends _ (beq_self_eq_true rt))
  | add rt | subf rt | addic rt | addicDot rt | subfic rt | addc rt | subfc rt | adde rt | subfe rt | addme rt | subfme rt
  | addze rt | subfze rt | neg rt =>
    exact admitted_ends (sumInto_ends (beq_self_eq_true rt) rfl rfl)
  | mulld rt | mullw rt | mulhd rt | mulhdu rt =>
    exact admitted_ends (resultInto_ends (beq_self_eq_true rt) rfl rfl)
  | mulhw rt | mulhwu rt =>
    exact admitted_ends (wordInto_ends (beq_self_eq_true rt) rfl rfl)
  | divd rt | divdu rt =>
    exact admitted_ends (ite_ends (undefinedInto_ends (beq_self_eq_true rt) rfl rfl)
      (resultInto_ends (beq_self_eq_true rt) rfl rfl))
  | divw rt | divwu rt =>
    exact admitted_ends (ite_ends (undefinedInto_ends (beq_self_eq_true rt) rfl rfl)
      (wordInto_ends (beq_self_eq_true rt) rfl rfl))
  | cmpi | cmp =>
    exact admitted_ends (compareSignedBy_ends rfl)
  | cmpli | cmpl =>
    exact admitted_ends (compareUnsignedBy_ends rfl)
  | tdi | twi | td | tw =>
    exact admitted_ends trapIf_ends
  | b | bcctr =>
    exact admitted_ends (branchTo_ends .refl rfl)
  | bc | bclr =>
    exact admitted_ends (branchConditional_ends rfl rfl)
  | sc =>
    exact admitted_ends (.raised .refl _ ⟨nofun, nofun, nofun, nofun⟩ nofun)
  | crand | cror | crxor | creqv => exact admitted_ends (crLogic_ends rfl)
  | crnand bt ba bb =>
    show Ends _ s (admitted (.crnand bt ba bb) s (crLogic s (fun a b => !(a && b)) bt ba bb))
    exact admitted_ends (crLogic_ends rfl)
  | crnor bt ba bb =>
    show Ends _ s (admitted (.crnor bt ba bb) s (crLogic s (fun a b => !(a || b)) bt ba bb))
    exact admitted_ends (crLogic_ends rfl)
  | crandc bt ba bb =>
    show Ends _ s (admitted (.crandc bt ba bb) s (crLogic s (fun a b => a && !b) bt ba bb))
    exact admitted_ends (crLogic_ends rfl)
  | crorc bt ba bb =>
    show Ends _ s (admitted (.crorc bt ba bb) s (crLogic s (fun a b => a || !b) bt ba bb))
    exact admitted_ends (crLogic_ends rfl)
  | mcrf =>
    exact admitted_ends (setCrField_ends _ rfl)
  | lbz rt | lbzx rt | lhz rt | lhzx rt | lha rt | lhax rt | lwz rt | lwzx rt | lwa rt | lwax rt | ld rt | ldx rt
  | lhbrx rt | lwbrx rt =>
    exact admitted_ends (loadInto_ends (beq_self_eq_true rt))
  | lbzu rt _ ra | lbzux rt ra | lhzu rt _ ra | lhzux rt ra | lhau rt _ ra | lhaux rt ra | lwzu rt _ ra | lwzux rt ra
  | lwaux rt ra | ldu rt _ ra | ldux rt ra =>
    exact admitted_ends (loadUpdate_ends (self_or rt _) (or_self_eq ra _))
  | stb | stbx | sth | sthx | stw | stwx | std | stdx | sthbrx | stwbrx =>
    exact admitted_ends (storeFrom_ends rfl)
  | stbu _ _ ra | stbux _ ra | sthu _ _ ra | sthux _ ra | stwu _ _ ra | stwux _ ra | stdu _ _ ra | stdux _ ra =>
    exact admitted_ends (storeUpdate_ends rfl (beq_self_eq_true ra))
  | lfs frt | lfsx frt =>
    exact admitted_ends (loadSingle_ends (beq_self_eq_true frt))
  | lfsu frt _ ra | lfsux frt ra =>
    exact admitted_ends (loadSingleUpdate_ends (beq_self_eq_true frt) (beq_self_eq_true ra))
  | lfd frt | lfdx frt =>
    exact admitted_ends (loadDouble_ends (beq_self_eq_true frt))
  | lfdu frt _ ra | lfdux frt ra =>
    exact admitted_ends (loadDoubleUpdate_ends (beq_self_eq_true frt) (beq_self_eq_true ra))
  | stfs | stfsx =>
    exact admitted_ends (storeSingle_ends rfl)
  | stfsu _ _ ra | stfsux _ ra =>
    exact admitted_ends (storeSingleUpdate_ends rfl (beq_self_eq_true ra))
  | stfd | stfdx =>
    exact admitted_ends (storeDouble_ends rfl)
  | stfdu _ _ ra | stfdux _ ra =>
    exact admitted_ends (storeDoubleUpdate_ends rfl (beq_self_eq_true ra))
  | stfiwx =>
    exact admitted_ends (storeInteger_ends rfl)
  | fmr frt | fneg frt | fabs frt | fnabs frt =>
    exact admitted_ends (moveFp_ends (beq_self_eq_true frt) rfl)
  | fsel frt =>
    exact admitted_ends (selectFp_ends (beq_self_eq_true frt) rfl)
  | fadd frt | fsub frt | fmul frt | fdiv frt | fmadd frt | fmsub frt | fnmadd frt | fnmsub frt | fsqrt frt | frsqrte frt
  | fctid frt | fctidz frt | fctiw frt | fctiwz frt | fcfid frt =>
    exact admitted_ends (fpDouble_ends (beq_self_eq_true frt) rfl rfl)
  | fadds frt | fsubs frt | fmuls frt | fdivs frt | fmadds frt | fmsubs frt | fnmadds frt | fnmsubs frt | fsqrts frt
  | fres frt =>
    exact admitted_ends (fpSingle_ends (beq_self_eq_true frt) rfl rfl)
  | frsp frt =>
    exact admitted_ends (fpFinish_ends (Wrote.refl.delivering _ _ (beq_self_eq_true frt) rfl) rfl rfl)
  | fcmpu | fcmpo =>
    exact admitted_ends (compareFp_ends rfl rfl)
  | mffs frt =>
    exact admitted_ends (fromFpscr_ends _ (beq_self_eq_true frt) rfl)
  | mcrfs =>
    exact admitted_ends (moveFromFpscr_ends rfl rfl)
  | mtfsfi | mtfsf | mtfsb0 | mtfsb1 =>
    exact admitted_ends (writeFpscr_ends rfl rfl)
  | andiDot ra | andisDot ra | ori ra | oris ra | xori ra | xoris ra | and ra | or ra | xor ra | nand ra | nor ra | eqv ra
  | andc ra | orc ra | extsb ra | extsh ra | extsw ra | cntlzd ra | cntlzw ra | rldicl ra | rldicr ra | rldic ra
  | rlwinm ra | rldcl ra | rldcr ra | rlwnm ra | sld ra | slw ra | srd ra | srw ra | rldimi ra | rlwimi ra =>
    exact admitted_ends (logicInto_ends (beq_self_eq_true ra) rfl)
  | sradi ra | srawi ra | srad ra | sraw ra =>
    exact admitted_ends (shiftInto_ends (beq_self_eq_true ra) rfl rfl)
  | lmw rt d ra =>
    exact admitted_ends (loadMany_ends (fills_lmw rt d ra))
  | lswi rt ra nb =>
    exact admitted_ends (loadMany_ends (fills_lswi rt ra nb))
  | lswx rt ra rb =>
    exact admitted_ends (loadStringIndexed_ends (fills_lswx rt ra rb) (self_or rt _))
  | stmw | stswi | stswx =>
    exact admitted_ends (storeMany_ends rfl)
  | lwarx rt ra rb =>
    exact admitted_ends (loadReserve_ends (beq_self_eq_true rt) (.inl ⟨rt, ra, rb, rfl⟩))
  | ldarx rt ra rb =>
    exact admitted_ends (loadReserve_ends (beq_self_eq_true rt) (.inr (.inl ⟨rt, ra, rb, rfl⟩)))
  | stwcxDot rs ra rb =>
    exact admitted_ends (storeConditional_ends (.inr (.inr (.inl ⟨rs, ra, rb, rfl⟩))) rfl (storesAt_conditional rfl))
  | stdcxDot rs ra rb =>
    exact admitted_ends (storeConditional_ends (.inr (.inr (.inr ⟨rs, ra, rb, rfl⟩))) rfl (storesAt_conditional rfl))
  | sync | dcbt | dcbtst | eieio | slbie | slbia | tlbie | tlbia | tlbsync =>
    exact admitted_ends completed_ends
  | mtspr n rs =>
    exact admitted_ends (mtspr_ends ⟨rs, rfl⟩)
  | rfi =>
    exact admitted_ends (rfi_ends rfl)
  | mtmsr rs =>
    exact admitted_ends (mtmsr_ends (.inl ⟨rs, rfl⟩))
  | mtsr sr rs =>
    exact admitted_ends (setSr_ends (.inl ⟨sr, rs, rfl⟩))
  | mtsrin rs rb =>
    exact admitted_ends (setSr_ends (.inr ⟨rs, rb, rfl⟩))
  | mtcrf =>
    exact admitted_ends (mtcrf_ends rfl)
  | mcrxr bf =>
    exact admitted_ends (mcrxr_ends rfl rfl)
  | icbi | dcbst | dcbf | dcbi =>
    exact admitted_ends cacheBlock_ends
  | isync =>
    exact admitted_ends (Wrote.refl.synchronize (.inl rfl)).completed
  | dcbz =>
    exact admitted_ends (zeroBlock_ends rfl)
  | eciwx rt ra rb =>
    exact admitted_ends (externalControl_ends (.inl ⟨rt, ra, rb, rfl⟩)
      fun _ hu hcfg => externalIn_ends ⟨rt, ra, rb, rfl⟩ (beq_self_eq_true rt) hu hcfg)
  | ecowx rs ra rb =>
    exact admitted_ends (externalControl_ends (.inr ⟨rs, ra, rb, rfl⟩)
      fun _ hu hcfg => externalOut_ends (.inr ⟨rs, ra, rb, rfl⟩) hu hcfg)

end
end Sys2Proof.Machine


/-! SUPPORT. The invariant, and that no step stops. The idea: each state operation an instruction may use keeps the
invariant and the configuration, so every instruction does; interrupts, resets and the environment keep them by the laws of
a step. -/

namespace Sys2Proof.Machine
open Laws

section
variable {i : Instr} {s u : State}

/-! ## The invariant -/

theorem writeSpr_inv (h : u.Inv) (n : SprNum) (v : Dword) : (writeSpr n v u).Inv := by
  obtain ⟨hmem, hpc, hfpscr, hmsr, hxer, hear⟩ := h
  unfold writeSpr
  split
  case h_1 => exact ⟨hmem, hpc, hfpscr, hmsr, xerStored_idem _ _, hear⟩
  case h_11 => exact ⟨hmem, hpc, hfpscr, hmsr, hxer, earStored_idem _ _⟩
  case h_16 => split <;> [skip; split <;> [skip; split]] <;> exact ⟨hmem, hpc, hfpscr, hmsr, hxer, hear⟩
  all_goals exact ⟨hmem, hpc, hfpscr, hmsr, hxer, hear⟩

theorem goTo_inv (h : u.Inv) (a : Dword) : (u.goTo a).Inv := { h with pc := State.goTo_codeAddress u a }

/-- Every operation an instruction may use keeps the invariant. -/
theorem Wrote.inv (h : Wrote i s u) (hs : s.Inv) : u.Inv := by
  induction h with
  | refl => exact hs
  | goTo _ a ih => exact goTo_inv ih a
  | setMsr _ v a _ ih =>
    exact { ih with pc := State.goTo_codeAddress _ a, msr := msrStored_idem _ _ }
  | writeSpr _ n v _ ih => exact writeSpr_inv ih n v
  | storeAll _ rs bs _ ih => exact { ih with memory := Memory.wf_writeAll ih.memory rs bs }
  | setXer _ v _ hstored ih => exact { ih with xer := hstored ih.xer }
  | withFpscr _ v _ ih => exact { ih with fpscr := fpscrSummed_idem _ _ }
  | setX | setF | setCr | setLr | setCtr | withFpReason | drawn | reserve | send | receive | flag | setSr | synchronize =>
    rename_i ih
    exact ⟨ih.memory, ih.pc, ih.fpscr, ih.msr, ih.xer, ih.ear⟩

theorem exec_inv {t : State} (hs : s.Inv) (h : exec i s = .next t) : t.Inv := by
  have hends := exec_ends i s
  rw [h] at hends
  cases hends with
  | done hw => exact hw.inv hs
  | raised hw c => exact takeInterrupt_inv (hw.inv hs) c

theorem select_inv {t : State} (hs : s.Inv) (h : select s = .next t) : t.Inv := by
  rcases select_cases h with ⟨c, rfl⟩ | rfl | rfl | ⟨i, t', -, hexec, rfl | ⟨-, -, rfl⟩⟩
  · exact takeInterrupt_inv hs c
  · exact { hs with }
  · exact hs
  · exact exec_inv hs hexec
  · exact takeInterrupt_inv (exec_inv hs hexec) _

/-- Settles O58: by the cases of a step; the instructions keep the invariant operation by operation (`Wrote.inv`). -/
theorem invariantKept : Obligations.InvariantKept := by
  unfold Obligations.InvariantKept
  intro s t hs h
  have hs' : ({ s with lastInterrupt := none } : State).Inv := { hs with }
  rcases step_cases h with ⟨-, rfl⟩ | ⟨-, u, hu, rfl⟩
  · exact environment_inv (stopped_inv hs')
  · exact environment_inv (select_inv hs' hu)

/-! ## No step stops -/

theorem writeSpr_cfg (n : SprNum) (v : Dword) (u : State) : (writeSpr n v u).cfg = u.cfg := by
  rw [writeSpr_shape]

/-- Every operation an instruction may use keeps the configuration. -/
theorem Wrote.cfg (h : Wrote i s u) : u.cfg = s.cfg := by
  induction h with
  | refl => rfl
  | writeSpr _ n v _ ih => rw [writeSpr_cfg]; exact ih
  | _ => assumption

/-- Under a total configuration an instruction ends in a next state of that configuration. -/
theorem exec_total (hs : s.cfg.total) (i : Instr) : ∃ t, exec i s = .next t ∧ t.cfg = s.cfg := by
  have hends := exec_ends i s
  generalize exec i s = r at hends
  cases hends with
  | done hw => exact ⟨_, rfl, hw.cfg⟩
  | raised hw c => exact ⟨_, rfl, hw.cfg⟩
  | fault f h => exact absurd hs h
  | refused r h => exact absurd hs h

theorem invalidForm_total (hs : s.cfg.total) : ∃ t, invalidForm s = .next t ∧ t.cfg = s.cfg := by
  unfold invalidForm
  rw [hs.1]
  exact ⟨_, rfl, rfl⟩

theorem runInstruction_total (hs : s.cfg.total) : ∃ t, runInstruction s = .next t ∧ t.cfg = s.cfg := by
  unfold runInstruction
  split
  · exact ⟨_, rfl, rfl⟩
  · next i _ =>
    obtain ⟨t, ht, hcfg⟩ := exec_total hs i
    have hassist : ∃ t', withAssist i s (exec i s) = .next t' ∧ t'.cfg = s.cfg := by
      rw [ht]
      unfold withAssist
      dsimp only
      split
      · exact ⟨_, rfl, rfl⟩
      · exact ⟨_, rfl, hcfg⟩
    obtain ⟨t', ht', hcfg'⟩ := hassist
    rw [ht']
    unfold withTrace
    dsimp only
    split
    · exact ⟨_, rfl, hcfg'⟩
    · exact ⟨_, rfl, hcfg'⟩
  · unfold reservedBitsForm
    split
    · exact ⟨_, rfl, rfl⟩
    · exact invalidForm_total hs
  · exact ⟨_, rfl, rfl⟩

theorem select_total (hs : s.cfg.total) : ∃ t, select s = .next t ∧ t.cfg = s.cfg := by
  have hite {c : Prop} [Decidable c] {a b : Result} (ha : ∃ t, a = .next t ∧ t.cfg = s.cfg)
      (hb : ∃ t, b = .next t ∧ t.cfg = s.cfg) : ∃ t, (if c then a else b) = .next t ∧ t.cfg = s.cfg := by
    split
    · exact ha
    · exact hb
  have hraise (c : Cause) : ∃ t, interrupt c s = .next t ∧ t.cfg = s.cfg := ⟨_, rfl, rfl⟩
  unfold select
  exact hite (hraise _) (hite (hite (hraise _) ⟨_, rfl, rfl⟩) (hite (hraise _) (hite (hraise _) (hite (hraise _)
    (hite ⟨_, rfl, rfl⟩ (runInstruction_total hs))))))

theorem environment_cfg (u : State) : (environment u).cfg = u.cfg := by
  rw [environment_shape]

theorem stopped_cfg (u : State) : (stopped u).cfg = u.cfg := by
  obtain ⟨-, hcfg, -⟩ := State.restarted_fields u
  unfold stopped
  split
  · exact hcfg
  · rfl

theorem step_total (hs : s.cfg.total) : ∃ t, step s = .next t ∧ t.cfg.total := by
  unfold step cycle
  dsimp only
  split
  · refine ⟨_, rfl, ?_⟩
    rwa [environment_cfg, stopped_cfg]
  · obtain ⟨t, ht, hcfg⟩ := select_total (s := { s with lastInterrupt := none }) hs
    rw [ht]
    refine ⟨_, rfl, ?_⟩
    rwa [environment_cfg, hcfg]

/-- Settles O59: an instruction stops the machine only where the configuration is not total (`exec_ends`). -/
theorem stepNeverStops : Obligations.StepNeverStops := by
  unfold Obligations.StepNeverStops
  exact ⟨fun _ hs => step_total hs, ⟨rfl, .inr ⟨rfl, rfl, rfl⟩, nofun⟩, ⟨rfl, .inr ⟨rfl, rfl, rfl⟩, nofun⟩⟩

end
end Sys2Proof.Machine


/-! SUPPORT. The frames of an instruction over user registers, storage and the supervisor state, and the isolation of problem
state. The idea: each frame is a property of the state operations an instruction may use, shown once for each of them, and
then of an interrupt. -/

namespace Sys2Proof.Machine
open Laws

section
variable {i : Instr} {s u : State}

/-! ## The user registers -/

/-- What stays of the user registers when `i` is executed in `s`. -/
structure UserFrame (i : Instr) (s t : State) : Prop where
  gpr : ∀ r : Gpr, writesGpr i s r = false → t.gpr[r.toNat]? = s.gpr[r.toNat]?
  fpr : ∀ r : Fpr, writesFpr i r = false → t.fpr[r.toNat]? = s.fpr[r.toNat]? ∧ t.fSingle r = s.fSingle r
  cr : t.cr &&& ~~~ crWritten i = s.cr &&& ~~~ crWritten i
  xer : t.xer &&& ~~~ xerWritten i = s.xer &&& ~~~ xerWritten i
  fpscr : writesFpscr i = false → t.fpscr = s.fpscr
  lr : writesLr i = false → t.lr = s.lr
  ctr : writesCtr i = false → t.ctr = s.ctr

theorem setX_gpr_other {r q : Gpr} (v : Dword) (h : q ≠ r) : (u.setX r v).gpr[q.toNat]? = u.gpr[q.toNat]? := by
  have hne : r.toNat ≠ q.toNat := fun heq => h (BitVec.eq_of_toNat_eq heq.symm)
  simp [State.setX, hne]

theorem setF_fpr_other {r q : Fpr} (v : Dword) (single : Bool) (h : q ≠ r) :
    (u.setF r v single).fpr[q.toNat]? = u.fpr[q.toNat]? ∧ (u.setF r v single).fSingle q = u.fSingle q := by
  have hne : r.toNat ≠ q.toNat := fun heq => h (BitVec.eq_of_toNat_eq heq.symm)
  have hr := r.isLt
  have hq := q.isLt
  refine ⟨by simp [State.setF, hne], ?_⟩
  have hbit : bit (withBit u.fprSingle (31 - r.toNat) single) (31 - q.toNat) = bit u.fprSingle (31 - q.toNat) := by
    rw [bit_withBit _ _ (by omega) (by omega), if_neg (by omega)]
  simp only [bit, BitVec.getMsbD, show 32 - 1 - (31 - q.toNat) = q.toNat by omega,
    show 31 - q.toNat < 32 by omega, decide_true, Bool.true_and] at hbit
  exact hbit

theorem writeSpr_gpr (n : SprNum) (v : Dword) (u : State) : (writeSpr n v u).gpr = u.gpr := by
  rw [writeSpr_shape]

theorem writeSpr_fpr (n : SprNum) (v : Dword) (u : State) :
    (writeSpr n v u).fpr = u.fpr ∧ (writeSpr n v u).fprSingle = u.fprSingle := by
  rw [writeSpr_shape]
  exact ⟨rfl, rfl⟩

theorem writeSpr_cr (n : SprNum) (v : Dword) (u : State) :
    (writeSpr n v u).cr = u.cr ∧ (writeSpr n v u).fpscr = u.fpscr := by
  rw [writeSpr_shape]
  exact ⟨rfl, rfl⟩

/-- What a write of a special register leaves of the registers that `mtspr` may name: all but the one of its number. -/
structure SprFrame (n : SprNum) (s t : State) : Prop where
  xer : n.toNat ≠ 1 → t.xer = s.xer
  lr : n.toNat ≠ 8 → t.lr = s.lr
  ctr : n.toNat ≠ 9 → t.ctr = s.ctr
  dsisr : n.toNat ≠ 18 → t.dsisr = s.dsisr
  dar : n.toNat ≠ 19 → t.dar = s.dar
  dec : n.toNat ≠ 22 → t.dec = s.dec ∧ t.decPending = s.decPending
  sdr1 : n.toNat ≠ 25 → t.sdr1 = s.sdr1
  srr0 : n.toNat ≠ 26 → t.srr0 = s.srr0
  srr1 : n.toNat ≠ 27 → t.srr1 = s.srr1
  asr : n.toNat ≠ 280 → t.asr = s.asr
  ear : n.toNat ≠ 282 → t.ear = s.ear
  tb : n.toNat ≠ 284 → n.toNat ≠ 285 → t.tb = s.tb
  fpecr : n.toNat ≠ 1022 → t.fpecr = s.fpecr
  pir : n.toNat ≠ 1023 → t.pir = s.pir
  sprg : ∀ k, k < 4 → n.toNat ≠ 272 + k → t.sprg[k]? = s.sprg[k]?
  ibat : ∀ k, k < 8 → n.toNat ≠ 528 + k → t.ibat[k]? = s.ibat[k]?
  ibatAltered : ∀ k, k < 8 → n.toNat ≠ 528 + k → t.ibatAltered[k]? = s.ibatAltered[k]?
  dbat : ∀ k, k < 8 → n.toNat ≠ 536 + k → t.dbat[k]? = s.dbat[k]?

theorem alterIbat_ibat_other {j k : Nat} (v : Dword) (h : j ≠ k) :
    (u.alterIbat j v).ibat[k]? = u.ibat[k]? ∧ (u.alterIbat j v).ibatAltered[k]? = u.ibatAltered[k]? := by
  unfold State.alterIbat
  dsimp only
  constructor
  · simp [h]
  · split
    · simp [h]
    · rfl

theorem SprFrame.refl (n : SprNum) (u : State) : SprFrame n u u :=
  ⟨fun _ => rfl, fun _ => rfl, fun _ => rfl, fun _ => rfl, fun _ => rfl, fun _ => ⟨rfl, rfl⟩, fun _ => rfl, fun _ => rfl,
    fun _ => rfl, fun _ => rfl, fun _ => rfl, fun _ _ => rfl, fun _ => rfl, fun _ => rfl, fun _ _ _ => rfl,
    fun _ _ _ => rfl, fun _ _ _ => rfl, fun _ _ _ => rfl⟩

theorem writeSpr_frame (n : SprNum) (v : Dword) (u : State) : SprFrame n u (writeSpr n v u) := by
  have hrefl := SprFrame.refl n u
  unfold writeSpr
  split
  case h_1 hn => exact { hrefl with xer := fun h => absurd hn h }
  case h_2 hn => exact { hrefl with lr := fun h => absurd hn h }
  case h_3 hn => exact { hrefl with ctr := fun h => absurd hn h }
  case h_4 hn => exact { hrefl with dsisr := fun h => absurd hn h }
  case h_5 hn => exact { hrefl with dar := fun h => absurd hn h }
  case h_6 hn => exact { hrefl with dec := fun h => absurd hn h }
  case h_7 hn => exact { hrefl with sdr1 := fun h => absurd hn h }
  case h_8 hn => exact { hrefl with srr0 := fun h => absurd hn h }
  case h_9 hn => exact { hrefl with srr1 := fun h => absurd hn h }
  case h_10 hn => exact { hrefl with asr := fun h => absurd hn h }
  case h_11 hn => exact { hrefl with ear := fun h => absurd hn h }
  case h_12 hn => exact { hrefl with tb := fun h => absurd hn h }
  case h_13 hn => exact { hrefl with tb := fun _ h => absurd hn h }
  case h_14 hn => exact { hrefl with fpecr := fun h => absurd hn h }
  case h_15 hn => exact { hrefl with pir := fun h => absurd hn h }
  case h_16 =>
    split
    · exact { hrefl with sprg := fun k _ hne => by simp [show n.toNat - 272 ≠ k by omega] }
    · split
      · have hother (k : Nat) (hne : n.toNat ≠ 528 + k) :=
          alterIbat_ibat_other (u := u) v (show n.toNat - 528 ≠ k by omega)
        exact { hrefl with
          ibat := fun k _ hne => (hother k hne).1, ibatAltered := fun k _ hne => (hother k hne).2 }
      · split
        · exact { hrefl with dbat := fun k _ hne => by simp [show n.toNat - 536 ≠ k by omega] }
        · exact hrefl

theorem writesSpr_xer {n : SprNum} {r : Gpr} : n.toNat ≠ 1 ∨ xerWritten (.mtspr n r) = 0xFFFFFFFF := by
  by_cases h : n.toNat = 1
  · exact .inr (if_pos (BitVec.eq_of_toNat_eq h))
  · exact .inl h

/-- A special register that is no destination of `mtspr` has another number. -/
theorem number_ne_of_beq {n m : SprNum} (h : (n == m) = false) : n.toNat ≠ m.toNat :=
  fun heq => beq_eq_false_iff_ne.mp h (BitVec.eq_of_toNat_eq heq)

/-- Every operation an instruction may use keeps the user registers that are no destination. -/
theorem Wrote.user (h : Wrote i s u) : UserFrame i s u := by
  induction h with
  | refl => exact ⟨fun _ _ => rfl, fun _ _ => ⟨rfl, rfl⟩, rfl, rfl, fun _ => rfl, fun _ => rfl, fun _ => rfl⟩
  | setX _ r v hr ih =>
    refine { ih with gpr := fun q hq => (setX_gpr_other v ?_).trans (ih.gpr q hq) }
    rintro rfl
    rw [hr] at hq
    cases hq
  | setF _ r v single hr ih =>
    refine { ih with fpr := fun q hq => ?_ }
    have hne : q ≠ r := by
      rintro rfl
      rw [hr] at hq
      cases hq
    obtain ⟨hv, hs⟩ := setF_fpr_other v single hne
    obtain ⟨ihv, ihs⟩ := ih.fpr q hq
    exact ⟨hv.trans ihv, hs.trans ihs⟩
  | setCr _ v hv ih => exact { ih with cr := hv.trans ih.cr }
  | setXer _ v hv _ ih => exact { ih with xer := hv.trans ih.xer }
  | setLr _ v hi ih => exact { ih with lr := fun h => absurd hi (by rw [h]; nofun) }
  | setCtr _ v hi ih => exact { ih with ctr := fun h => absurd hi (by rw [h]; nofun) }
  | withFpscr _ v hi ih => exact { ih with fpscr := fun h => absurd hi (by rw [h]; nofun) }
  | writeSpr _ n v hi ih =>
    obtain ⟨r, rfl⟩ := hi
    rename_i u _
    have hframe := writeSpr_frame n v u
    obtain ⟨hfpr, hsingle⟩ := writeSpr_fpr n v u
    obtain ⟨hcr, hfpscr⟩ := writeSpr_cr n v u
    refine ⟨fun q hq => ?_, fun q hq => ?_, ?_, ?_, fun h => ?_, fun h => ?_, fun h => ?_⟩
    · rw [writeSpr_gpr]; exact ih.gpr q hq
    · rw [State.fSingle, hfpr, hsingle]; exact ih.fpr q hq
    · rw [hcr]; exact ih.cr
    · rcases writesSpr_xer (n := n) (r := r) with hn | hx
      · rw [hframe.xer hn]; exact ih.xer
      · rw [hx]; exact (BitVec.and_zero (x := _)).trans (BitVec.and_zero (x := _)).symm
    · rw [hfpscr]; exact ih.fpscr h
    · rw [hframe.lr (number_ne_of_beq h)]; exact ih.lr h
    · rw [hframe.ctr (number_ne_of_beq h)]; exact ih.ctr h
  | withFpReason | drawn | goTo | storeAll | reserve | send | receive | flag | setSr | setMsr | synchronize =>
    rename_i ih
    exact { ih with }

/-- Settles O55: a user register changes only by an operation of its own (`Wrote.user`), and never by an interrupt. -/
theorem registerFrame : Obligations.RegisterFrame := by
  unfold Obligations.RegisterFrame
  intro i s t h
  have hends := exec_ends i s
  rw [h] at hends
  cases hends with
  | done hw =>
    obtain ⟨hgpr, hfpr, hcr, hxer, hfpscr, hlr, hctr⟩ := hw.user
    exact ⟨hgpr, hfpr, hcr, hxer, hfpscr, hlr, hctr⟩
  | raised hw c =>
    obtain ⟨hgpr, hfpr, hcr, hxer, hfpscr, hlr, hctr⟩ := hw.user
    exact ⟨hgpr, hfpr, hcr, hxer, hfpscr, hlr, hctr⟩

/-! ## Storage -/

/-- Every operation an instruction may use keeps the bytes it does not store to. -/
theorem Wrote.memory (h : Wrote i s u) (hs : s.mem.wf = true) :
    u.mem.wf = true ∧ ∀ a : Dword, a ∉ storesAt i s → u.mem.read a = s.mem.read a := by
  induction h with
  | refl => exact ⟨hs, fun _ _ => rfl⟩
  | storeAll _ rs bs hrs ih =>
    obtain ⟨hwf, hread⟩ := ih
    refine ⟨Memory.wf_writeAll hwf rs bs, fun a ha => ?_⟩
    exact (Memory.read_writeAll_other hwf fun hmem => ha (hrs a hmem)).trans (hread a ha)
  | writeSpr _ n v _ ih =>
    rw [writeSpr_shape]
    exact ih
  | _ => assumption

/-- Settles O56: storage changes only where the instruction stores (`Wrote.memory`), and never by an interrupt. -/
theorem memoryFrame : Obligations.MemoryFrame := by
  unfold Obligations.MemoryFrame
  intro i s t hs h
  have hends := exec_ends i s
  rw [h] at hends
  cases hends with
  | done hw => exact hw.memory hs
  | raised hw c => exact hw.memory hs

end
end Sys2Proof.Machine


namespace Sys2Proof.Machine
open Laws

section
variable {i : Instr} {s u : State}

/-! ## The supervisor state -/

/-- The instruction is no `mtspr` of number `k`. -/
def NotSpr (i : Instr) (k : Nat) : Prop := ∀ n r, i = .mtspr n r → n.toNat ≠ k

/-- What stays of the supervisor state, the requests, the reservation and the model's own fields when `i` is executed in
`s` and no interrupt is taken. -/
structure SystemFrameOf (i : Instr) (s t : State) : Prop where
  cfg : t.cfg = s.cfg
  env : t.env = s.env
  extPending : t.extPending = s.extPending
  sresetReq : t.sresetReq = s.sresetReq
  mcheckReq : t.mcheckReq = s.mcheckReq
  checkstop : t.checkstop = s.checkstop
  lastInterrupt : t.lastInterrupt = s.lastInterrupt
  msr : ¬ WritesMsr i → t.msr = s.msr
  srr0 : NotSpr i 26 → t.srr0 = s.srr0
  srr1 : NotSpr i 27 → t.srr1 = s.srr1
  dsisr : NotSpr i 18 → t.dsisr = s.dsisr
  dar : NotSpr i 19 → t.dar = s.dar
  sdr1 : NotSpr i 25 → t.sdr1 = s.sdr1
  asr : NotSpr i 280 → t.asr = s.asr
  ear : NotSpr i 282 → t.ear = s.ear
  dec : NotSpr i 22 → t.dec = s.dec ∧ t.decPending = s.decPending
  tb : NotSpr i 284 → NotSpr i 285 → t.tb = s.tb
  pir : NotSpr i 1023 → t.pir = s.pir
  fpecr : NotSpr i 1022 → s.cfg.fpecrPresent = false ∨ writesFpscr i = false → t.fpecr = s.fpecr
  sprg : ∀ k, k < 4 → NotSpr i (272 + k) → t.sprg[k]? = s.sprg[k]?
  ibat : ∀ k, k < 8 → NotSpr i (528 + k) → t.ibat[k]? = s.ibat[k]?
  dbat : ∀ k, k < 8 → NotSpr i (536 + k) → t.dbat[k]? = s.dbat[k]?
  sr : ¬ MovesToSr i → t.sr = s.sr
  reserve : ¬ Reserves i → t.reserve = s.reserve
  extIn : (∀ r a b, i ≠ .eciwx r a b) → t.extIn = s.extIn
  extOut : ¬ ControlsExternal i → t.extOut = s.extOut
  flagged : ¬ MayFlag i → t.flagged = s.flagged
  ibatAltered : i ≠ .isync → i ≠ .rfi → ∀ k, k < 8 → NotSpr i (528 + k) → t.ibatAltered[k]? = s.ibatAltered[k]?

theorem SystemFrameOf.refl : SystemFrameOf i s s :=
  ⟨rfl, rfl, rfl, rfl, rfl, rfl, rfl, fun _ => rfl, fun _ => rfl, fun _ => rfl, fun _ => rfl, fun _ => rfl, fun _ => rfl,
    fun _ => rfl, fun _ => rfl, fun _ => ⟨rfl, rfl⟩, fun _ _ => rfl, fun _ => rfl, fun _ _ => rfl, fun _ _ _ => rfl,
    fun _ _ _ => rfl, fun _ _ _ => rfl, fun _ => rfl, fun _ => rfl, fun _ => rfl, fun _ => rfl, fun _ => rfl,
    fun _ _ _ _ _ => rfl⟩

/-- A write of a special register keeps the fields that are no special register. -/
theorem writeSpr_system (n : SprNum) (v : Dword) (u : State) :
    { writeSpr n v u with
      xer := u.xer, lr := u.lr, ctr := u.ctr, dsisr := u.dsisr, dar := u.dar, dec := u.dec, decPending := u.decPending
      sdr1 := u.sdr1, srr0 := u.srr0, srr1 := u.srr1, asr := u.asr, ear := u.ear, tb := u.tb, fpecr := u.fpecr
      pir := u.pir, sprg := u.sprg, ibat := u.ibat, dbat := u.dbat, ibatAltered := u.ibatAltered } = u := by
  rw [writeSpr_shape]

/-- `mtspr` keeps every supervisor register but the one it names. -/
theorem SystemFrameOf.writeSpr {n : SprNum} {r : Gpr} (v : Dword) (h : SystemFrameOf (.mtspr n r) s u) :
    SystemFrameOf (.mtspr n r) s (writeSpr n v u) := by
  have hf := writeSpr_frame n v u
  have hn {k : Nat} (hk : NotSpr (.mtspr n r) k) : n.toNat ≠ k := hk n r rfl
  have hu := writeSpr_system n v u
  generalize Machine.writeSpr n v u = w at hf hu ⊢
  rw [← hu] at h
  exact
    { h with
      srr0 := fun hk => (hf.srr0 (hn hk)).trans (h.srr0 hk)
      srr1 := fun hk => (hf.srr1 (hn hk)).trans (h.srr1 hk)
      dsisr := fun hk => (hf.dsisr (hn hk)).trans (h.dsisr hk)
      dar := fun hk => (hf.dar (hn hk)).trans (h.dar hk)
      sdr1 := fun hk => (hf.sdr1 (hn hk)).trans (h.sdr1 hk)
      asr := fun hk => (hf.asr (hn hk)).trans (h.asr hk)
      ear := fun hk => (hf.ear (hn hk)).trans (h.ear hk)
      dec := fun hk => ⟨(hf.dec (hn hk)).1.trans (h.dec hk).1, (hf.dec (hn hk)).2.trans (h.dec hk).2⟩
      tb := fun hk hk' => (hf.tb (hn hk) (hn hk')).trans (h.tb hk hk')
      pir := fun hk => (hf.pir (hn hk)).trans (h.pir hk)
      fpecr := fun hk hp => (hf.fpecr (hn hk)).trans (h.fpecr hk hp)
      sprg := fun k hlt hk => (hf.sprg k hlt (hn hk)).trans (h.sprg k hlt hk)
      ibat := fun k hlt hk => (hf.ibat k hlt (hn hk)).trans (h.ibat k hlt hk)
      dbat := fun k hlt hk => (hf.dbat k hlt (hn hk)).trans (h.dbat k hlt hk)
      ibatAltered := fun hi hr k hlt hk => (hf.ibatAltered k hlt (hn hk)).trans (h.ibatAltered hi hr k hlt hk) }

/-- Every operation an instruction may use keeps the supervisor state that its rule does not name. -/
theorem Wrote.system (h : Wrote i s u) : SystemFrameOf i s u := by
  induction h with
  | refl => exact .refl
  | withFpReason _ occurred hi ih =>
    refine { ih with fpecr := fun hk hp => (withFpReason_fpecr_eq (.inr ?_)).trans (ih.fpecr hk hp) }
    rw [ih.cfg]
    exact hp.resolve_right (by simp [hi])
  | reserve _ r hi ih => exact { ih with reserve := fun h => absurd hi h }
  | send _ out hi ih => exact { ih with extOut := fun h => absurd hi h }
  | receive _ rest hi ih =>
    obtain ⟨r, a, b, hi⟩ := hi
    exact { ih with extIn := fun h => absurd hi (h r a b) }
  | flag _ hi ih => exact { ih with flagged := fun h => absurd hi h }
  | writeSpr _ n v hi ih =>
    obtain ⟨r, rfl⟩ := hi
    exact ih.writeSpr v
  | setSr _ n v hi ih => exact { ih with sr := fun h => absurd hi h }
  | setMsr _ v a hi ih => exact { ih with msr := fun h => absurd hi h }
  | synchronize _ hi ih =>
    exact { ih with ibatAltered := fun h1 h2 => absurd hi (fun h => h.elim h1 h2) }
  | setX | setF | setCr | setXer | setLr | setCtr | withFpscr | drawn | goTo | storeAll =>
    rename_i ih
    exact { ih with }

/-- Settles O57: the supervisor state changes only by an operation of its own (`Wrote.system`) or by the interrupt, which
writes the registers of interrupt entry. -/
theorem systemFrame : Obligations.SystemFrame := by
  unfold Obligations.SystemFrame
  intro i s t hlast h notSpr notReserve notSr notExternal
  have hends := exec_ends i s
  rw [h] at hends
  have hmsr (h1 : ∀ r, i ≠ .mtmsr r) (h2 : i ≠ .rfi) : ¬ WritesMsr i := by
    rintro (⟨r, hr⟩ | hr)
    · exact h1 r hr
    · exact h2 hr
  have hsr (h : notSr) : ¬ MovesToSr i := by
    rintro (⟨n, r, hr⟩ | ⟨r, b, hr⟩)
    · exact h.1 n r hr
    · exact h.2 r b hr
  have hext (h : notExternal) : ¬ ControlsExternal i := by
    rintro (⟨r, a, b, hr⟩ | ⟨r, a, b, hr⟩)
    · exact h.1 r a b hr
    · exact h.2 r a b hr
  have hres (h : notReserve) : ¬ Reserves i := by
    obtain ⟨h1, h2, h3, h4⟩ := h
    rintro (⟨r, a, b, hr⟩ | ⟨r, a, b, hr⟩ | ⟨r, a, b, hr⟩ | ⟨r, a, b, hr⟩)
    · exact h1 r a b hr
    · exact h2 r a b hr
    · exact h3 r a b hr
    · exact h4 r a b hr
  have hflag (h1 : notSr) (h2 : notExternal) (h3 : ∀ n r, i ≠ .mtspr n r) (h4 : ∀ r, i ≠ .mtmsr r) (h5 : i ≠ .rfi) :
      ¬ MayFlag i := by
    rintro (h | h | ⟨n, r, h⟩ | h)
    · exact hsr h1 h
    · exact hext h2 h
    · exact h3 n r h
    · exact hmsr h4 h5 h
  cases hends with
  | done hw =>
    have f := hw.system
    exact ⟨f.cfg, f.env, f.extPending, f.sresetReq, f.mcheckReq, f.checkstop, fun _ h1 h2 => f.msr (hmsr h1 h2),
      fun _ => ⟨f.srr0, f.srr1, f.dsisr, f.dar⟩, f.sdr1, f.asr, f.ear, f.dec, f.tb, f.pir, f.fpecr, f.sprg, f.ibat, f.dbat,
      fun h => f.sr (hsr h), fun h => f.reserve (hres h), f.extIn, fun h => f.extOut (hext h),
      fun h1 h2 h3 h4 h5 => f.flagged (hflag h1 h2 h3 h4 h5), fun _ => f.ibatAltered⟩
  | @raised u hw c hc hf =>
    have f := hw.system
    obtain ⟨hreset, hcheck, hdec⟩ := hc
    refine ⟨f.cfg, f.env, f.extPending, ?_, ?_, f.checkstop, nofun, nofun, f.sdr1, f.asr, f.ear, fun hk => ?_, f.tb, f.pir,
      fun hk hp => ?_, f.sprg, f.ibat, f.dbat, fun h => f.sr (hsr h), fun h => f.reserve (hres h), f.extIn,
      fun h => f.extOut (hext h), fun h1 h2 h3 h4 h5 => f.flagged (hflag h1 h2 h3 h4 h5), nofun⟩
    · rw [← f.sresetReq]; simp [takeInterrupt, hreset]
    · rw [← f.mcheckReq]; simp [takeInterrupt, hcheck]
    · obtain ⟨hd, hp⟩ := f.dec hk
      exact ⟨hd, by rw [← hp]; simp [takeInterrupt, hdec]⟩
    · refine (cause_fpecr_eq ?_).trans (f.fpecr hk hp)
      rcases hp with hp | hp
      · exact .inr (by rw [f.cfg, hp])
      · exact .inl (by simpa [hp] using hf)

/-- An instruction that is none of the reservation instructions keeps the reservation. -/
theorem exec_keeps_reserve {t : State} (h : exec i s = .next t) (hi : ¬ Reserves i) : t.reserve = s.reserve := by
  have hends := exec_ends i s
  rw [h] at hends
  cases hends with
  | done hw => exact hw.system.reserve hi
  | raised hw c => exact hw.system.reserve hi

end
end Sys2Proof.Machine


namespace Sys2Proof.Machine
open Laws

section
variable {i : Instr} {s u : State}

/-! ## Problem state -/

/-- The supervisor state is as it was, and no interrupt has been taken since. -/
structure Isolated (s t : State) : Prop where
  cfg : t.cfg = s.cfg
  lastInterrupt : t.lastInterrupt = s.lastInterrupt
  msr : t.msr = s.msr
  srr0 : t.srr0 = s.srr0
  srr1 : t.srr1 = s.srr1
  dsisr : t.dsisr = s.dsisr
  dar : t.dar = s.dar
  sprg : t.sprg = s.sprg
  sdr1 : t.sdr1 = s.sdr1
  asr : t.asr = s.asr
  ear : t.ear = s.ear
  ibat : t.ibat = s.ibat
  dbat : t.dbat = s.dbat
  sr : t.sr = s.sr
  pir : t.pir = s.pir
  fpecr : s.cfg.fpecrPresent = false → t.fpecr = s.fpecr

theorem vector_ext {α : Type} {n : Nat} {v w : Vector α n} (h : ∀ k, k < n → v[k]? = w[k]?) : v = w :=
  Vector.ext fun k hk => by simpa [hk] using h k hk

theorem Isolated.refl : Isolated s s :=
  ⟨rfl, rfl, rfl, rfl, rfl, rfl, rfl, rfl, rfl, rfl, rfl, rfl, rfl, rfl, rfl, fun _ => rfl⟩

/-- What is executed in problem state is not privileged. -/
theorem not_privileged_of_execute (h : admission i s = .execute) (hpr : s.msrBit msrPR = true) :
    (i.req s.cfg).priv = false := by
  obtain ⟨-, hpriv, -⟩ := (admission_execute_iff i s).mp h
  by_contra hne
  rw [hpriv (by simpa using hne)] at hpr
  cases hpr

/-- No `mtspr` of a number with the bit of weight 16 is executed in problem state (10_state.md R56). -/
theorem notSpr_of_execute (h : admission i s = .execute) (hpr : s.msrBit msrPR = true) {k : Nat}
    (hk : k.testBit 4 = true) : NotSpr i k := by
  rintro n r rfl rfl
  have hpriv : sprPrivileged s.cfg (mtsprDefined s.cfg n) n = false := not_privileged_of_execute h hpr
  obtain ⟨-, -, -, -, hform⟩ := (admission_execute_iff _ s).mp h
  have hdefined : mtsprDefined s.cfg n = true := hform
  have hbit : n.getLsbD 4 = true := hk
  rw [sprPrivileged, hbit, hdefined] at hpriv
  cases hpriv

theorem not_writesMsr_of_execute (h : admission i s = .execute) (hpr : s.msrBit msrPR = true) : ¬ WritesMsr i := by
  have hpriv := not_privileged_of_execute h hpr
  rintro (⟨r, rfl⟩ | rfl) <;> exact absurd hpriv nofun

theorem not_movesToSr_of_execute (h : admission i s = .execute) (hpr : s.msrBit msrPR = true) : ¬ MovesToSr i := by
  have hpriv := not_privileged_of_execute h hpr
  rintro (⟨n, r, rfl⟩ | ⟨r, b, rfl⟩) <;> exact absurd hpriv nofun

/-- The numbers of the SPRGs and of the BAT registers have the bit of weight 16. -/
theorem privileged_numbers : (∀ k < 4, (272 + k).testBit 4 = true) ∧ (∀ k < 8, (528 + k).testBit 4 = true) ∧
    ∀ k < 8, (536 + k).testBit 4 = true := by
  decide

theorem Wrote.isolated (h : Wrote i s u) (hadm : admission i s = .execute) (hpr : s.msrBit msrPR = true) :
    Isolated s u := by
  have f := h.system
  have hspr {k : Nat} (hk : k.testBit 4 = true) : NotSpr i k := notSpr_of_execute hadm hpr hk
  obtain ⟨hsprg, hibat, hdbat⟩ := privileged_numbers
  exact {
    cfg := f.cfg, lastInterrupt := f.lastInterrupt, msr := f.msr (not_writesMsr_of_execute hadm hpr)
    srr0 := f.srr0 (hspr rfl), srr1 := f.srr1 (hspr rfl), dsisr := f.dsisr (hspr rfl), dar := f.dar (hspr rfl)
    sdr1 := f.sdr1 (hspr rfl), asr := f.asr (hspr rfl), ear := f.ear (hspr rfl), pir := f.pir (hspr rfl)
    sprg := vector_ext fun k hk => f.sprg k hk (hspr (hsprg k hk))
    ibat := vector_ext fun k hk => f.ibat k hk (hspr (hibat k hk))
    dbat := vector_ext fun k hk => f.dbat k hk (hspr (hdbat k hk))
    sr := f.sr (not_movesToSr_of_execute hadm hpr)
    fpecr := fun hp => f.fpecr (hspr rfl) (.inl hp) }

/-- An instruction in problem state keeps the supervisor state, and then perhaps takes an interrupt. -/
theorem exec_isolated {t : State} (hpr : s.msrBit msrPR = true) (h : exec i s = .next t) :
    ∃ u, Isolated s u ∧ (t = u ∨ ∃ c, t = takeInterrupt c u) := by
  have hends := exec_ends i s
  obtain ⟨body, hbody⟩ := exec_eq_admitted i s
  rcases admitted_cases (hbody ▸ h) with ⟨hadm, -⟩ | ⟨c, -, rfl⟩ | ⟨-, -, rfl⟩
  · rw [h] at hends
    cases hends with
    | done hw => exact ⟨_, hw.isolated hadm hpr, .inl rfl⟩
    | raised hw c => exact ⟨_, hw.isolated hadm hpr, .inr ⟨c, rfl⟩⟩
  · exact ⟨s, .refl, .inr ⟨c, rfl⟩⟩
  · exact ⟨s, .refl, .inr ⟨_, rfl⟩⟩

theorem select_isolated {t : State} (hpr : s.msrBit msrPR = true) (h : select s = .next t) :
    ∃ u, Isolated s u ∧ (t = u ∨ ∃ c, t = takeInterrupt c u) := by
  rcases select_cases h with ⟨c, rfl⟩ | rfl | rfl | ⟨i, t', -, hexec, rfl | ⟨-, hlast, rfl⟩⟩
  · exact ⟨s, .refl, .inr ⟨c, rfl⟩⟩
  · exact ⟨{ s with checkstop := true }, { Isolated.refl (s := s) with }, .inl rfl⟩
  · exact ⟨_, .refl, .inl rfl⟩
  · exact exec_isolated hpr hexec
  · obtain ⟨u, hu, rfl | ⟨c, rfl⟩⟩ := exec_isolated hpr hexec
    · exact ⟨_, hu, .inr ⟨_, rfl⟩⟩
    · cases hlast

theorem environment_isolated (h : Isolated s u) : Isolated s (environment u) := by
  rw [environment_shape]
  exact { h with }

/-- The MSR of interrupt entry is in supervisor state. -/
theorem interruptMsr_pr (k : IntrKind) (s : State) : bit (interruptMsr k s) msrPR = false := by
  unfold interruptMsr
  have hbit (m n : Dword) (hm : bit m msrPR = false) : bit (n &&& m) msrPR = false := by
    simp only [bit, BitVec.getMsbD_and] at hm ⊢
    rw [hm, Bool.and_false]
  have hor {m n : Dword} (hm : bit m msrPR = false) (hn : bit n msrPR = false) : bit (m ||| n) msrPR = false := by
    simp only [bit, BitVec.getMsbD_or] at hm hn ⊢
    rw [hm, hn]
    rfl
  refine hor (hor (hor ?_ (hbit _ _ rfl)) ?_) ?_
  · split <;> rfl
  · split <;> rfl
  · split
    · rfl
    · exact hbit _ _ rfl

/-- Settles O60: no instruction that is executed in problem state writes a supervisor register (`Wrote.isolated`), and
interrupt entry depends on the MSR and the configuration alone. -/
theorem problemStateIsolation : Obligations.ProblemStateIsolation := by
  unfold Obligations.ProblemStateIsolation
  intro s t hstop hpr h
  rcases step_cases h with ⟨hstop', -⟩ | ⟨-, v, hv, rfl⟩
  · rw [hstop] at hstop'; cases hstop'
  · obtain ⟨u, hu, rfl | ⟨c, rfl⟩⟩ := select_isolated (s := { s with lastInterrupt := none }) hpr hv
    · have f := environment_isolated hu
      exact .inr ⟨f.lastInterrupt, f.msr, f.srr0, f.srr1, f.dsisr, f.dar, f.sprg, f.sdr1, f.asr, f.ear, f.ibat, f.dbat, f.sr,
        f.pir, f.fpecr⟩
    · have hcfg : u.cfg = s.cfg := hu.cfg
      have hmsr : u.msr = s.msr := hu.msr
      have hentry : interruptMsr c.kind u = interruptMsr c.kind s := by
        unfold interruptMsr State.msrBit
        rw [hcfg, hmsr]
      refine .inl ⟨c.kind, ?_, ?_, ?_, ?_⟩ <;> rw [environment_shape]
      · rfl
      · exact hentry
      · exact interruptMsr_pr c.kind u
      · show u.narrow (u.vectorBase + vectorOffset c.kind) &&& ~~~ 3 = _
        unfold State.narrow State.vectorBase State.msrBit
        rw [hcfg, hmsr]

end
end Sys2Proof.Machine


/-! SUPPORT. The fixed-point instructions. The idea: an instruction without requirements runs its body in every state, one of
the 64-bit implementations where the implementation is such; what the body computes is then what its rule says, up to the
names of the operations. -/

namespace Sys2Proof.Machine
open Laws

section
variable {i : Instr} {s : State} {body : Result}

/-! ## Instructions that are always admitted -/

theorem exec_of_admission (hexec : exec i s = admitted i s body) (hadm : admission i s = .execute) : exec i s = body :=
  hexec.trans (admitted_of_execute hadm body)

/-- An instruction without requirements runs its body. -/
theorem exec_free (hexec : exec i s = admitted i s body) (hr : i.req s.cfg = {}) (hf : i.formValid = true)
    (hh : i.formValidHere s.cfg s.xer = true) : exec i s = body :=
  exec_of_admission hexec (admission_free hr hf hh)

theorem implemented_of_only64 {r : Req} {c : Config} (hr : r.avail = .only64) (hp : r.present = true)
    (hc : c.impl64 = true) : implemented r c = true := by
  simp [implemented, hr, hp, hc]

/-- An instruction of the 64-bit implementations runs its body on such an implementation. -/
theorem exec_only64 (hexec : exec i s = admitted i s body) (h64 : s.cfg.impl64 = true)
    (hr : i.req s.cfg = { avail := .only64 }) (hf : i.formValid = true) (hh : i.formValidHere s.cfg s.xer = true) :
    exec i s = body := by
  refine exec_of_admission hexec ((admission_execute_iff i s).mpr ⟨?_, ?_, ?_, hf, hh⟩)
  · exact implemented_of_only64 (by rw [hr]) (by rw [hr]) h64
  · rw [hr]; nofun
  · rw [hr]; nofun

end

/-! ## Sums -/

/-- Settles O7: the sum instructions run `sumInto`; a carry of 1 into the sum of a complement is a difference. -/
theorem sums : Obligations.Sums := by
  unfold Obligations.Sums
  have hnot (a b : Dword) : ~~~ a + b + (b1 true).setWidth 64 = b - a := by
    show ~~~ a + b + 1 = b - a
    bv_omega
  have hzero (a b : Dword) : a + b + (b1 false).setWidth 64 = a + b := BitVec.add_zero _
  constructor
  · intro s rt ra rb si oe rc
    refine ⟨exec_free rfl rfl rfl rfl, exec_free rfl rfl rfl rfl, ?_, ?_, ?_⟩
    · have h : exec (.add rt ra rb oe rc) s = sumInto rt (s.x ra) (s.x rb) false false oe rc s := exec_free rfl rfl rfl rfl
      rw [h, sumInto, hzero]
      rfl
    · have h : exec (.subf rt ra rb oe rc) s = sumInto rt (~~~ s.x ra) (s.x rb) true false oe rc s :=
        exec_free rfl rfl rfl rfl
      rw [h, sumInto, hnot]
      rfl
    · have h : exec (.neg rt ra oe rc) s = sumInto rt (~~~ s.x ra) 0 true false oe rc s := exec_free rfl rfl rfl rfl
      rw [h, sumInto, hnot, show (0 : Dword) - s.x ra = - s.x ra from BitVec.zero_sub _]
      rfl
  · intro s rt ra rb si oe rc sum
    have hsum (a b : Dword) (c oe rc : Bool) : sumInto rt a b c true oe rc s = .next (sum a b c oe rc).advance := by
      cases c <;> rfl
    refine ⟨?_, ?_, ?_, ?_, ?_, ?_, ?_, ?_, ?_, ?_, ?_⟩ <;> rw [← hsum] <;> exact exec_free rfl rfl rfl rfl

/-! ## Logical instructions -/

/-- Settles O11: the logical instructions run `logicInto` with the result of their rule. -/
theorem logicals : Obligations.Logicals := by
  unfold Obligations.Logicals
  intro s ra rs rb ui rc into
  refine ⟨?_, ?_, ?_, ?_, ?_, ?_, ?_, ?_, ?_, ?_, ?_, ?_, ?_, ?_, ?_, ?_, ?_, fun h64 => ⟨?_, ?_⟩⟩
  case refine_18 => exact exec_only64 rfl h64 rfl rfl rfl
  case refine_19 => exact exec_only64 rfl h64 rfl rfl rfl
  all_goals exact exec_free rfl rfl rfl rfl

/-! ## Compares and traps -/

/-- A signed comparison result by the signed order of the operands. -/
theorem compareBits_signed {w : Nat} (s : State) (x y : BitVec w) :
    s.compareBits (decide (x.toInt < y.toInt)) (decide (y.toInt < x.toInt)) =
      crBits (x.slt y) (y.slt x) (x == y) s.so := by
  have heq : (!x.slt y && !y.slt x) = (x == y) := by
    rw [Bool.eq_iff_iff, beq_iff_eq, ← BitVec.toInt_inj]
    simp only [BitVec.slt, Bool.and_eq_true, Bool.not_eq_true', decide_eq_false_iff_not]
    omega
  rw [← heq]
  rfl

/-- An unsigned comparison result by the unsigned order of the operands. -/
theorem compareBits_unsigned {w : Nat} (s : State) (x y : BitVec w) :
    s.compareBits (decide (x.toNat < y.toNat)) (decide (y.toNat < x.toNat)) =
      crBits (x.ult y) (y.ult x) (x == y) s.so := by
  have heq : (!x.ult y && !y.ult x) = (x == y) := by
    rw [Bool.eq_iff_iff, beq_iff_eq, BitVec.toNat_eq]
    simp only [BitVec.ult, Bool.and_eq_true, Bool.not_eq_true', decide_eq_false_iff_not]
    omega
  rw [← heq]
  rfl

theorem sextWord_toInt (v : Dword) : (sextWord v).toInt = (lowWord v).toInt :=
  BitVec.toInt_signExtend_of_le (by omega)

theorem zext_toNat (v : Word) : (zext v).toNat = v.toNat :=
  BitVec.toNat_setWidth_of_le (by omega)

theorem lowWord_signExtend (v : BitVec 16) : lowWord (v.signExtend 64) = v.signExtend 32 := by
  apply BitVec.eq_of_getLsbD_eq
  intro k hk
  simp only [lowWord, BitVec.getLsbD_setWidth, BitVec.getLsbD_signExtend, hk, show k < 64 by omega, decide_true,
    Bool.true_and]

theorem lowWord_setWidth (v : BitVec 16) : lowWord (v.setWidth 64) = v.setWidth 32 := by
  apply BitVec.eq_of_getLsbD_eq
  intro k hk
  simp only [lowWord, BitVec.getLsbD_setWidth, hk, show k < 64 by omega, decide_true, Bool.true_and]

section
variable {s : State} {bf : CrField}

theorem compareSignedBy_words (a b : Dword) :
    compareSignedBy bf false a b s =
      .next (s.setCrField bf (crBits ((lowWord a).slt (lowWord b)) ((lowWord b).slt (lowWord a))
        (lowWord a == lowWord b) s.so)).advance := by
  rw [← compareBits_signed, ← sextWord_toInt, ← sextWord_toInt]
  rfl

theorem compareUnsignedBy_words (a b : Dword) :
    compareUnsignedBy bf false a b s =
      .next (s.setCrField bf (crBits ((lowWord a).ult (lowWord b)) ((lowWord b).ult (lowWord a))
        (lowWord a == lowWord b) s.so)).advance := by
  rw [← compareBits_unsigned, ← zext_toNat, ← zext_toNat]
  rfl

theorem compareSignedBy_doublewords (a b : Dword) :
    compareSignedBy bf true a b s =
      .next (s.setCrField bf (crBits (a.slt b) (b.slt a) (a == b) s.so)).advance := by
  rw [← compareBits_signed]
  rfl

theorem compareUnsignedBy_doublewords (a b : Dword) :
    compareUnsignedBy bf true a b s =
      .next (s.setCrField bf (crBits (a.ult b) (b.ult a) (a == b) s.so)).advance := by
  rw [← compareBits_unsigned]
  rfl

theorem trapIf_eq (taken : Bool) :
    trapIf taken s = .next (if taken then takeInterrupt (.program .trap) s else s.advance) := by
  cases taken <;> rfl

end

/-- Settles O10: the compares and traps run their bodies, whose orders are those of the words or doublewords. -/
theorem comparesAndTraps : Obligations.ComparesAndTraps := by
  unfold Obligations.ComparesAndTraps
  constructor
  · intro s bf ra rb v field
    refine ⟨?_, ?_, ?_, ?_, fun h64 => ⟨?_, ?_, ?_, ?_⟩⟩
    · rw [← lowWord_signExtend]
      exact (exec_free rfl rfl rfl rfl).trans (compareSignedBy_words (s.x ra) (simm v))
    · exact (exec_free rfl rfl rfl rfl).trans (compareSignedBy_words (s.x ra) (s.x rb))
    · rw [← lowWord_setWidth]
      exact (exec_free rfl rfl rfl rfl).trans (compareUnsignedBy_words (s.x ra) (uimm v))
    · exact (exec_free rfl rfl rfl rfl).trans (compareUnsignedBy_words (s.x ra) (s.x rb))
    · exact (exec_free (i := .cmpi bf true ra v) rfl rfl rfl h64).trans (compareSignedBy_doublewords _ _)
    · exact (exec_free (i := .cmp bf true ra rb) rfl rfl rfl h64).trans (compareSignedBy_doublewords _ _)
    · exact (exec_free (i := .cmpli bf true ra v) rfl rfl rfl h64).trans (compareUnsignedBy_doublewords _ _)
    · exact (exec_free (i := .cmpl bf true ra rb) rfl rfl rfl h64).trans (compareUnsignedBy_doublewords _ _)
  · intro s cond ra rb si met outcome
    refine ⟨?_, ?_, fun h64 => ⟨?_, ?_⟩⟩
    · rw [← lowWord_signExtend]
      exact (exec_free rfl rfl rfl rfl).trans (trapIf_eq (trapTaken cond (lowWord (s.x ra)) (lowWord (simm si))))
    · exact (exec_free rfl rfl rfl rfl).trans (trapIf_eq (trapTaken cond (lowWord (s.x ra)) (lowWord (s.x rb))))
    · exact (exec_only64 rfl h64 rfl rfl rfl).trans (trapIf_eq (trapTaken cond (s.x ra) (simm si)))
    · exact (exec_only64 rfl h64 rfl rfl rfl).trans (trapIf_eq (trapTaken cond (s.x ra) (s.x rb)))

/-! ## Products and quotients -/

theorem not_fitsSigned (w : Nat) (p : Int) :
    (!fitsSigned w p) = decide (p < -2 ^ (w - 1) ∨ 2 ^ (w - 1) ≤ p) := by
  unfold fitsSigned
  rw [← decide_not, decide_eq_decide]
  omega

theorem quotUndefined_iff {w : Nat} (a b : BitVec w) :
    quotUndefined a b = true ↔ b = 0 ∨ (a = BitVec.intMin w ∧ b = BitVec.allOnes w) := by
  simp [quotUndefined]

/-- Settles O9: the multiplications and divisions run their bodies; a quotient is defined where `quotUndefined` says not. -/
theorem productsAndQuotients : Obligations.ProductsAndQuotients := by
  unfold Obligations.ProductsAndQuotients
  constructor
  · intro s rt ra rb si oe rc word
    refine ⟨exec_free rfl rfl rfl rfl, ?_⟩
    intro wordProduct outside
    refine ⟨?_, exec_free rfl rfl rfl rfl, exec_free rfl rfl rfl rfl, fun h64 =>
      ⟨?_, exec_only64 rfl h64 rfl rfl rfl, exec_only64 rfl h64 rfl rfl rfl⟩⟩
    · dsimp only [outside]
      rw [← not_fitsSigned]
      exact exec_free rfl rfl rfl rfl
    · dsimp only [outside]
      rw [← not_fitsSigned]
      exact exec_only64 rfl h64 rfl rfl rfl
  · intro s rt ra rb oe rc a b word undefined minus
    have hdivw : exec (.divw rt ra rb oe rc) s =
        if quotUndefined (lowWord a) (lowWord b) then undefinedInto rt oe rc s
        else wordInto rt (quotSigned (lowWord a) (lowWord b)) oe false rc s := exec_free rfl rfl rfl rfl
    have hdivwu : exec (.divwu rt ra rb oe rc) s =
        if lowWord b = 0 then undefinedInto rt oe rc s
        else wordInto rt (quotUnsigned (lowWord a) (lowWord b)) oe false rc s := exec_free rfl rfl rfl rfl
    refine ⟨fun hb ha => ?_, fun h => ?_, fun h => ?_, fun h => ?_, fun h64 => ?_⟩
    · rw [hdivw, if_neg (by rw [quotUndefined_iff]; exact fun h => h.elim hb ha)]
      rfl
    · rw [hdivw, if_pos ((quotUndefined_iff _ _).mpr h)]
      rfl
    · rw [hdivwu, if_neg h]
      rfl
    · rw [hdivwu, if_pos h]
      rfl
    · have hdivd : exec (.divd rt ra rb oe rc) s =
          if quotUndefined a b then undefinedInto rt oe rc s else resultInto rt (quotSigned a b) oe false rc s :=
        exec_only64 rfl h64 rfl rfl rfl
      have hdivdu : exec (.divdu rt ra rb oe rc) s =
          if b = 0 then undefinedInto rt oe rc s else resultInto rt (quotUnsigned a b) oe false rc s :=
        exec_only64 rfl h64 rfl rfl rfl
      refine ⟨fun hb ha => ?_, fun h => ?_, fun h => ?_, fun h => ?_⟩
      · rw [hdivd, if_neg (by rw [quotUndefined_iff]; exact fun h => h.elim hb ha)]
        rfl
      · rw [hdivd, if_pos ((quotUndefined_iff _ _).mpr h)]
        rfl
      · rw [hdivdu, if_neg h]
        rfl
      · rw [hdivdu, if_pos h]
        rfl

/-! ## Branches and the Condition Register -/

/-- A branch from a state that differs in the CTR alone: the link and the target are those of the state before. -/
theorem branchTo_eq (s : State) (ctr : Dword) (lk taken : Bool) (target : Dword) :
    branchTo { s with ctr := ctr } lk taken target =
      .next { (if lk then { s with ctr := ctr, lr := s.codeAddress (s.pc + 4) } else { s with ctr := ctr } : State) with
        pc := if taken then s.codeAddress target else s.codeAddress (s.pc + 4) } := by
  cases lk <;> cases taken <;> rfl

/-- Settles O17: the branches run `branchTo`, the conditional ones with the test of R251, by the cases of BO[2]. -/
theorem branchesAndConditions : Obligations.BranchesAndConditions := by
  unfold Obligations.BranchesAndConditions
  constructor
  · intro s li bo bi bd aa lk linked go ctr counted tested condition taken disp dispC
    have hto (t : Bool) (target : Dword) : branchTo s lk t target = .next (go s t target) :=
      branchTo_eq s s.ctr lk t target
    have hconditional (target : Dword) : branchConditional s bo bi lk target = .next (go counted taken target) := by
      have htaken : (branchTest s bo bi).2 = taken := by
        unfold branchTest
        dsimp only [taken, tested, ctr, condition]
        cases bit bo 2 <;> rfl
      unfold branchConditional
      rw [htaken, branchTo_eq]
      dsimp only [go, linked, counted, branchTest, ctr]
      cases bit bo 2 <;> rfl
    refine ⟨(exec_free rfl rfl rfl rfl).trans (hto true (branchTarget s aa (liImm li))), fun hbo => ⟨?_, ?_⟩, fun hbo h2 => ?_⟩
    · exact (exec_free (i := .bc bo bi bd aa lk) rfl rfl hbo rfl).trans (hconditional (branchTarget s aa (bdImm bd)))
    · exact (exec_free (i := .bclr bo bi lk) rfl rfl hbo rfl).trans (hconditional _)
    · have hform : (boValid bo && bit bo 2) = true := by rw [hbo, h2]; rfl
      exact (exec_free (i := .bcctr bo bi lk) rfl rfl hform rfl).trans (hto condition _)
  · intro s bt ba bb bf bfa a b into
    exact ⟨exec_free rfl rfl rfl rfl, exec_free rfl rfl rfl rfl, exec_free rfl rfl rfl rfl, exec_free rfl rfl rfl rfl,
      exec_free rfl rfl rfl rfl, exec_free rfl rfl rfl rfl, exec_free rfl rfl rfl rfl, exec_free rfl rfl rfl rfl,
      exec_free rfl rfl rfl rfl⟩

end Sys2Proof.Machine


/-! SUPPORT. Flags, shifts and timers by the bit. The idea: a flag is a range condition on an exact sum, so both sides are
brought to natural numbers; a mask, a rotation and a count of leading zeros are compared bit by bit. -/

namespace Sys2Proof.Machine
open Laws

/-! ## Bits -/

/-- A replaced field bit by bit. -/
theorem bit_withSlice {w n : Nat} (v : BitVec w) {i k : Nat} (x : BitVec n) (hi : i + n ≤ w) (hk : k < w) :
    bit (withSlice v i x) k = if i ≤ k ∧ k < i + n then bit x (k - i) else bit v k := by
  simp only [bit, BitVec.getMsbD, withSlice, ones, BitVec.getLsbD_or, BitVec.getLsbD_and, BitVec.getLsbD_not,
    BitVec.getLsbD_shiftLeft, BitVec.getLsbD_setWidth, BitVec.getLsbD_allOnes, hk, decide_true, Bool.true_and]
  by_cases hlow : i + n ≤ k
  · have h1 : w - 1 - k < w - i - n := by omega
    have h2 : ¬ (i ≤ k ∧ k < i + n) := by omega
    simp [h1, h2, show w - 1 - k < w by omega]
  · by_cases hhigh : k < i
    · have h1 : ¬ w - 1 - k < w - i - n := by omega
      have h2 : ¬ (i ≤ k ∧ k < i + n) := by omega
      have h3 : ¬ w - 1 - k - (w - i - n) < n := by omega
      have h4 : x.getLsbD (w - 1 - k - (w - i - n)) = false := BitVec.getLsbD_of_ge _ _ (by omega)
      simp [h1, h2, h3, h4, show w - 1 - k < w by omega]
    · have h1 : ¬ w - 1 - k < w - i - n := by omega
      have h2 : i ≤ k ∧ k < i + n := by omega
      have h3 : w - 1 - k - (w - i - n) < n := by omega
      have h4 : n - 1 - (k - i) = w - 1 - k - (w - i - n) := by omega
      simp [h1, h2, h3, h4, show w - 1 - k < w by omega, show k - i < n by omega,
        show w - 1 - k - (w - i - n) < w by omega]

/-- The four bits of a CR field. -/
theorem bit_crBits (lt gt eq so : Bool) :
    bit (crBits lt gt eq so) 0 = lt ∧ bit (crBits lt gt eq so) 1 = gt ∧ bit (crBits lt gt eq so) 2 = eq ∧
      bit (crBits lt gt eq so) 3 = so := by
  revert lt gt eq so
  decide

/-- Three bits of a value and a fourth one as a CR field. -/
theorem slice_three (v : Dword) (so : Bool) : slice v 0 3 ++ b1 so = crBits (bit v 0) (bit v 1) (bit v 2) so := by
  unfold crBits
  rw [← slice_one v (by omega), ← slice_one v (by omega), ← slice_one v (by omega),
    ← slice_split v 0 1 1 (by omega), ← slice_split v 0 2 1 (by omega)]

/-! ## Carry and overflow -/

/-- The sign bit of a sum with a carry differs from equal signs of its terms exactly where the exact sum does not fit. -/
theorem overflow_iff {w : Nat} (hw : 0 < w) (x y : BitVec w) (c : Bool) :
    (x.msb == y.msb && (x + y + BitVec.ofNat w c.toNat).msb != x.msb) = true ↔
      x.toInt + y.toInt + (c.toNat : Int) < -2 ^ (w - 1) ∨ 2 ^ (w - 1) ≤ x.toInt + y.toInt + (c.toNat : Int) := by
  have hpow : 2 ^ w = 2 * 2 ^ (w - 1) := by
    rw [← Nat.pow_succ', Nat.succ_eq_add_one, Nat.sub_add_cancel hw]
  have hpos : 0 < 2 ^ (w - 1) := Nat.two_pow_pos _
  have hc : c.toNat ≤ 1 := Bool.toNat_le c
  have hx := x.isLt
  have hy := y.isLt
  have hsum : (x + y + BitVec.ofNat w c.toNat).toNat = (x.toNat + y.toNat + c.toNat) % 2 ^ w := by
    simp [BitVec.toNat_add]
  have hmod : (x.toNat + y.toNat + c.toNat) % 2 ^ w = x.toNat + y.toNat + c.toNat ∨
      (x.toNat + y.toNat + c.toNat) % 2 ^ w + 2 ^ w = x.toNat + y.toNat + c.toNat := by
    by_cases h : x.toNat + y.toNat + c.toNat < 2 ^ w
    · exact .inl (Nat.mod_eq_of_lt h)
    · right
      rw [Nat.mod_eq_sub_mod (by omega), Nat.mod_eq_of_lt (by omega)]
      omega
  have hlt := (x + y + BitVec.ofNat w c.toNat).isLt
  rw [← hsum] at hmod
  generalize x + y + BitVec.ofNat w c.toNat = z at hmod hlt
  simp only [BitVec.msb_eq_decide, BitVec.toInt_eq_toNat_cond]
  push_cast
  have hcast : ((2 : Int) ^ (w - 1)) = ((2 ^ (w - 1) : Nat) : Int) := by push_cast; rfl
  have hcast' : ((2 : Int) ^ w) = ((2 ^ w : Nat) : Int) := by push_cast; rfl
  rw [hcast, hcast', hpow]
  rw [hpow] at hx hy hmod hlt
  generalize 2 ^ (w - 1) = p at *
  simp only [Bool.and_eq_true, beq_iff_eq, bne_iff_ne, decide_eq_decide, ne_eq]
  split <;> split <;> omega

/-- The carry bit as a number. -/
theorem carry_eq (c : Bool) : (b1 c).setWidth 64 = BitVec.ofNat 64 c.toNat := by
  cases c <;> rfl

/-- The sign bit of the low-order word. -/
theorem bit_32_eq_msb (v : Dword) : bit v 32 = (lowWord v).msb := by
  simp [bit, BitVec.getMsbD, lowWord, BitVec.msb_eq_getLsbD_last]

theorem lowWord_add (x y : Dword) : lowWord (x + y) = lowWord x + lowWord y :=
  BitVec.setWidth_add _ _ (by omega)

/-- Settles O8: the flags bit by bit, and overflow and carry as range conditions on the exact sum (`overflow_iff`). -/
theorem carryAndOverflow : Obligations.CarryAndOverflow := by
  unfold Obligations.CarryAndOverflow
  refine ⟨fun s v f n ov ca k hk => ⟨rfl, rfl, rfl, rfl, ?_, rfl, ?_, rfl, ?_, rfl, rfl, rfl, ?_⟩, bit_crBits, ?_⟩
  · show bit (withBit (withBit s.xer 1 ov) 0 (s.so || ov)) k = _
    rw [bit_withBit _ _ (by omega) hk, bit_withBit _ _ (by omega) hk]
    rfl
  · exact bit_withBit _ _ (by omega) hk
  · have hn := n.isLt
    show bit (withSlice s.cr (4 * n.toNat) f) k = _
    rw [bit_withSlice _ _ (by omega) hk]
    by_cases h : k / 4 = n.toNat
    · rw [if_pos (by omega), if_pos h, show k - 4 * n.toNat = k % 4 by omega]
    · rw [if_neg (by omega), if_neg h]
  · show s.setCrField 0 (slice v 0 3 ++ b1 s.so) = _
    rw [slice_three]
  · intro s a b c
    constructor
    · intro hm
      refine ⟨?_, ?_, ?_⟩
      · unfold State.addOverflow
        rw [hm, carry_eq]
        exact overflow_iff (by omega) a b c
      · simp [State.addCarry, hm]
      · simp [State.cr0Of, State.statusValue, hm]
    · intro hm
      refine ⟨?_, ?_, ?_⟩
      · rw [← overflow_iff (by omega) (lowWord a) (lowWord b) c]
        unfold State.addOverflow
        rw [hm, carry_eq]
        show (bit a 32 == bit b 32 && bit (a + b + BitVec.ofNat 64 c.toNat) 32 != bit a 32) = true ↔ _
        rw [bit_32_eq_msb, bit_32_eq_msb, bit_32_eq_msb, lowWord_add, lowWord_add]
        cases c <;> rfl
      · simp [State.addCarry, hm]
      · simp [State.cr0Of, State.statusValue, hm]

/-! ## Shifts, masks, rotations and counts -/

/-- A right algebraic shift is a division that rounds down. -/
theorem sshiftRight_eq_ofInt {w : Nat} (v : BitVec w) (n : Nat) : v.sshiftRight n = BitVec.ofInt w (v.toInt / 2 ^ n) := by
  unfold BitVec.sshiftRight
  rw [Int.shiftRight_eq_div_pow]
  norm_cast

theorem sshiftRight_sextWord (v : Dword) (n : Nat) :
    (sextWord v).sshiftRight n = BitVec.ofInt 64 ((lowWord v).toInt / 2 ^ n) := by
  rw [sshiftRight_eq_ofInt, sextWord_toInt]

/-- CA of a right algebraic shift: a negative value that loses a 1 bit. -/
theorem shiftCarry_eq {w : Nat} (v : BitVec w) (n : Nat) : shiftCarry v n = (v.msb && decide (v.toNat % 2 ^ n ≠ 0)) := by
  unfold shiftCarry
  congr 1
  rw [Bool.eq_iff_iff, bne_iff_ne, decide_eq_true_eq]

/-- The ones from bit `mb` on. -/
theorem bit_onesFrom {mb k : Nat} (hk : k < 64) : bit (onesFrom mb) k = decide (mb ≤ k) := by
  rw [Bool.eq_iff_iff]
  simp only [bit, BitVec.getMsbD, onesFrom, BitVec.getLsbD_ushiftRight, BitVec.getLsbD_allOnes, Bool.and_eq_true,
    decide_eq_true_eq]
  omega

theorem bit_maskBits {mb me k : Nat} (hk : k < 64) :
    bit (maskBits mb me) k = true ↔ if mb ≤ me then mb ≤ k ∧ k ≤ me else mb ≤ k ∨ k ≤ me := by
  have hnot (v : Dword) : bit (~~~ v) k = !bit v k := by
    simp [bit, hk]
  unfold maskBits
  split
  · rw [bit_and, hnot, bit_onesFrom hk, bit_onesFrom hk]
    simp only [Bool.and_eq_true, decide_eq_true_eq, Bool.not_eq_true', decide_eq_false_iff_not]
    omega
  · rw [bit, BitVec.getMsbD_or, ← bit, ← bit, hnot, bit_onesFrom hk, bit_onesFrom hk]
    simp only [Bool.or_eq_true, decide_eq_true_eq, Bool.not_eq_true', decide_eq_false_iff_not]
    omega

theorem bit_rotl64 (v : Dword) (n : Nat) {k : Nat} (hk : k < 64) : bit (rotl64 v n) k = bit v ((k + n) % 64) := by
  simp only [bit, rotl64, BitVec.getMsbD_rotateLeft, hk, decide_true, Bool.true_and]
  congr 1
  omega

/-- The count from bit `i` on, over the bits in a list of consecutive numbers. -/
theorem leadingZeros_spec {w : Nat} (v : BitVec w) (i m n : Nat) :
    (List.range' i m).foldr (fun j c => if v.getMsbD j then 0 else c + 1) 0 = n ↔
      n ≤ m ∧ (∀ k, k < n → bit v (i + k) = false) ∧ (n < m → bit v (i + n) = true) := by
  induction m generalizing i n with
  | zero =>
    simp only [List.range'_zero, List.foldr_nil]
    constructor
    · rintro rfl
      exact ⟨Nat.le_refl _, nofun, nofun⟩
    · rintro ⟨h, -, -⟩
      omega
  | succ m ih =>
    rw [List.range'_succ, List.foldr_cons]
    cases hbit : v.getMsbD i with
    | true =>
      rw [if_pos rfl]
      constructor
      · rintro rfl
        exact ⟨Nat.zero_le _, nofun, fun _ => hbit⟩
      · rintro ⟨-, hzero, -⟩
        by_contra hn
        have h0 := hzero 0 (by omega)
        rw [Nat.add_zero, bit, hbit] at h0
        cases h0
    | false =>
      rw [if_neg (by simp)]
      cases n with
      | zero =>
        constructor
        · intro h; omega
        · rintro ⟨-, -, hone⟩
          have h0 := hone (by omega)
          rw [Nat.add_zero, bit, hbit] at h0
          cases h0
      | succ n =>
        rw [Nat.add_right_cancel_iff, ih (i + 1) n]
        refine and_congr (by omega) (and_congr ⟨fun h k hk => ?_, fun h k hk => ?_⟩ ?_)
        · cases k with
          | zero => exact hbit
          | succ k => rw [show i + (k + 1) = i + 1 + k by omega]; exact h k (by omega)
        · rw [show i + 1 + k = i + (k + 1) by omega]; exact h (k + 1) (by omega)
        · rw [show i + (n + 1) = i + 1 + n by omega, Nat.add_lt_add_iff_right]

theorem leadingZeros_iff {w : Nat} (v : BitVec w) (n : Nat) :
    leadingZeros v = n ↔ n ≤ w ∧ (∀ k, k < n → bit v k = false) ∧ (n < w → bit v n = true) := by
  have h := leadingZeros_spec v 0 w n
  simp only [Nat.zero_add] at h
  rw [← h, leadingZeros, List.range_eq_range']

/-- Settles O12: the rotates and shifts run their bodies; masks, rotations and counts bit by bit. -/
theorem rotatesAndShifts : Obligations.RotatesAndShifts := by
  unfold Obligations.RotatesAndShifts
  refine ⟨?_, ?_, fun mb me k _ _ hk => bit_maskBits hk, fun v n k _ hk => bit_rotl64 v n hk, leadingZeros_iff,
    leadingZeros_iff⟩
  · intro s ra rs rb sh mb me sh6 m6 rc into word dword wmask
    exact ⟨exec_free rfl rfl rfl rfl, exec_free rfl rfl rfl rfl, exec_free rfl rfl rfl rfl, fun h64 =>
      ⟨exec_only64 rfl h64 rfl rfl rfl, exec_only64 rfl h64 rfl rfl rfl, exec_only64 rfl h64 rfl rfl rfl,
        exec_only64 rfl h64 rfl rfl rfl, exec_only64 rfl h64 rfl rfl rfl, exec_only64 rfl h64 rfl rfl rfl⟩⟩
  · intro s ra rs rb sh sh6 rc w d n6 n7 into algebraic
    refine ⟨exec_free rfl rfl rfl rfl, exec_free rfl rfl rfl rfl, ?_, ?_, fun h64 =>
      ⟨exec_only64 rfl h64 rfl rfl rfl, exec_only64 rfl h64 rfl rfl rfl, ?_, ?_⟩⟩
    · rw [← shiftCarry_eq, ← sshiftRight_sextWord]
      exact exec_free rfl rfl rfl rfl
    · rw [← shiftCarry_eq, ← sshiftRight_sextWord]
      exact exec_free rfl rfl rfl rfl
    · rw [← shiftCarry_eq, ← sshiftRight_eq_ofInt]
      exact exec_only64 rfl h64 rfl rfl rfl
    · rw [← shiftCarry_eq, ← sshiftRight_eq_ofInt]
      exact exec_only64 rfl h64 rfl rfl rfl

end Sys2Proof.Machine


/-! SUPPORT. The timers and the special registers (60_exceptions.md R751 to R761, 43_fixed_logical_shift.md R470 to R474). The
idea: a tick passes zero exactly when it starts from 0, so `n` ticks pass it exactly when the Decrementer was below `n`; and
a read of a special register is a function of its own fields, which a write of another number keeps (`writeSpr_frame`). -/

namespace Sys2Proof.Machine

open Laws

/-! ## Ticks -/

theorem ticks_tb (n : Nat) (s : State) : (ticks n s).tb = s.tb + BitVec.ofNat 64 n := by
  induction n generalizing s with
  | zero => simp [ticks]
  | succ n ih =>
    rw [ticks, ih]
    show s.tb + 1 + _ = _
    rw [BitVec.add_assoc, BitVec.ofNat_add, BitVec.add_comm (BitVec.ofNat 64 n)]
    rfl

theorem ticks_dec (n : Nat) (s : State) : (ticks n s).dec = s.dec - BitVec.ofNat 32 n := by
  induction n generalizing s with
  | zero => simp [ticks]
  | succ n ih =>
    rw [ticks, ih]
    show s.dec - 1 - _ = _
    rw [BitVec.sub_sub, BitVec.ofNat_add, BitVec.add_comm (BitVec.ofNat 32 n)]
    rfl

/-- The sign bit of the Decrementer goes from 0 to 1 only from 0. -/
theorem passesZero_iff (d : Word) : (!bit d 0 && bit (d - 1) 0) = (d == 0) := by
  have hbit (v : Word) : bit v 0 = decide (2 ^ 31 ≤ v.toNat) := BitVec.msb_eq_decide v
  rw [hbit, hbit, Bool.eq_iff_iff]
  simp only [Bool.and_eq_true, Bool.not_eq_true', decide_eq_false_iff_not, decide_eq_true_eq, beq_iff_eq]
  bv_omega

theorem tick_decPending (s : State) : (tick s).decPending = (s.decPending || s.dec == 0) := by
  show (s.decPending || _) = _
  rw [passesZero_iff]

theorem ticks_decPending (n : Nat) (s : State) :
    (ticks n s).decPending = true ↔ s.decPending = true ∨ s.dec.toNat < n := by
  induction n generalizing s with
  | zero => simp [ticks]
  | succ n ih =>
    have hstep : s.dec = 0 ∨ (s.dec - 1).toNat < n ↔ s.dec.toNat < n + 1 := by bv_omega
    rw [ticks, ih, tick_decPending, Bool.or_eq_true, beq_iff_eq, or_assoc, ← hstep]
    rfl

/-- Settles O16: by induction on the ticks; the environment's own list of events decides their order with the External
input, which they do not touch. -/
theorem timerTick : Obligations.TimerTick := by
  intro s n
  refine ⟨ticks_tb n s, ticks_dec n s, ?_, ticks_decPending n s, tick_decPending s, ?_⟩
  · rw [ticks_shape]
  · rintro level rest (henv | henv)
    · have hrun : environment s = { ticks n { s with env := rest } with extPending := level } := by
        rw [environment, henv]; rfl
      rw [hrun]
      refine ⟨ticks_tb n _, ticks_dec n _, rfl, ?_⟩
      show (ticks n { s with env := rest }).env = rest
      rw [ticks_shape]
    · have hrun : environment s = ticks n { s with env := rest, extPending := level } := by
        rw [environment, henv]; rfl
      rw [hrun]
      refine ⟨ticks_tb n _, ticks_dec n _, ?_, ?_⟩ <;> rw [ticks_shape]

/-! ## Misaligned accesses -/

/-- Under the reference policy, in Big-Endian mode, only the reservation instructions trap. -/
theorem alignmentTraps_reference {i : Instr} {s : State} {cls : AccessClass} {kind : AccessKind} {ea : Dword} {n : Nat}
    (hle : s.msrBit msrLE = false) (hpolicy : s.cfg.align = AlignPolicy.reference) :
    alignmentTraps i s cls kind ea n = true ↔ cls = .reserve ∧ ea.toNat % n ≠ 0 := by
  unfold alignmentTraps
  rw [hle, hpolicy]
  cases cls <;> simp [AlignPolicy.reference, choiceTraps]

/-- Settles O20: with relocation off no byte of the operand can fail, so the alignment policy alone decides. -/
theorem misalignedAccess : Obligations.MisalignedAccess := by
  intro s i regs cls kind ea n hkind hdr hle
  have hrel : s.relocates kind = false := by
    cases kind with
    | ifetch => exact absurd rfl hkind
    | load => exact hdr
    | store => exact hdr
  refine ⟨fun htraps => ?_, fun hpolicy => alignmentTraps_reference hle hpolicy⟩
  rw [accessReals_untranslated hrel htraps]
  simp [operandBytes, storageAddress, hle]

/-! ## The special registers -/

theorem narrow_narrow (s : State) (v : Dword) : s.narrow (s.narrow v) = s.narrow v := by
  unfold State.narrow
  split
  · rfl
  · exact zext_lowWord_idem v

theorem narrow_of_cfg {s t : State} (h : t.cfg = s.cfg) (v : Dword) : t.narrow v = s.narrow v := by
  rw [State.narrow, State.narrow, h]

/-- A special register that a write does not name reads as before it. -/
theorem readSpr_of_frame {n m : SprNum} {s t : State} (hframe : SprFrame n s t) (hcfg : t.cfg = s.cfg)
    (hne : n.toNat ≠ m.toNat) : readSpr m t = readSpr m s := by
  unfold readSpr
  simp only [narrow_of_cfg hcfg, hcfg]
  split
  case h_1 hm => rw [hframe.xer (by omega)]
  case h_2 hm => rw [hframe.lr (by omega)]
  case h_3 hm => rw [hframe.ctr (by omega)]
  case h_4 hm => rw [hframe.dsisr (by omega)]
  case h_5 hm => rw [hframe.dar (by omega)]
  case h_6 hm => rw [(hframe.dec (by omega)).1]
  case h_7 hm => rw [hframe.sdr1 (by omega)]
  case h_8 hm => rw [hframe.srr0 (by omega)]
  case h_9 hm => rw [hframe.srr1 (by omega)]
  case h_10 hm => rw [hframe.asr (by omega)]
  case h_11 hm => rw [hframe.ear (by omega)]
  case h_12 hm => rfl
  case h_13 hm => rw [hframe.fpecr (by omega)]
  case h_14 hm => rw [hframe.pir (by omega)]
  case h_15 =>
    split
    next h => rw [hframe.sprg (m.toNat - 272) (by clear * - h; omega) (by clear * - h hne; omega)]
    next =>
      split
      next h => rw [hframe.ibat (m.toNat - 528) (by clear * - h; omega) (by clear * - h hne; omega)]
      next =>
        split
        next h => rw [hframe.dbat (m.toNat - 536) (by clear * - h; omega) (by clear * - h hne; omega)]
        next => rfl

/-- The numbers of the register files. -/
theorem readSpr_file {s : State} (k : Nat) :
    (k < 4 → readSpr (BitVec.ofNat 10 (272 + k)) s = s.narrow (s.sprg[k]?.getD 0)) ∧
    (k < 8 → readSpr (BitVec.ofNat 10 (528 + k)) s = s.narrow (s.ibat[k]?.getD 0)) ∧
    (k < 8 → readSpr (BitVec.ofNat 10 (536 + k)) s = s.narrow (s.dbat[k]?.getD 0)) := by
  refine ⟨fun hk => ?_, fun hk => ?_, fun hk => ?_⟩ <;> interval_cases k <;> rfl

theorem writeSpr_file {s : State} (v : Dword) (k : Nat) :
    (k < 4 → writeSpr (BitVec.ofNat 10 (272 + k)) v s = { s with sprg := s.sprg.setIfInBounds k (s.narrow v) }) ∧
    (k < 8 → writeSpr (BitVec.ofNat 10 (528 + k)) v s = s.alterIbat k v) ∧
    (k < 8 → writeSpr (BitVec.ofNat 10 (536 + k)) v s = { s with dbat := s.dbat.setIfInBounds k (s.narrow v) }) := by
  refine ⟨fun hk => ?_, fun hk => ?_, fun hk => ?_⟩ <;> interval_cases k <;> rfl

/-- What the register of number `n` holds of a value. -/
def sprHeld (s : State) (n : SprNum) (v : Dword) : Dword :=
  if n = 1 then zext (xerStored s.cfg (lowWord v))
  else if n = 282 then zext (earStored s.cfg (lowWord v))
  else if n = 18 ∨ n = 22 ∨ n = 1022 ∨ n = 1023 then zext (lowWord v)
  else s.narrow v

theorem sprHeld_file {s : State} {n : SprNum} (v : Dword)
    (h : (272 ≤ n.toNat ∧ n.toNat ≤ 275) ∨ (528 ≤ n.toNat ∧ n.toNat ≤ 543)) : sprHeld s n v = s.narrow v := by
  have hne (k : SprNum) (hk : ¬ ((272 ≤ k.toNat ∧ k.toNat ≤ 275) ∨ (528 ≤ k.toNat ∧ k.toNat ≤ 543))) : n ≠ k := by
    rintro rfl; exact hk h
  simp only [sprHeld, hne 1 (by decide), hne 282 (by decide), hne 18 (by decide), hne 22 (by decide),
    hne 1022 (by decide), hne 1023 (by decide), or_self, if_false]

/-- A register of a file reads back what was written. -/
theorem readSpr_writeSpr_file {s : State} (v : Dword) (k : Nat) :
    (k < 4 → readSpr (BitVec.ofNat 10 (272 + k)) (writeSpr (BitVec.ofNat 10 (272 + k)) v s) = s.narrow v) ∧
    (k < 8 → readSpr (BitVec.ofNat 10 (528 + k)) (writeSpr (BitVec.ofNat 10 (528 + k)) v s) = s.narrow v) ∧
    (k < 8 → readSpr (BitVec.ofNat 10 (536 + k)) (writeSpr (BitVec.ofNat 10 (536 + k)) v s) = s.narrow v) := by
  have hread {t : State} := readSpr_file (s := t) k
  have hwrite := writeSpr_file (s := s) v k
  refine ⟨fun hk => ?_, fun hk => ?_, fun hk => ?_⟩
  · rw [hread.1 hk, hwrite.1 hk, narrow_of_cfg (s := s) (by rfl)]
    simp [hk, narrow_narrow]
  · rw [hread.2.1 hk, hwrite.2.1 hk, narrow_of_cfg (s := s) (by rfl)]
    simp [State.alterIbat, hk, narrow_narrow]
  · rw [hread.2.2 hk, hwrite.2.2 hk, narrow_of_cfg (s := s) (by rfl)]
    simp [hk, narrow_narrow]

/-- The register of each number, read after its own write; the Time Base has other numbers for reading. -/
theorem readSpr_writeSpr_same {s : State} {n : SprNum} (v : Dword) (hw : mtsprDefined s.cfg n = true)
    (hr : mfsprDefined s.cfg n = true) : readSpr n (writeSpr n v s) = sprHeld s n v := by
  have hofNat {k b : Nat} (h : n.toNat = b + k) : n = BitVec.ofNat 10 (b + k) := by
    rw [← h, BitVec.ofNat_toNat, BitVec.setWidth_eq]
  simp only [mfsprDefined, Bool.or_eq_true, Bool.and_eq_true, beq_iff_eq, decide_eq_true_eq, or_assoc] at hr
  rcases hr with rfl | rfl | rfl | rfl | rfl | rfl | rfl | rfl | rfl | ⟨hlo, hhi⟩ | ⟨rfl, -⟩ | ⟨rfl, -⟩ | rfl | ⟨hlo, hhi⟩ |
    ⟨rfl, -⟩ | ⟨rfl, -⟩
  · rfl
  · exact narrow_narrow s v
  · exact narrow_narrow s v
  · rfl
  · exact narrow_narrow s v
  · rfl
  · exact narrow_narrow s v
  · exact narrow_narrow s v
  · exact narrow_narrow s v
  · rw [sprHeld_file v (.inl ⟨hlo, hhi⟩)]
    obtain ⟨k, hk⟩ := Nat.exists_eq_add_of_le hlo
    rw [hofNat hk]
    exact (readSpr_writeSpr_file v k).1 (by omega)
  · exact narrow_narrow s v
  · rfl
  · simp [mtsprDefined] at hw
  · rw [sprHeld_file v (.inr ⟨hlo, hhi⟩)]
    obtain ⟨k, hk⟩ := Nat.exists_eq_add_of_le hlo
    rcases Nat.lt_or_ge k 8 with h8 | h8
    · rw [hofNat hk]
      exact (readSpr_writeSpr_file v k).2.1 h8
    · rw [hofNat (b := 536) (k := k - 8) (by omega)]
      exact (readSpr_writeSpr_file v (k - 8)).2.2 (by omega)
  · rfl
  · rfl

theorem bit_or {n : Nat} (v m : BitVec n) (i : Nat) : bit (v ||| m) i = (bit v i || bit m i) := BitVec.getMsbD_or

/-- Settles O14: a write changes the register of its number only (`writeSpr_frame`), and that one holds what the register
stores of the value. -/
theorem sprReadBack : Obligations.SprReadBack := by
  refine ⟨fun c w k hk => ?_, fun s n m v hw hr => ⟨fun hne => ?_, ?_⟩⟩
  · have hxer : bit (0xE000007F : Word) k = decide (k ≤ 2 ∨ 25 ≤ k) := by decide +revert
    have hear : bit (0x8000003F : Word) k = decide (k = 0 ∨ 26 ≤ k) := by decide +revert
    simp only [xerStored, earStored, bit_and, bit_or, hxer, hear, and_self]
  · exact readSpr_of_frame (writeSpr_frame n v s) (by rw [writeSpr_shape]) fun h => hne (BitVec.eq_of_toNat_eq h.symm)
  · rintro rfl
    exact readSpr_writeSpr_same v hw hr

end Sys2Proof.Machine


/-! SUPPORT. The moves to and from the special registers (43_fixed_logical_shift.md R470 to R474, 70_reset_and_hazards.md R807).
The idea: a move is admitted exactly where its number is defined and, being privileged, the processor is in supervisor state;
and the requirement on an alteration is read off the model's own predicates, one lemma for each. -/

namespace Sys2Proof.Machine

open Laws

/-! ## Which numbers there are -/

theorem fileNumbers_iff {k : Nat} :
    (272 ≤ k ∧ k ≤ 275 ↔ k = 272 ∨ k = 273 ∨ k = 274 ∨ k = 275) ∧
    (528 ≤ k ∧ k ≤ 543 ↔ k = 528 ∨ k = 529 ∨ k = 530 ∨ k = 531 ∨ k = 532 ∨ k = 533 ∨ k = 534 ∨ k = 535 ∨ k = 536 ∨
      k = 537 ∨ k = 538 ∨ k = 539 ∨ k = 540 ∨ k = 541 ∨ k = 542 ∨ k = 543) := by
  omega

theorem mtsprDefined_iff (c : Config) (n : SprNum) :
    mtsprDefined c n = true ↔
      (n.toNat ∈ [1, 8, 9, 18, 19, 22, 25, 26, 27, 272, 273, 274, 275, 528, 529, 530, 531, 532, 533, 534, 535, 536, 537,
        538, 539, 540, 541, 542, 543] ∨
      (n = 280 ∧ c.impl64 = true) ∨ (n = 282 ∧ c.hasExternalControl = true) ∨
      (n = 1022 ∧ c.fpecrPresent = true) ∨ (n = 1023 ∧ c.pirPresent = true)) ∨ n = 284 ∨ n = 285 := by
  simp only [mtsprDefined, Bool.or_eq_true, Bool.and_eq_true, beq_iff_eq, decide_eq_true_eq, ← BitVec.toNat_inj,
    BitVec.reduceToNat, List.mem_cons, List.not_mem_nil]
  rw [fileNumbers_iff.1, fileNumbers_iff.2]
  simp only [or_false]
  apply iff_of_eq
  ac_rfl

theorem mfsprDefined_iff (c : Config) (n : SprNum) :
    mfsprDefined c n = true ↔
      (n.toNat ∈ [1, 8, 9, 18, 19, 22, 25, 26, 27, 272, 273, 274, 275, 528, 529, 530, 531, 532, 533, 534, 535, 536, 537,
        538, 539, 540, 541, 542, 543] ∨
      (n = 280 ∧ c.impl64 = true) ∨ (n = 282 ∧ c.hasExternalControl = true) ∨
      (n = 1022 ∧ c.fpecrPresent = true) ∨ (n = 1023 ∧ c.pirPresent = true)) ∨ n = 287 := by
  simp only [mfsprDefined, Bool.or_eq_true, Bool.and_eq_true, beq_iff_eq, decide_eq_true_eq, ← BitVec.toNat_inj,
    BitVec.reduceToNat, List.mem_cons, List.not_mem_nil]
  rw [fileNumbers_iff.1, fileNumbers_iff.2]
  simp only [or_false]
  apply iff_of_eq
  ac_rfl


/-! ## The moves -/

theorem admission_mtspr {s : State} {n : SprNum} (r : Gpr) (hdef : mtsprDefined s.cfg n = true)
    (hpriv : n.getLsbD 4 = true → s.msrBit msrPR = false) : admission (.mtspr n r) s = .execute :=
  (admission_execute_iff (.mtspr n r) s).mpr
    ⟨rfl, fun h => hpriv (Bool.and_eq_true_iff.mp h).1, fun h => Bool.noConfusion h, rfl, hdef⟩

theorem admission_mfspr {s : State} {n : SprNum} (r : Gpr) (hdef : mfsprDefined s.cfg n = true)
    (hpriv : n.getLsbD 4 = true → s.msrBit msrPR = false) : admission (.mfspr r n) s = .execute :=
  (admission_execute_iff (.mfspr r n) s).mpr
    ⟨rfl, fun h => hpriv (Bool.and_eq_true_iff.mp h).1, fun h => Bool.noConfusion h, rfl, hdef⟩

theorem contextAltered_of_broken {broken : Bool} {t : State} (h : broken = true) :
    (t.cfg.context = .refuse → contextAltered broken t = .refused .contextAlteration) ∧
    (t.cfg.context = .execute → contextAltered broken t = .next { t with flagged := true }) := by
  subst h
  constructor <;> intro hp <;> rw [contextAltered, if_pos rfl, hp]

theorem sprBroken_of_other {s t : State} {n : SprNum}
    (h : n.toNat ∉ [25, 280, 528, 529, 530, 531, 532, 533, 534, 535]) : sprBroken s n t = false := by
  simp only [List.mem_cons, List.not_mem_nil, or_false, not_or] at h
  unfold sprBroken
  split
  · omega
  · omega
  · rw [decide_eq_false (by omega), Bool.false_and]

theorem sprBroken_of_unrelocated {s t : State} (n : SprNum) (hir : s.msrBit msrIR = false)
    (hdr : s.msrBit msrDR = false) : sprBroken s n t = false := by
  unfold sprBroken
  split <;> simp [hir, hdr, ibatBroken]

theorem sprBroken_ibat {s t : State} {k : Nat} (hk : k < 8) :
    sprBroken s (BitVec.ofNat 10 (528 + k)) t = ibatBroken s k t := by
  interval_cases k <;> rfl

/-! ## What makes an alteration of an IBAT register break its requirement -/

/-- A BAT pair that maps the address presented to fetch. -/
theorem fetchAttrs_block_iff {s : State} {b : BitVec 2} :
    (fetchAttrs s).block = some b ↔
      ∃ real attrs, translate s .ifetch s.fetchAddress = .ok (real, attrs) ∧ attrs.block = some b := by
  unfold fetchAttrs
  constructor
  · intro h
    split at h
    next real attrs heq => exact ⟨real, attrs, heq, h⟩
    next => cases h
  · rintro ⟨real, attrs, heq, h⟩
    rw [heq]
    exact h

/-- Where the pair maps one of the two instructions at `pc` and after it. -/
theorem ibatInUse_at {s u : State} {n : Nat} {next : Dword} (hir : u.msrBit msrIR = true) (hpc : u.pc = s.pc)
    (hnext : u.nextPc = next) :
    ibatInUse u n = true ↔ ∃ a real attrs, (a = s.pc ∨ a = next) ∧
      translate { u with pc := a } .ifetch (State.fetchAddress { u with pc := a }) = .ok (real, attrs) ∧
        attrs.block = some (BitVec.ofNat 2 n) := by
  rw [ibatInUse_iff, hpc, hnext]
  simp only [hir, true_and, fetchAttrs_block_iff]
  constructor
  · rintro ⟨a, ha, real, attrs, h⟩
    exact ⟨a, real, attrs, ha, h⟩
  · rintro ⟨a, real, attrs, ha, h⟩
    exact ⟨a, ha, real, attrs, h⟩

theorem otherHalf_altered_iff (v : Vector Bool 8) (k : Fin 8) :
    v[otherHalf k]?.getD false = true ↔ ∃ j : Fin 8, j ≠ k ∧ j.val / 2 = k.val / 2 ∧ v[j] = true := by
  have hlt : otherHalf k < 8 := by unfold otherHalf; split <;> omega
  have hother (j : Fin 8) : j ≠ k ∧ j.val / 2 = k.val / 2 ↔ j.val = otherHalf k := by
    unfold otherHalf
    rw [ne_eq, Fin.ext_iff]
    split <;> omega
  rw [Vector.getElem?_eq_getElem hlt]
  constructor
  · intro h
    exact ⟨⟨_, hlt⟩, ((hother _).mpr rfl).1, ((hother _).mpr rfl).2, h⟩
  · rintro ⟨j, hne, hpair, h⟩
    have hj := (hother j).mp ⟨hne, hpair⟩
    simp only [← hj]
    exact h

theorem sameCode_eq_false_iff (s t : State) :
    (!sameCode s t) = true ↔ fetchedBytes { s with pc := s.nextPc } ≠ fetchedBytes { t with pc := s.nextPc } := by
  rw [sameCode, Bool.not_eq_true', beq_eq_false_iff_ne]

/-- A register of `s` that holds what a move from `r` leaves. -/
theorem ibatChange_eq {s : State} {r : Gpr} (k : Fin 8) :
    ibatChange s (s.alterIbat k (s.x r)) k = (s.narrow s.ibat[k] ^^^ s.x r) &&& ~~~ (s.ibatBits k).keys := by
  have hread : (s.alterIbat k (s.x r)).ibat[(k : Nat)]?.getD 0 = s.x r := by
    simp [State.alterIbat, State.x, narrow_narrow]
  have hold : s.ibat[(k : Nat)]?.getD 0 = s.ibat[k] := by simp
  rw [ibatChange, hread, hold, narrow_of_cfg (s := s) (t := s.alterIbat k (s.x r)) rfl, State.x, narrow_narrow]

theorem alterIbat_ibatAltered {s : State} {r : Gpr} (k j : Fin 8) :
    (s.alterIbat k (s.x r)).ibatAltered[j] =
      (s.ibatAltered[j] || decide (j = k ∧ ibatFieldAltered s (s.alterIbat k (s.x r)) k = true)) := by
  have hrec : (s.alterIbat k (s.x r)).ibatAltered =
      if ibatFieldAltered s (s.alterIbat k (s.x r)) k then s.ibatAltered.setIfInBounds k true else s.ibatAltered := rfl
  rw [hrec]
  split
  next h =>
    by_cases hjk : j = k
    · subst hjk; simp [h]
    · have hne : k.val ≠ j.val := fun heq => hjk (Fin.ext heq.symm)
      simp [h, hjk, hne]
  next h => simp [h]

theorem ibatFieldAltered_alterIbat_iff {s : State} {r : Gpr} (k : Fin 8) :
    ibatFieldAltered s (s.alterIbat k (s.x r)) k = true ↔
      (s.narrow s.ibat[k] ^^^ s.x r) &&& ~~~ (s.ibatBits k).keys &&& ~~~ (s.ibatBits k).valid ≠ 0 := by
  rw [ibatFieldAltered, ibatChange_eq, bne_iff_ne]

/-- Does fetch use pair `n` in the context of `u`, for this instruction of `s` or the next? -/
def fetchUses (s u : State) (n : Nat) : Prop :=
  ∃ a real attrs, (a = s.pc ∨ a = s.codeAddress (s.pc + 4)) ∧
    translate { u with pc := a } .ifetch (State.fetchAddress { u with pc := a }) = .ok (real, attrs) ∧
      attrs.block = some (BitVec.ofNat 2 n)

theorem ibatInUse_iff_fetchUses {s u : State} {n : Nat} (hir : u.msrBit msrIR = true) (hpc : u.pc = s.pc)
    (hnext : u.nextPc = s.nextPc) : ibatInUse u n = true ↔ fetchUses s u n := ibatInUse_at hir hpc hnext

/-- The requirement on an IBAT register, with what fetch uses, what changes and what was altered before written out. -/
theorem ibatBroken_alterIbat_iff {s : State} {r : Gpr} (k : Fin 8) :
    ibatBroken s k (s.alterIbat k (s.x r)) = true ↔
      s.msrBit msrIR = true ∧ (s.narrow s.ibat[k] ^^^ s.x r) &&& ~~~ (s.ibatBits k).keys ≠ 0 ∧
        ((fetchUses s s (k / 2) ∧
            (s.narrow s.ibat[k] ^^^ s.x r) &&& ~~~ (s.ibatBits k).keys &&& ~~~ (s.ibatBits k).valid ≠ 0) ∨
          fetchedBytes { s with pc := s.nextPc } ≠ fetchedBytes { s.alterIbat k (s.x r) with pc := s.nextPc } ∨
          ((fetchUses s s (k / 2) ∨ fetchUses s (s.alterIbat k (s.x r)) (k / 2)) ∧
            fetchedBytes { s.alterIbat k (s.x r) with pc := s.nextPc } = none) ∨
          (fetchUses s (s.alterIbat k (s.x r)) (k / 2) ∧
            (s.narrow s.ibat[k] ^^^ s.x r) &&& ~~~ (s.ibatBits k).keys &&& ~~~ (s.ibatBits k).valid ≠ 0 ∧
            ∃ j : Fin 8, j ≠ k ∧ j.val / 2 = k.val / 2 ∧ s.ibatAltered[j] = true)) := by
  rw [ibatBroken_iff, ibatChange_eq, ibatFieldAltered_alterIbat_iff, otherHalf_altered_iff, ← Bool.not_eq_true',
    sameCode_eq_false_iff]
  refine and_congr_right fun hir => ?_
  rw [ibatInUse_iff_fetchUses (s := s) hir rfl rfl,
    ibatInUse_iff_fetchUses (s := s) (u := s.alterIbat k (s.x r)) hir rfl rfl]

/-! ## O13 -/

theorem bit_fxmMask_foldl (fxm : BitVec 8) {k : Nat} (hk : k < 32) {l : List Nat} (hl : ∀ i ∈ l, i < 8) (m : Word) :
    bit (l.foldl (fun m i => if bit fxm i then m ||| ones 32 (4 * i) 4 else m) m) k =
      (bit m k || l.any fun i => bit fxm i && decide (k / 4 = i)) := by
  have hones : ∀ i < 8, ∀ k < 32, bit (ones 32 (4 * i) 4) k = decide (k / 4 = i) := by decide
  induction l generalizing m with
  | nil => simp
  | cons i l ih =>
    rw [List.foldl_cons, ih (fun j hj => hl j (List.mem_cons_of_mem _ hj)), List.any_cons, ← Bool.or_assoc]
    congr 1
    cases bit fxm i
    · simp
    · simp [bit_or, hones i (hl i List.mem_cons_self) k hk]

/-- Bit `k` of the mask is the bit of FXM for its field. -/
theorem bit_fxmMask (fxm : BitVec 8) {k : Nat} (hk : k < 32) : bit (fxmMask fxm) k = bit fxm (k / 4) := by
  rw [fxmMask, bit_fxmMask_foldl fxm hk (fun i hi => List.mem_range.mp hi), Bool.eq_iff_iff]
  simp only [bit, BitVec.ofNat_eq_ofNat, BitVec.getMsbD_zero, Bool.false_or, List.any_eq_true, List.mem_range,
    Bool.and_eq_true, decide_eq_true_eq]
  constructor
  · rintro ⟨i, -, hbit, rfl⟩
    exact hbit
  · exact fun h => ⟨k / 4, by omega, h, rfl⟩

/-- Settles O13: one lemma above for each requirement, at the number that has it. -/
theorem specialRegisterMoves : Obligations.SpecialRegisterMoves := by
  intro s n r fxm bf
  refine ⟨mtsprDefined_iff s.cfg n, mfsprDefined_iff s.cfg n, fun hdef hpriv => ?_, fun hdef hpriv => ?_,
    fun k hk => bit_fxmMask fxm hk, exec_free (i := .mtcrf fxm r) rfl rfl rfl rfl, exec_free (i := .mcrxr bf) rfl rfl rfl rfl,
    exec_free (i := .mfcr r) rfl rfl rfl rfl, exec_free (i := .mftb r 268) rfl rfl rfl rfl,
    exec_free (i := .mftb r 269) rfl rfl rfl rfl⟩
  · have hexec := exec_of_admission (exec_mtspr n r s) (admission_mtspr r hdef hpriv)
    have hcfg : (writeSpr n (s.x r) s).advance.cfg = s.cfg := by
      show (writeSpr n (s.x r) s).cfg = s.cfg
      rw [writeSpr_shape]
    refine ⟨fun hb => ?_, fun hb hp => ?_, fun hb hp => ?_, sprBroken_of_other, sprBroken_of_unrelocated n,
      sprBroken_of_identity, ?_, ?_, ?_⟩
    · rw [hexec, contextAltered_of_kept hb]
    · rw [hexec]; exact (contextAltered_of_broken hb).1 (hcfg ▸ hp)
    · rw [hexec]; exact (contextAltered_of_broken hb).2 (hcfg ▸ hp)
    · rintro rfl hx
      show (!s.cfg.xlate.isEmpty && _) = _
      rw [List.isEmpty_eq_false_iff.mpr hx]
      rfl
    · rintro rfl
      show (s.msrBit msrIR && !sameCode s _) = true ↔ _
      rw [Bool.and_eq_true, sameCode_eq_false_iff]
      rfl
    · intro k hk
      obtain rfl : n = BitVec.ofNat 10 (528 + k) := by rw [← hk, BitVec.ofNat_toNat, BitVec.setWidth_eq]
      rw [(writeSpr_file (s.x r) k).2.1 k.isLt, sprBroken_ibat k.isLt]
      refine ⟨ibatBroken_alterIbat_iff k, fun j => ?_⟩
      exact (alterIbat_ibatAltered k j).trans (by simp only [ibatFieldAltered_alterIbat_iff]; rfl)
  · exact exec_of_admission (exec_mfspr r n s) (admission_mfspr r hdef hpriv)

end Sys2Proof.Machine


/-! SUPPORT. Bytes and registers (20_memory.md R100, R101; 41_fixed_load_store.md R328 to R333). The idea: the bytes of a value
are the bytes of its upper part followed by its last byte, so a value and its bytes determine each other by induction from the
end; and a string of bytes fills consecutive registers, each written once while there are at most 32 of them. -/

namespace Sys2Proof.Machine

open Laws

/-! ## Values and bytes -/

theorem slice_low_byte (v : Dword) {k : Nat} (hk : k ≤ 56) : slice v (56 - k) 8 = (v >>> k).setWidth 8 := by
  apply BitVec.eq_of_getLsbD_eq
  intro j hj
  simp only [slice, BitVec.getLsbD_extractLsb', BitVec.getLsbD_setWidth, BitVec.getLsbD_ushiftRight]
  congr 2
  omega

theorem bytesOfValue_length (n : Nat) (v : Dword) : (bytesOfValue n v).length = n := by
  simp [bytesOfValue]

theorem bytesOfValue_get {n j : Nat} (v : Dword) (hj : j < n) (hn : n ≤ 8) :
    (bytesOfValue n v)[j]? = some ((v >>> (8 * (n - 1 - j))).setWidth 8) := by
  rw [bytesOfValue, List.getElem?_map, List.getElem?_range hj, Option.map_some, ← slice_low_byte v (by omega)]
  congr 2
  omega

/-- The bytes of a value end in its last byte. -/
theorem bytesOfValue_succ {n : Nat} (v : Dword) (hn : n ≤ 7) :
    bytesOfValue (n + 1) v = bytesOfValue n (v >>> 8) ++ [v.setWidth 8] := by
  refine List.ext_getElem? fun j => ?_
  rcases Nat.lt_trichotomy j n with hj | rfl | hj
  · rw [bytesOfValue_get v (by omega) (by omega), List.getElem?_append_left (by rwa [bytesOfValue_length]),
      bytesOfValue_get _ hj (by omega), ← BitVec.shiftRight_add, show 8 * (n + 1 - 1 - j) = 8 + 8 * (n - 1 - j) by omega]
  · rw [bytesOfValue_get v (by omega) (by omega), List.getElem?_append_right (by rw [bytesOfValue_length]),
      bytesOfValue_length]
    simp
  · rw [List.getElem?_eq_none (by rw [bytesOfValue_length]; omega),
      List.getElem?_eq_none (by rw [List.length_append, bytesOfValue_length]; simp; omega)]

theorem valueOfBytes_append (bs : List Byte) (b : Byte) :
    valueOfBytes (bs ++ [b]) = (valueOfBytes bs <<< 8) ||| b.setWidth 64 := by
  rw [valueOfBytes, List.foldl_append]
  rfl

/-- The value of bytes grows by a byte at the end. -/
theorem valueOfBytes_append_toNat {bs : List Byte} (b : Byte) (h : (valueOfBytes bs).toNat < 2 ^ 56) :
    (valueOfBytes (bs ++ [b])).toNat = 256 * (valueOfBytes bs).toNat + b.toNat := by
  have hb := b.isLt
  rw [valueOfBytes_append, BitVec.toNat_or, BitVec.toNat_shiftLeft, BitVec.toNat_setWidth, Nat.shiftLeft_eq,
    Nat.mod_eq_of_lt (by omega), Nat.mod_eq_of_lt (by omega), Nat.mul_comm, show 2 ^ 8 = 256 from rfl]
  exact (Nat.two_pow_add_eq_or_of_lt (i := 8) hb _).symm

theorem valueOfBytes_lt (bs : List Byte) (h : bs.length ≤ 7) : (valueOfBytes bs).toNat < 2 ^ (8 * bs.length) := by
  induction bs using List.reverseRecOn with
  | nil => decide
  | append_singleton bs b ih =>
    rw [List.length_append, List.length_singleton] at h ⊢
    have hbs := ih (by omega)
    have hb := b.isLt
    have h56 : 2 ^ (8 * bs.length) ≤ 2 ^ 56 := Nat.pow_le_pow_right (by omega) (by omega)
    rw [valueOfBytes_append_toNat b (by omega), Nat.mul_add, Nat.pow_add]
    omega

/-- Bytes are the bytes of their value. -/
theorem bytesOfValue_valueOfBytes (bs : List Byte) (h : bs.length ≤ 8) : bytesOfValue bs.length (valueOfBytes bs) = bs := by
  induction bs using List.reverseRecOn with
  | nil => rfl
  | append_singleton bs b ih =>
    rw [List.length_append, List.length_singleton] at h ⊢
    have h56 : (valueOfBytes bs).toNat < 2 ^ 56 :=
      (valueOfBytes_lt bs (by omega)).trans_le (Nat.pow_le_pow_right (by omega) (by omega))
    have hnat := valueOfBytes_append_toNat b h56
    have hb := b.isLt
    have hhigh : valueOfBytes (bs ++ [b]) >>> 8 = valueOfBytes bs := by
      apply BitVec.eq_of_toNat_eq
      rw [BitVec.toNat_ushiftRight, hnat, Nat.shiftRight_eq_div_pow]
      omega
    have hlow : (valueOfBytes (bs ++ [b])).setWidth 8 = b := by
      apply BitVec.eq_of_toNat_eq
      rw [BitVec.toNat_setWidth, hnat]
      omega
    rw [bytesOfValue_succ _ (by omega), hhigh, hlow, ih (by omega)]

/-- The value of the bytes of a value is its low-order part. -/
theorem valueOfBytes_bytesOfValue {n : Nat} (v : Dword) (hn : n ≤ 8) :
    (valueOfBytes (bytesOfValue n v)).toNat = v.toNat % 2 ^ (8 * n) := by
  induction n generalizing v with
  | zero => simp [bytesOfValue, valueOfBytes, Nat.mod_one]
  | succ n ih =>
    have hlt : (valueOfBytes (bytesOfValue n (v >>> 8))).toNat < 2 ^ 56 :=
      (valueOfBytes_lt _ (by rw [bytesOfValue_length]; omega)).trans_le
        (Nat.pow_le_pow_right (by omega) (by rw [bytesOfValue_length]; omega))
    rw [bytesOfValue_succ v (by omega), valueOfBytes_append_toNat _ hlt, ih _ (by omega), BitVec.toNat_ushiftRight,
      Nat.shiftRight_eq_div_pow, BitVec.toNat_setWidth, Nat.mul_add, Nat.add_comm (8 * n), Nat.pow_add, Nat.mod_mul,
      Nat.add_comm]

theorem valueOfBytes_word (v : Dword) : valueOfBytes (bytesOfValue 4 v) = zext (lowWord v) := by
  apply BitVec.eq_of_toNat_eq
  rw [valueOfBytes_bytesOfValue v (by omega), zext, lowWord, BitVec.toNat_setWidth, BitVec.toNat_setWidth]
  omega

theorem valueOfBytes_doubleword (v : Dword) : valueOfBytes (bytesOfValue 8 v) = v := by
  apply BitVec.eq_of_toNat_eq
  rw [valueOfBytes_bytesOfValue v (by omega)]
  exact Nat.mod_eq_of_lt v.isLt

/-! ## The elementary loads and stores -/

section
variable {i : Instr} {s : State} {rt ra rb : Gpr} {ea v : Dword} {n : Nat} {ext : Dword → Dword} {reals : List Dword}

theorem loadInto_of_ok (h : accessReals i .other .fixed .load ea n s = .ok reals) :
    loadInto i rt ea n ext s = .next (s.setX rt (ext (valueOfBytes (s.mem.readAll reals)))).advance :=
  memRead_of_ok h _

/-- A byte-reversal load takes its bytes in the other order. -/
theorem loadInto_reversed_of_ok (hn : n ≤ 8) (h : accessReals i .other .fixed .load ea n s = .ok reals) :
    loadInto i rt ea n (reverseBytes n) s = .next (s.setX rt (valueOfBytes (s.mem.readAll reals).reverse)).advance := by
  have hlen : (s.mem.readAll reals).length = n := by rw [Memory.readAll, List.length_map, accessReals_length h]
  subst hlen
  rw [loadInto_of_ok h, reverseBytes, bytesOfValue_valueOfBytes _ hn]

theorem loadUpdate_of_ok (h : accessReals i .update .fixed .load ea n s = .ok reals) :
    loadUpdate i rt ra ea n ext s =
      .next ((s.setX rt (ext (valueOfBytes (s.mem.readAll reals)))).setX ra ea).advance :=
  memRead_of_ok h _

theorem stored_of_ok {regs : DsisrRegs} {cls : AccessClass} {kind : AccessKind}
    (h : accessReals i regs cls kind ea n s = .ok reals) :
    s.stored reals v = { s with mem := s.mem.writeAll reals (bytesOfValue n v) } := by
  rw [State.stored, accessReals_length h]

theorem storeFrom_of_ok (h : accessReals i .other .fixed .store ea n s = .ok reals) :
    storeFrom i v ea n s = .next { s with mem := s.mem.writeAll reals (bytesOfValue n v) }.advance := by
  rw [storeFrom, memWrite_of_ok h, stored_of_ok h]
  rfl

/-- A byte-reversal store stores the bytes in the other order. -/
theorem storeFrom_reversed_of_ok (hn : n ≤ 8) (h : accessReals i .other .fixed .store ea n s = .ok reals) :
    storeFrom i (reverseBytes n v) ea n s =
      .next { s with mem := s.mem.writeAll reals (bytesOfValue n v).reverse }.advance := by
  have hrev := bytesOfValue_valueOfBytes (bytesOfValue n v).reverse (by simp [bytesOfValue_length, hn])
  rw [List.length_reverse, bytesOfValue_length] at hrev
  rw [storeFrom_of_ok h, reverseBytes, hrev]

theorem storeUpdate_of_ok (h : accessReals i .update .fixed .store ea n s = .ok reals) :
    storeUpdate i ra v ea n s =
      .next ({ s with mem := s.mem.writeAll reals (bytesOfValue n v) }.setX ra ea).advance := by
  rw [storeUpdate, memWrite_of_ok h, stored_of_ok h]
  rfl

theorem loadUpdateValid_of_ne (h0 : ra ≠ 0) (ht : ra ≠ rt) : loadUpdateValid rt ra = true := by
  rw [loadUpdateValid, bne_iff_ne.mpr h0, bne_iff_ne.mpr ht]
  rfl

theorem updateValid_of_ne (h0 : ra ≠ 0) : updateValid ra = true :=
  bne_iff_ne.mpr h0

end

/-! ## The meaning of each elementary load and store (41_fixed_load_store.md R285 to R327) -/

section
variable {s : State} {rt rs ra rb : Gpr} {d : BitVec 16} {ds : BitVec 14}

theorem exec_lbz : exec (.lbz rt d ra) s = loadInto (.lbz rt d ra) rt (eaD s ra d) 1 id s := exec_free rfl rfl rfl rfl

theorem exec_lbzu (hv : loadUpdateValid rt ra = true) :
    exec (.lbzu rt d ra) s = loadUpdate (.lbzu rt d ra) rt ra (eaDU s ra d) 1 id s :=
  exec_free rfl rfl hv rfl

theorem exec_lbzx : exec (.lbzx rt ra rb) s = loadInto (.lbzx rt ra rb) rt (eaX s ra rb) 1 id s :=
  exec_free rfl rfl rfl rfl

theorem exec_lbzux (hv : loadUpdateValid rt ra = true) :
    exec (.lbzux rt ra rb) s = loadUpdate (.lbzux rt ra rb) rt ra (eaXU s ra rb) 1 id s :=
  exec_free rfl rfl hv rfl

theorem exec_lhz : exec (.lhz rt d ra) s = loadInto (.lhz rt d ra) rt (eaD s ra d) 2 id s := exec_free rfl rfl rfl rfl

theorem exec_lhzu (hv : loadUpdateValid rt ra = true) :
    exec (.lhzu rt d ra) s = loadUpdate (.lhzu rt d ra) rt ra (eaDU s ra d) 2 id s :=
  exec_free rfl rfl hv rfl

theorem exec_lhzx : exec (.lhzx rt ra rb) s = loadInto (.lhzx rt ra rb) rt (eaX s ra rb) 2 id s :=
  exec_free rfl rfl rfl rfl

theorem exec_lhzux (hv : loadUpdateValid rt ra = true) :
    exec (.lhzux rt ra rb) s = loadUpdate (.lhzux rt ra rb) rt ra (eaXU s ra rb) 2 id s :=
  exec_free rfl rfl hv rfl

theorem exec_lha : exec (.lha rt d ra) s = loadInto (.lha rt d ra) rt (eaD s ra d) 2 sextHalf s :=
  exec_free rfl rfl rfl rfl

theorem exec_lhau (hv : loadUpdateValid rt ra = true) :
    exec (.lhau rt d ra) s = loadUpdate (.lhau rt d ra) rt ra (eaDU s ra d) 2 sextHalf s :=
  exec_free rfl rfl hv rfl

theorem exec_lhax : exec (.lhax rt ra rb) s = loadInto (.lhax rt ra rb) rt (eaX s ra rb) 2 sextHalf s :=
  exec_free rfl rfl rfl rfl

theorem exec_lhaux (hv : loadUpdateValid rt ra = true) :
    exec (.lhaux rt ra rb) s = loadUpdate (.lhaux rt ra rb) rt ra (eaXU s ra rb) 2 sextHalf s :=
  exec_free rfl rfl hv rfl

theorem exec_lwz : exec (.lwz rt d ra) s = loadInto (.lwz rt d ra) rt (eaD s ra d) 4 id s := exec_free rfl rfl rfl rfl

theorem exec_lwzu (hv : loadUpdateValid rt ra = true) :
    exec (.lwzu rt d ra) s = loadUpdate (.lwzu rt d ra) rt ra (eaDU s ra d) 4 id s :=
  exec_free rfl rfl hv rfl

theorem exec_lwzx : exec (.lwzx rt ra rb) s = loadInto (.lwzx rt ra rb) rt (eaX s ra rb) 4 id s :=
  exec_free rfl rfl rfl rfl

theorem exec_lwzux (hv : loadUpdateValid rt ra = true) :
    exec (.lwzux rt ra rb) s = loadUpdate (.lwzux rt ra rb) rt ra (eaXU s ra rb) 4 id s :=
  exec_free rfl rfl hv rfl

theorem exec_lwa (h64 : s.cfg.impl64 = true) :
    exec (.lwa rt ds ra) s = loadInto (.lwa rt ds ra) rt (eaDS s ra ds) 4 sextWord s :=
  exec_only64 rfl h64 rfl rfl rfl

theorem exec_lwax (h64 : s.cfg.impl64 = true) :
    exec (.lwax rt ra rb) s = loadInto (.lwax rt ra rb) rt (eaX s ra rb) 4 sextWord s :=
  exec_only64 rfl h64 rfl rfl rfl

theorem exec_lwaux (h64 : s.cfg.impl64 = true) (hv : loadUpdateValid rt ra = true) :
    exec (.lwaux rt ra rb) s = loadUpdate (.lwaux rt ra rb) rt ra (eaXU s ra rb) 4 sextWord s :=
  exec_only64 rfl h64 rfl hv rfl

theorem exec_ld (h64 : s.cfg.impl64 = true) :
    exec (.ld rt ds ra) s = loadInto (.ld rt ds ra) rt (eaDS s ra ds) 8 id s :=
  exec_only64 rfl h64 rfl rfl rfl

theorem exec_ldu (h64 : s.cfg.impl64 = true) (hv : loadUpdateValid rt ra = true) :
    exec (.ldu rt ds ra) s = loadUpdate (.ldu rt ds ra) rt ra (eaDSU s ra ds) 8 id s :=
  exec_only64 rfl h64 rfl hv rfl

theorem exec_ldx (h64 : s.cfg.impl64 = true) :
    exec (.ldx rt ra rb) s = loadInto (.ldx rt ra rb) rt (eaX s ra rb) 8 id s :=
  exec_only64 rfl h64 rfl rfl rfl

theorem exec_ldux (h64 : s.cfg.impl64 = true) (hv : loadUpdateValid rt ra = true) :
    exec (.ldux rt ra rb) s = loadUpdate (.ldux rt ra rb) rt ra (eaXU s ra rb) 8 id s :=
  exec_only64 rfl h64 rfl hv rfl

theorem exec_stb : exec (.stb rs d ra) s = storeFrom (.stb rs d ra) (s.x rs) (eaD s ra d) 1 s :=
  exec_free rfl rfl rfl rfl

theorem exec_stbu (hv : updateValid ra = true) :
    exec (.stbu rs d ra) s = storeUpdate (.stbu rs d ra) ra (s.x rs) (eaDU s ra d) 1 s :=
  exec_free rfl rfl hv rfl

theorem exec_stbx : exec (.stbx rs ra rb) s = storeFrom (.stbx rs ra rb) (s.x rs) (eaX s ra rb) 1 s :=
  exec_free rfl rfl rfl rfl

theorem exec_stbux (hv : updateValid ra = true) :
    exec (.stbux rs ra rb) s = storeUpdate (.stbux rs ra rb) ra (s.x rs) (eaXU s ra rb) 1 s :=
  exec_free rfl rfl hv rfl

theorem exec_sth : exec (.sth rs d ra) s = storeFrom (.sth rs d ra) (s.x rs) (eaD s ra d) 2 s :=
  exec_free rfl rfl rfl rfl

theorem exec_sthu (hv : updateValid ra = true) :
    exec (.sthu rs d ra) s = storeUpdate (.sthu rs d ra) ra (s.x rs) (eaDU s ra d) 2 s :=
  exec_free rfl rfl hv rfl

theorem exec_sthx : exec (.sthx rs ra rb) s = storeFrom (.sthx rs ra rb) (s.x rs) (eaX s ra rb) 2 s :=
  exec_free rfl rfl rfl rfl

theorem exec_sthux (hv : updateValid ra = true) :
    exec (.sthux rs ra rb) s = storeUpdate (.sthux rs ra rb) ra (s.x rs) (eaXU s ra rb) 2 s :=
  exec_free rfl rfl hv rfl

theorem exec_stw : exec (.stw rs d ra) s = storeFrom (.stw rs d ra) (s.x rs) (eaD s ra d) 4 s :=
  exec_free rfl rfl rfl rfl

theorem exec_stwu (hv : updateValid ra = true) :
    exec (.stwu rs d ra) s = storeUpdate (.stwu rs d ra) ra (s.x rs) (eaDU s ra d) 4 s :=
  exec_free rfl rfl hv rfl

theorem exec_stwx : exec (.stwx rs ra rb) s = storeFrom (.stwx rs ra rb) (s.x rs) (eaX s ra rb) 4 s :=
  exec_free rfl rfl rfl rfl

theorem exec_stwux (hv : updateValid ra = true) :
    exec (.stwux rs ra rb) s = storeUpdate (.stwux rs ra rb) ra (s.x rs) (eaXU s ra rb) 4 s :=
  exec_free rfl rfl hv rfl

theorem exec_std (h64 : s.cfg.impl64 = true) :
    exec (.std rs ds ra) s = storeFrom (.std rs ds ra) (s.x rs) (eaDS s ra ds) 8 s :=
  exec_only64 rfl h64 rfl rfl rfl

theorem exec_stdu (h64 : s.cfg.impl64 = true) (hv : updateValid ra = true) :
    exec (.stdu rs ds ra) s = storeUpdate (.stdu rs ds ra) ra (s.x rs) (eaDSU s ra ds) 8 s :=
  exec_only64 rfl h64 rfl hv rfl

theorem exec_stdx (h64 : s.cfg.impl64 = true) :
    exec (.stdx rs ra rb) s = storeFrom (.stdx rs ra rb) (s.x rs) (eaX s ra rb) 8 s :=
  exec_only64 rfl h64 rfl rfl rfl

theorem exec_stdux (h64 : s.cfg.impl64 = true) (hv : updateValid ra = true) :
    exec (.stdux rs ra rb) s = storeUpdate (.stdux rs ra rb) ra (s.x rs) (eaXU s ra rb) 8 s :=
  exec_only64 rfl h64 rfl hv rfl

theorem exec_lhbrx : exec (.lhbrx rt ra rb) s = loadInto (.lhbrx rt ra rb) rt (eaX s ra rb) 2 (reverseBytes 2) s :=
  exec_free rfl rfl rfl rfl

theorem exec_lwbrx : exec (.lwbrx rt ra rb) s = loadInto (.lwbrx rt ra rb) rt (eaX s ra rb) 4 (reverseBytes 4) s :=
  exec_free rfl rfl rfl rfl

theorem exec_sthbrx : exec (.sthbrx rs ra rb) s = storeFrom (.sthbrx rs ra rb) (reverseBytes 2 (s.x rs)) (eaX s ra rb) 2 s :=
  exec_free rfl rfl rfl rfl

theorem exec_stwbrx : exec (.stwbrx rs ra rb) s = storeFrom (.stwbrx rs ra rb) (reverseBytes 4 (s.x rs)) (eaX s ra rb) 4 s :=
  exec_free rfl rfl rfl rfl

end

/-! ## O21 and O22 -/

/-- Settles O21: the meaning of every elementary load is `loadInto` or `loadUpdate`, which the access that is not stopped
decides. -/
theorem loads : Obligations.Loads := by
  refine ⟨fun s rt ra rb d ds => ?_, fun s rt ra rb d ds h0 ht => ?_⟩
  · have plain {i : Instr} {ea : Dword} {n : Nat} {ext : Dword → Dword} (hexec : exec i s = loadInto i rt ea n ext s)
        (reals : List Dword) (h : accessReals i .other .fixed .load ea n s = .ok reals) := hexec.trans (loadInto_of_ok h)
    have reversed {i : Instr} {ea : Dword} {n : Nat} (hn : n ≤ 8)
        (hexec : exec i s = loadInto i rt ea n (reverseBytes n) s) (reals : List Dword)
        (h : accessReals i .other .fixed .load ea n s = .ok reals) := hexec.trans (loadInto_reversed_of_ok hn h)
    exact ⟨plain exec_lbz, plain exec_lbzx, plain exec_lhz, plain exec_lhzx, plain (ext := sextHalf) exec_lha,
      plain (ext := sextHalf) exec_lhax, plain exec_lwz, plain exec_lwzx, reversed (by decide) exec_lhbrx,
      reversed (by decide) exec_lwbrx,
      fun h64 => ⟨plain (ext := sextWord) (exec_lwa h64), plain (ext := sextWord) (exec_lwax h64), plain (exec_ld h64),
        plain (exec_ldx h64)⟩⟩
  · have hv := loadUpdateValid_of_ne h0 ht
    have update {i : Instr} {ea : Dword} {n : Nat} {ext : Dword → Dword}
        (hexec : exec i s = loadUpdate i rt ra ea n ext s) (reals : List Dword)
        (h : accessReals i .update .fixed .load ea n s = .ok reals) := hexec.trans (loadUpdate_of_ok h)
    exact ⟨update (exec_lbzu hv), update (exec_lbzux hv), update (exec_lhzu hv), update (exec_lhzux hv),
      update (ext := sextHalf) (exec_lhau hv), update (ext := sextHalf) (exec_lhaux hv), update (exec_lwzu hv),
      update (exec_lwzux hv),
      fun h64 => ⟨update (ext := sextWord) (exec_lwaux h64 hv), update (exec_ldu h64 hv), update (exec_ldux h64 hv)⟩⟩

/-- Settles O22: likewise with `storeFrom` and `storeUpdate`. -/
theorem stores : Obligations.Stores := by
  intro s rs ra rb d ds
  have plain {i : Instr} {ea : Dword} {n : Nat} (hexec : exec i s = storeFrom i (s.x rs) ea n s) (reals : List Dword)
      (h : accessReals i .other .fixed .store ea n s = .ok reals) := hexec.trans (storeFrom_of_ok h)
  have reversed {i : Instr} {ea : Dword} {n : Nat} (hn : n ≤ 8)
      (hexec : exec i s = storeFrom i (reverseBytes n (s.x rs)) ea n s) (reals : List Dword)
      (h : accessReals i .other .fixed .store ea n s = .ok reals) := hexec.trans (storeFrom_reversed_of_ok hn h)
  have update {i : Instr} {ea : Dword} {n : Nat} (hexec : exec i s = storeUpdate i ra (s.x rs) ea n s)
      (reals : List Dword) (h : accessReals i .update .fixed .store ea n s = .ok reals) :=
    hexec.trans (storeUpdate_of_ok h)
  refine ⟨plain exec_stb, plain exec_stbx, plain exec_sth, plain exec_sthx, plain exec_stw, plain exec_stwx,
    reversed (by decide) exec_sthbrx, reversed (by decide) exec_stwbrx,
    fun h64 => ⟨plain (exec_std h64), plain (exec_stdx h64)⟩, fun h0 => ?_⟩
  have hv := updateValid_of_ne h0
  exact ⟨update (exec_stbu hv), update (exec_stbux hv), update (exec_sthu hv), update (exec_sthux hv),
    update (exec_stwu hv), update (exec_stwux hv), fun h64 => ⟨update (exec_stdu h64 hv), update (exec_stdux h64 hv)⟩⟩

/-! ## Registers -/

theorem setX_x (s : State) (r q : Gpr) (v : Dword) : (s.setX r v).x q = if q = r then s.narrow v else s.x q := by
  have hcfg (u : Dword) : (s.setX r v).narrow u = s.narrow u := narrow_of_cfg rfl u
  rw [State.x, hcfg]
  by_cases h : q = r
  · subst h
    simp [State.setX, narrow_narrow]
  · have hne : r.toNat ≠ q.toNat := fun heq => h (BitVec.eq_of_toNat_eq heq.symm)
    simp [State.setX, State.x, h, hne]

theorem advance_x (s : State) (r : Gpr) : s.advance.x r = s.x r := rfl

theorem setF_f (s : State) (r q : Fpr) (v : Dword) (one : Bool) :
    (s.setF r v one).f q = if q = r then v else s.f q := by
  by_cases h : q = r
  · subst h
    simp [State.setF, State.f]
  · have hne : r.toNat ≠ q.toNat := fun heq => h (BitVec.eq_of_toNat_eq heq.symm)
    simp [State.setF, State.f, h, hne]

theorem setF_fSingle (s : State) (r q : Fpr) (v : Dword) (one : Bool) :
    (s.setF r v one).fSingle q = if q = r then one else s.fSingle q := by
  have hr := r.isLt
  have hq := q.isLt
  have hmark (x : Word) : x.getLsbD q.toNat = bit x (31 - q.toNat) := by
    rw [bit, BitVec.getMsbD, decide_eq_true (by omega), Bool.true_and]
    congr 1
    omega
  have hplace : 31 - q.toNat = 31 - r.toNat ↔ q = r := by
    rw [← BitVec.toNat_inj]
    omega
  rw [State.fSingle, State.fSingle, hmark, hmark, ← ite_congr (propext hplace) (fun _ => rfl) (fun _ => rfl)]
  exact bit_withBit _ one (by omega) (by omega)

theorem stored_readAll {s : State} {reals : List Dword} {v : Dword} {n : Nat} (hwf : s.mem.wf = true)
    (hnodup : reals.Nodup) (hlen : reals.length = n) :
    (s.stored reals v).advance.mem.readAll reals = bytesOfValue n v := by
  subst hlen
  exact Memory.readAll_writeAll hwf hnodup (bytesOfValue_length _ _).symm

/-- A load of the operand just stored gives the value of the bytes stored. -/
theorem loadInto_after_storeFrom {s t : State} {i j : Instr} {rt : Gpr} {v ea ea' : Dword} {n : Nat} {reals : List Dword}
    (hwf : s.mem.wf = true) (hnodup : reals.Nodup) (hst : accessReals i .other .fixed .store ea n s = .ok reals)
    (hstore : storeFrom i v ea n s = .next t) (hld : accessReals j .other .fixed .load ea' n t = .ok reals) :
    ∃ u, loadInto j rt ea' n id t = .next u ∧ u.x rt = s.narrow (valueOfBytes (bytesOfValue n v)) := by
  have ht : t = (s.stored reals v).advance := by
    rw [storeFrom, memWrite_of_ok hst] at hstore
    exact (Host.Outcome.next.inj hstore).symm
  have hcfg : t.cfg = s.cfg := by rw [ht]; rfl
  have hread : t.mem.readAll reals = bytesOfValue n v := by
    rw [ht]
    exact stored_readAll hwf hnodup (accessReals_length hst)
  refine ⟨_, loadInto_of_ok hld, ?_⟩
  rw [advance_x, setX_x, if_pos rfl, hread, narrow_of_cfg hcfg, id]

/-! ## O25 -/

/-- Settles O25: the bytes read are the bytes written, and bytes and values determine each other. -/
theorem storeThenLoad : Obligations.StoreThenLoad := by
  refine ⟨fun s r q f g v one => ⟨setX_x s r q v, rfl, setF_f s f g v one, setF_fSingle s f g v one, rfl, rfl, rfl⟩,
    fun n j v hj hn => ⟨bytesOfValue_length n v, bytesOfValue_get v hj hn⟩, fun bs b h => ?_, rfl,
    fun s t rs rt ra d ds reals hwf hnodup => ⟨fun hst hexec hld => ?_, fun h64 hst hexec hld => ?_⟩⟩
  · exact valueOfBytes_append_toNat b
      ((valueOfBytes_lt bs h).trans_le (Nat.pow_le_pow_right (by omega) (by omega)))
  · rw [exec_stw] at hexec
    rw [exec_lwz]
    obtain ⟨u, hu, hx⟩ := loadInto_after_storeFrom (rt := rt) hwf hnodup hst hexec hld
    refine ⟨u, hu, hx.trans ?_⟩
    rw [valueOfBytes_word, State.narrow]
    split
    · rfl
    · exact zext_lowWord_idem _
  · rw [exec_std h64] at hexec
    have hcfg : t.cfg = s.cfg := by
      rw [storeFrom_of_ok hst] at hexec
      rw [← Host.Outcome.next.inj hexec]
      rfl
    rw [exec_ld (hcfg ▸ h64)]
    obtain ⟨u, hu, hx⟩ := loadInto_after_storeFrom (rt := rt) hwf hnodup hst hexec hld
    exact ⟨u, hu, by rw [hx, valueOfBytes_doubleword, State.narrow, if_pos h64]⟩

end Sys2Proof.Machine


/-! SUPPORT. The multiple, string and reservation instructions (41_fixed_load_store.md R328 to R337, 20_memory.md R145 to
R147). The idea: each sequence of registers or bytes is read at one place by induction on the sequence. -/

namespace Sys2Proof.Machine

open Laws

/-! ## Sequences of registers and bytes -/

/-- Consecutive registers, each written once, hold the values in order. -/
theorem setXs_x {vs : List Dword} (hlen : vs.length ≤ 32) (s : State) (r q : Gpr) :
    (s.setXs r vs).x q = if h : (q - r).toNat < vs.length then s.narrow vs[(q - r).toNat] else s.x q := by
  induction vs generalizing s r with
  | nil => rfl
  | cons v vs ih =>
    rw [List.length_cons] at hlen
    rw [State.setXs, ih (by omega), setX_x]
    by_cases hq : q = r
    · subst hq
      have hwrap : ¬ (q - (q + 1)).toNat < vs.length := by bv_omega
      rw [dif_neg hwrap, if_pos rfl]
      simp
    · have hstep : (q - r).toNat = (q - (r + 1)).toNat + 1 := by bv_omega
      simp only [hstep, List.length_cons, Nat.add_lt_add_iff_right, List.getElem_cons_succ, hq, if_false]
      rfl

theorem registerBytes_get (s : State) (r : Gpr) {k j : Nat} (hj : j < 4 * k) :
    (registerBytes s r k)[j]? = some (slice (s.x (r + BitVec.ofNat 5 (j / 4))) (32 + 8 * (j % 4)) 8) := by
  induction k generalizing r j with
  | zero => omega
  | succ k ih =>
    rw [registerBytes]
    rcases Nat.lt_or_ge j 4 with h4 | h4
    · rw [List.getElem?_append_left (by rwa [bytesOfValue_length]), bytesOfValue, List.getElem?_map,
        List.getElem?_range h4, Nat.div_eq_of_lt h4, Nat.mod_eq_of_lt h4, BitVec.add_zero]
      rfl
    · have hnext : r + 1 + BitVec.ofNat 5 ((j - 4) / 4) = r + BitVec.ofNat 5 (j / 4) := by
        rw [BitVec.add_assoc]
        congr 1
        apply BitVec.eq_of_toNat_eq
        simp only [BitVec.toNat_add, BitVec.toNat_ofNat, show (1 : Gpr).toNat = 1 from rfl]
        omega
      rw [List.getElem?_append_right (by rwa [bytesOfValue_length]), bytesOfValue_length, ih (r + 1) (by omega), hnext,
        show (j - 4) % 4 = j % 4 by omega]

/-- The words that bytes fill, a missing byte being 0. -/
theorem wordsOfBytes_get (bytes : List Byte) {k : Nat} (hk : k < (bytes.length + 3) / 4) :
    (wordsOfBytes bytes)[k]? = some (valueOfBytes ((List.range 4).map fun j => bytes.getD (4 * k + j) 0)) := by
  induction bytes using wordsOfBytes.induct generalizing k with
  | case1 a b c d rest ih =>
    rw [wordsOfBytes]
    cases k with
    | zero => rfl
    | succ k =>
      have hshift (j : Nat) : 4 * (k + 1) + j = (4 * k + j) + 4 := by omega
      rw [List.getElem?_cons_succ, ih (by simp only [List.length_cons] at hk; omega)]
      simp [hshift]
  | case2 a b c =>
    obtain rfl : k = 0 := by simp at hk; omega
    rfl
  | case3 a b =>
    obtain rfl : k = 0 := by simp at hk; omega
    rfl
  | case4 a =>
    obtain rfl : k = 0 := by simp at hk; omega
    rfl
  | case5 => simp at hk

/-! ## The multiple and string instructions -/

section
variable {i : Instr} {cls : AccessClass} {s : State} {r ra rb : Gpr} {ea : Dword} {n : Nat} {reals : List Dword}

theorem loadMany_of_ok (h : accessReals i (.outside r (regsFor n)) cls .load ea n s = .ok reals) :
    loadMany i cls r ea n s = .next (s.setXs r (wordsOfBytes (s.mem.readAll reals))).advance := by
  rw [loadMany, h]
  rfl

theorem storeMany_of_ok (h : accessReals i .other cls .store ea n s = .ok reals) :
    storeMany i cls r ea n s =
      .next { s with mem := s.mem.writeAll reals ((registerBytes s r (regsFor n)).take n) }.advance := by
  rw [storeMany, h]
  rfl

theorem exec_lmw {d : BitVec 16} (h : ra.toNat < r.toNat) :
    exec (.lmw r d ra) s = loadMany (.lmw r d ra) .multiple r (eaD s ra d) (4 * (32 - r.toNat)) s :=
  exec_free rfl rfl (decide_eq_true h) rfl

theorem exec_stmw {d : BitVec 16} :
    exec (.stmw r d ra) s = storeMany (.stmw r d ra) .multiple r (eaD s ra d) (4 * (32 - r.toNat)) s :=
  exec_free rfl rfl rfl rfl

theorem exec_lswi {nb : BitVec 5} (h : inWrappedRange r (regsFor (nbBytes nb)) ra = false) :
    exec (.lswi r ra nb) s = loadMany (.lswi r ra nb) .string r (s.ra0 ra) (nbBytes nb) s :=
  exec_free rfl rfl (Bool.not_eq_true' _ |>.mpr h) rfl

theorem exec_stswi {nb : BitVec 5} :
    exec (.stswi r ra nb) s = storeMany (.stswi r ra nb) .string r (s.ra0 ra) (nbBytes nb) s :=
  exec_free rfl rfl rfl rfl

theorem exec_lswx (hra : ra ≠ r) (hrb : rb ≠ r) (ha : inWrappedRange r (regsFor s.xerCount) ra = false)
    (hb : inWrappedRange r (regsFor s.xerCount) rb = false) :
    exec (.lswx r ra rb) s = loadStringIndexed (.lswx r ra rb) r ra rb s :=
  exec_free rfl rfl (Bool.and_eq_true_iff.mpr ⟨bne_iff_ne.mpr hra, bne_iff_ne.mpr hrb⟩)
    (Bool.and_eq_true_iff.mpr ⟨Bool.not_eq_true' _ |>.mpr ha, Bool.not_eq_true' _ |>.mpr hb⟩)

theorem exec_stswx :
    exec (.stswx r ra rb) s = storeMany (.stswx r ra rb) .string r (eaX s ra rb) s.xerCount s :=
  exec_free rfl rfl rfl rfl

theorem loadStringIndexed_of_count (h : s.xerCount ≠ 0) :
    loadStringIndexed i r ra rb s = loadMany i .string r (eaX s ra rb) s.xerCount s := by
  rw [loadStringIndexed, if_neg fun hz => h hz.1]

theorem loadStringIndexed_of_empty (h : s.xerCount = 0) (hle : s.msrBit msrLE = false) :
    loadStringIndexed i r ra rb s = .next ((s.setX r (s.free 0)).drawn 1).advance := by
  rw [loadStringIndexed, if_pos ⟨h, by rw [hle]; rfl⟩]
  rfl

end

/-- Settles O23: the instructions by the access that is not stopped, the sequences by the lemmas above. -/
theorem multiplesAndStrings : Obligations.MultiplesAndStrings := by
  refine ⟨fun s r ra rb d nb reals => ⟨fun hra h => ?_, fun h => ?_, fun hra h => ?_, fun h => ?_,
      fun hra hrb hcount ha hb h => ?_, fun hra hrb hcount hle => ?_, fun h => ?_⟩,
    fun s r q vs hlen => setXs_x hlen s r q, fun s r k j hj => registerBytes_get s r hj,
    fun bytes k hk => wordsOfBytes_get bytes hk⟩
  · exact (exec_lmw hra).trans (loadMany_of_ok h)
  · exact exec_stmw.trans (storeMany_of_ok h)
  · exact (exec_lswi hra).trans (loadMany_of_ok h)
  · exact exec_stswi.trans (storeMany_of_ok h)
  · exact ((exec_lswx hra hrb ha hb).trans (loadStringIndexed_of_count hcount)).trans (loadMany_of_ok h)
  · have hregs : regsFor s.xerCount = 0 := by rw [State.xerCount, hcount]; rfl
    refine (exec_lswx hra hrb ?_ ?_).trans (loadStringIndexed_of_empty hcount hle) <;> rw [hregs] <;> rfl
  · exact exec_stswx.trans (storeMany_of_ok h)

/-! ## The reservation instructions -/

section
variable {i : Instr} {s : State} {r ra rb : Gpr} {ea v real : Dword} {n : Nat} {reals : List Dword}

theorem loadReserve_of_ok (h : accessReals i .other .reserve .load ea n s = .ok (real :: reals)) :
    loadReserve i r ea n s =
      .next { s.setX r (valueOfBytes (s.mem.readAll (real :: reals))) with reserve := some real }.advance := by
  rw [loadReserve, h]
  rfl

theorem ite_withMem (d : Bool) (s : State) (m : Memory) :
    (if d then { s with mem := m } else s) = { s with mem := if d then m else s.mem } := by
  cases d <;> rfl

/-- A conditional store with its access not stopped: the bytes where the reservation covers the operand, CR0, and no
reservation. -/
theorem storeConditional_of_ok (h : accessReals i .other .reserve .store ea n s = .ok (real :: reals)) :
    storeConditional i v ea n s =
      .next { s.setCrField 0 (crBits false false (s.holdsReservation real) s.so) with
        mem := if s.holdsReservation real then s.mem.writeAll (real :: reals) (bytesOfValue n v) else s.mem
        reserve := none }.advance := by
  have hstored : (if s.holdsReservation real then s.stored (real :: reals) v else s) =
      { s with mem := if s.holdsReservation real then s.mem.writeAll (real :: reals) (bytesOfValue n v) else s.mem } := by
    rw [stored_of_ok h]
    exact ite_withMem _ _ _
  rw [storeConditional, h]
  exact congrArg (fun u : State => Host.Outcome.next
    { u.setCrField 0 (crBits false false (s.holdsReservation real) s.so) with reserve := none }.advance) hstored

theorem exec_lwarx : exec (.lwarx r ra rb) s = loadReserve (.lwarx r ra rb) r (eaX s ra rb) 4 s :=
  exec_free rfl rfl rfl rfl

theorem exec_ldarx (h64 : s.cfg.impl64 = true) :
    exec (.ldarx r ra rb) s = loadReserve (.ldarx r ra rb) r (eaX s ra rb) 8 s :=
  exec_only64 rfl h64 rfl rfl rfl

theorem exec_stwcxDot :
    exec (.stwcxDot r ra rb) s = storeConditional (.stwcxDot r ra rb) (s.x r) (eaX s ra rb) 4 s :=
  exec_free rfl rfl rfl rfl

theorem exec_stdcxDot (h64 : s.cfg.impl64 = true) :
    exec (.stdcxDot r ra rb) s = storeConditional (.stdcxDot r ra rb) (s.x r) (eaX s ra rb) 8 s :=
  exec_only64 rfl h64 rfl rfl rfl

end

/-! ## Stores by another agent -/

theorem foreignStores_none {s : State} {cells : List Host.Cell} (h : s.reserve = none) :
    (foreignStores cells s).reserve = none := by
  induction cells generalizing s with
  | nil => exact h
  | cons c cs ih =>
    refine ih ?_
    show (if _ then none else s.reserve) = none
    rw [h, ite_self]

theorem foreignStore_reserve {s : State} {c : Host.Cell} {r : Dword} (h : s.reserve = some r) :
    (foreignStore c s).reserve = if sameGranule s.cfg (BitVec.ofNat 64 c.1) r then none else some r := by
  show (if s.holdsReservation _ then none else s.reserve) = _
  rw [State.holdsReservation, h]

/-- The reservation is lost at the first byte in its granule, and kept where there is none. -/
theorem foreignStores_reserve {s : State} {cells : List Host.Cell} {r : Dword} (h : s.reserve = some r) :
    (foreignStores cells s).reserve =
      if ∃ c ∈ cells, sameGranule s.cfg (BitVec.ofNat 64 c.1) r = true then none else some r := by
  induction cells generalizing s with
  | nil => simp [foreignStores, h]
  | cons c cs ih =>
    rw [foreignStores]
    have hfirst := foreignStore_reserve (c := c) h
    by_cases hc : sameGranule s.cfg (BitVec.ofNat 64 c.1) r = true
    · rw [if_pos ⟨c, List.mem_cons_self, hc⟩]
      exact foreignStores_none (hfirst.trans (if_pos hc))
    · rw [ih (hfirst.trans (if_neg hc))]
      simp only [List.mem_cons, exists_eq_or_imp, hc, Bool.false_eq_true, false_or]
      rfl

/-- Settles O24: the access decides each instruction, the bytes the other agent's store, and the destinations of every other
instruction leave the reservation out. -/
theorem reservations : Obligations.Reservations := by
  refine ⟨fun s r ra rb real reals => ⟨fun h => ?_, fun h => ?_, fun h64 => ⟨fun h => ?_, fun h => ?_⟩⟩,
    fun s cells rest r henv hres => ?_, fun s t i h hne => ?_⟩
  · exact exec_lwarx.trans (loadReserve_of_ok h)
  · exact exec_stwcxDot.trans (storeConditional_of_ok h)
  · exact (exec_ldarx h64).trans (loadReserve_of_ok h)
  · exact (exec_stdcxDot h64).trans (storeConditional_of_ok h)
  · have hrun : environment s = foreignStores cells { s with env := rest } := by
      rw [environment, henv]
      rfl
    have hlost := foreignStores_reserve (s := { s with env := rest }) (cells := cells) hres
    rw [hrun, hlost]
    refine ⟨fun ⟨c, hc, hg⟩ => if_pos ⟨c, hc, beq_iff_eq.mpr hg⟩, fun hall => if_neg ?_⟩
    rintro ⟨c, hc, hg⟩
    exact hall c hc (beq_iff_eq.mp hg)
  · refine exec_keeps_reserve h ?_
    rintro (⟨r, a, b, hi⟩ | ⟨r, a, b, hi⟩ | ⟨r, a, b, hi⟩ | ⟨r, a, b, hi⟩)
    · exact (hne r a b).1 hi
    · exact (hne r a b).2.1 hi
    · exact (hne r a b).2.2.1 hi
    · exact (hne r a b).2.2.2 hi

end Sys2Proof.Machine


/-! SUPPORT. Reset, fetch and the step that runs an instruction (70_reset_and_hazards.md R791, 20_memory.md R102, R131;
60_exceptions.md R782). The idea: the fetch depends on storage only through the four bytes it reads and the table's
conditions, and a quiet step is the instruction in the state that has taken no interrupt. -/

namespace Sys2Proof.Machine

open Laws

/-! ## O1 -/

/-- Settles O1: the reset state is concrete. -/
theorem resetState : Obligations.ResetState :=
  ⟨⟨rfl, rfl, rfl, rfl, rfl, rfl, rfl, rfl, rfl, rfl, rfl, rfl⟩,
    ⟨rfl, by decide, by decide, by decide, by decide, by decide⟩,
    ⟨rfl, by decide, by decide, by decide, by decide, by decide⟩⟩

/-! ## O2 -/

/-- A next state, followed by what the environment does. -/
def thenEnvironment (r : Result) : Result :=
  match r with
  | .next t => .next (environment t)
  | other => other

/-- A quiet step outside Checkstop runs the instruction, then the environment acts. -/
theorem step_of_quiet {s : State} (hc : s.checkstop = false) (hq : s.Quiet) :
    step s = thenEnvironment (runInstruction { s with lastInterrupt := none }) := by
  have hq0 : State.Quiet { s with lastInterrupt := none } := { hq with }
  unfold step cycle
  dsimp only
  rw [if_neg (by simp [hc]), select_of_quiet hq0]
  rfl

theorem runInstruction_of_fetch {s : State} {real : Dword} {d : Decoded} (hfetch : fetchReal s = .ok real)
    (hdecode : decodeBytes (s.mem.readAll (wordAddresses real)) = d) :
    runInstruction { s with lastInterrupt := none } =
      match d with
      | .instr i => withTrace i { s with lastInterrupt := none }
          (withAssist i { s with lastInterrupt := none } (exec i { s with lastInterrupt := none }))
      | .reservedBits i => reservedBitsForm i { s with lastInterrupt := none }
      | .rejected _ => interrupt (.program .illegal) { s with lastInterrupt := none } := by
  have hreal : fetchReal { s with lastInterrupt := none } = .ok real := (fetchReal_lastInterrupt s none).trans hfetch
  have hd : fetchDecode { s with lastInterrupt := none } = .ok d :=
    (fetchDecode_of_fetchReal hreal).trans (congrArg Except.ok hdecode)
  rw [runInstruction, hd]
  cases d <;> rfl

/-- Settles O2: the step is the instruction part of the cycle, by what the fetch decodes. -/
theorem stepRunsDecoded : Obligations.StepRunsDecoded := by
  intro s s0 after hc hsreset hmcheck hfloat hext hdec hpow
  have hstep := step_of_quiet hc ⟨hsreset, hmcheck, hfloat, hext, hdec, hpow⟩
  refine ⟨fun real i hf hd => ?_, fun real i hf hd => ?_, fun real r hf hd => ?_, fun status hf => ?_⟩
  · exact hstep.trans (congrArg thenEnvironment (runInstruction_of_fetch hf hd))
  · exact hstep.trans (congrArg thenEnvironment (runInstruction_of_fetch hf hd))
  · exact hstep.trans (congrArg thenEnvironment (runInstruction_of_fetch hf hd))
  · have hfail : fetchReal s0 = .error status := (fetchReal_lastInterrupt s none).trans hf
    have hrun : runInstruction s0 = interrupt (.instructionStorage status) s0 := by
      unfold runInstruction fetchDecode
      simp only [hfail]
    exact hstep.trans (congrArg thenEnvironment hrun)

/-! ## O3 -/

theorem fetchReal_unrelocated {s : State} (h : s.msrBit msrIR = false) : fetchReal s = .ok s.fetchAddress := by
  have hrel : s.relocates .ifetch = false := h
  rw [fetchReal, translate, hrel]
  rfl

/-- The SRR1 status of a failed fetch lies in the bits that hold interrupt status. -/
theorem fetchFaultStatus_and (f : TranslationFault) : fetchFaultStatus f &&& srr1StatusMask = fetchFaultStatus f := by
  unfold fetchFaultStatus
  generalize f.notFound = a, f.directStore = b, f.protection = c, f.segmentMiss = d
  decide +revert

theorem takeInterrupt_instructionStorage_srr1 {s : State} {bits : Dword} (h : bits &&& srr1StatusMask = bits) :
    (takeInterrupt (.instructionStorage bits) s).srr1 = s.narrow (bits ||| (s.msr &&& ~~~ 0x783F0000)) := by
  show s.narrow (merge srr1StatusMask bits s.msr) = _
  rw [merge, h]
  rfl

theorem wordAddresses_nodup (real : Dword) : (wordAddresses real).Nodup := by
  simp only [wordAddresses, List.nodup_cons, List.mem_cons, List.not_mem_nil, or_false, not_or, List.nodup_nil, and_true,
    not_false_eq_true]
  bv_omega

/-- A word that is placed is fetched, from wherever the fetch goes. -/
theorem placeWord_of_fetchReal {s : State} {real : Dword} (w : Word) (h : fetchReal s = .ok real) :
    s.withFetchWord 32 w.toNat = { s with mem := s.mem.writeAll (wordAddresses real) (bytesOfWord w) } := by
  rw [State.withFetchWord, BitVec.ofNat_toNat, BitVec.setWidth_eq, State.placeWord, h]

/-- Settles O3: with relocation off the fetch does not look at storage, so it finds the placed word. -/
theorem fetch : Obligations.Fetch := by
  refine ⟨fun s hir => ?_, fun s hir => ⟨fun real attrs htr => ⟨fun hds => ?_, fun hds => ?_⟩, fun f htr => ?_⟩,
    fun s real w hwf hfetch hmoves => ?_⟩
  · have hreal := fetchReal_unrelocated hir
    exact ⟨hreal, fetchDecode_of_fetchReal hreal⟩
  · have hreal : fetchReal s = .ok real := by
      rw [fetchReal, State.fetchAddress, htr]
      exact if_neg (by simp [hds])
    exact ⟨hreal, fetchDecode_of_fetchReal hreal⟩
  · have hreal : fetchReal s = .error 0x10000000 := by
      rw [fetchReal, State.fetchAddress, htr]
      exact if_pos hds
    refine ⟨hreal, ?_, takeInterrupt_instructionStorage_srr1 (by decide)⟩
    rw [fetchDecode, hreal]
  · have hreal : fetchReal s = .error (fetchFaultStatus f) := by
      rw [fetchReal, State.fetchAddress, htr]
    refine ⟨hreal, ?_, takeInterrupt_instructionStorage_srr1 (fetchFaultStatus_and f)⟩
    rw [fetchDecode, hreal]
    rfl
  · have hplace := placeWord_of_fetchReal w hfetch
    have hagain : fetchReal (s.withFetchWord 32 w.toNat) = .ok real := by
      rcases hmoves with hir | h
      · rw [fetchReal_unrelocated hir] at hfetch
        rw [fetchReal_unrelocated (s := s.withFetchWord 32 w.toNat) (by rw [hplace]; exact hir), hplace]
        exact hfetch
      · exact h
    have hread : (s.withFetchWord 32 w.toNat).mem.readAll (wordAddresses real) = bytesOfWord w := by
      rw [hplace]
      exact Memory.readAll_writeAll hwf (wordAddresses_nodup real) rfl
    refine ⟨?_, by rw [hplace], fun a ha => ?_⟩
    · rw [fetchDecode_of_fetchReal hagain, hread, decodeBytes_bytesOfWord]
    · rw [hplace]
      exact Memory.read_writeAll_other hwf ha

/-! ## O4 -/

/-- Settles O4: each word is the encoding of its instruction; opcode 0 is illegal. -/
theorem decodeWords : Obligations.DecodeWords := by
  have ofEncode {w : Word} {i : Instr} (h : encode i = w) : decode w = .instr i := decode_eq_instr_iff.mpr h
  exact ⟨ofEncode rfl, ofEncode rfl, ofEncode rfl, ofEncode rfl, ofEncode rfl, ofEncode rfl, ofEncode rfl, ofEncode rfl,
    ofEncode rfl, ofEncode rfl, ofEncode rfl, rfl⟩

end Sys2Proof.Machine

/-! SUPPORT. The storage control instructions (47_storage_control.md). The idea: each is its decode-time checks before a body
that advances pc, where the translation of its address succeeds. -/

namespace Sys2Proof.Machine

open Laws

section
variable {s : State} {real : Dword} {attrs : StorageAttrs} {ea : Dword}

theorem cacheBlock_of_ok {kind : AccessKind} (h : translate s kind (s.iea ea) = .ok (real, attrs)) :
    cacheBlock kind ea s = .next s.advance := by
  rw [cacheBlock, h]
  rfl

/-- Where `dcbz` is stopped neither by its alignment case nor by a direct-store segment, the block becomes zero. -/
theorem zeroBlock_of_ok {i : Instr} (h : translate s .store (blockBase s.cfg (s.iea ea)) = .ok (real, attrs))
    (hds : attrs.directStore = false)
    (hclass : s.cfg.align.zeroBlock = .perform ∨ s.msrBit msrDR = false ∨
      (attrs.writeThrough = false ∧ attrs.cachingInhibited = false)) :
    zeroBlock i ea s =
      .next { s with
        mem := s.mem.writeAll (blockReals s.cfg real) (List.replicate (2 ^ s.cfg.blockLog2) 0) }.advance := by
  have htraps : (choiceTraps s.cfg.align.zeroBlock i (s.iea ea) s && s.msrBit msrDR &&
      (attrs.writeThrough || attrs.cachingInhibited)) = false := by
    rcases hclass with h | h | ⟨hw, hc⟩
    · rw [h]; rfl
    · rw [h, Bool.and_false, Bool.false_and]
    · rw [hw, hc, Bool.or_self, Bool.and_false]
  simp only [zeroBlock, h, htraps, hds]
  rfl

/-- In supervisor state an instruction whose only requirement is privilege runs its body. -/
theorem exec_supervisor {i : Instr} {body : Result} (hexec : exec i s = admitted i s body) (hpr : s.msrBit msrPR = false)
    (himpl : implemented (i.req s.cfg) s.cfg = true) (hfp : (i.req s.cfg).fp = false) (hf : i.formValid = true)
    (hh : i.formValidHere s.cfg s.xer = true) : exec i s = body :=
  exec_of_admission hexec ((admission_execute_iff i s).mpr
    ⟨himpl, fun _ => hpr, fun h => absurd (hfp.symm.trans h) Bool.false_ne_true, hf, hh⟩)

end

/-- Settles O26: the bodies above, in the order of the statement. -/
theorem storageControl : Obligations.StorageControl := by
  intro s ra rb ea passes block
  have cache {i : Instr} {kind : AccessKind} {real : Dword} {attrs : StorageAttrs}
      (h : translate s kind ea = .ok (real, attrs)) (hexec : exec i s = cacheBlock kind (eaX s ra rb) s) : passes i :=
    hexec.trans (cacheBlock_of_ok h)
  refine ⟨exec_free (i := .sync) rfl rfl rfl rfl, exec_free (i := .eieio) rfl rfl rfl rfl,
    exec_free (i := .dcbt ra rb) rfl rfl rfl rfl, exec_free (i := .dcbtst ra rb) rfl rfl rfl rfl,
    fun real attrs htr => ⟨cache htr (exec_free rfl rfl rfl rfl), cache htr (exec_free rfl rfl rfl rfl),
      cache htr (exec_free rfl rfl rfl rfl)⟩,
    fun hpr => ⟨fun real attrs htr => cache htr (exec_supervisor rfl hpr rfl rfl rfl rfl),
      exec_supervisor (i := .tlbie rb) rfl hpr rfl rfl rfl rfl, fun hhas => ?_, fun hhas => ?_,
      fun h64 => ⟨fun hhas => ?_, fun hhas => ?_⟩⟩,
    fun real attrs htr hds hclass =>
      (exec_free (i := .dcbz ra rb) rfl rfl rfl rfl).trans (zeroBlock_of_ok htr hds hclass)⟩
  · exact exec_supervisor (i := .tlbia) rfl hpr (by show (s.cfg.hasTlbia && true) = true; rw [hhas]; rfl) rfl rfl rfl
  · exact exec_supervisor (i := .tlbsync) rfl hpr (by show (s.cfg.hasTlbsync && true) = true; rw [hhas]; rfl) rfl rfl rfl
  · exact exec_supervisor (i := .slbie rb) rfl hpr (implemented_of_only64 rfl hhas h64) rfl rfl rfl
  · exact exec_supervisor (i := .slbia) rfl hpr (implemented_of_only64 rfl hhas h64) rfl rfl rfl

/-- Settles O27: `isync` is one word, with an encoding that decodes to it alone. -/
theorem instructionSynchronize : Obligations.InstructionSynchronize :=
  ⟨rfl, fun _ => decode_eq_instr_iff.trans eq_comm, fun _ => exec_free (i := .isync) rfl rfl rfl rfl⟩

end Sys2Proof.Machine


/-! SUPPORT. The supervisor instructions (48_supervisor.md R670 to R676, R683, R684). The idea: an alteration of a context is
one operation, `contextAltered`, so each instruction is settled by its admission and by what its requirement comes to in the
states the statement names. -/

namespace Sys2Proof.Machine

open Laws

/-! ## What the MSR holds -/

theorem bit_zext_lowWord (x : Dword) {k : Nat} (hk : k < 64) :
    bit (zext (lowWord x)) k = (bit x k && decide (32 ≤ k)) := by
  simp only [bit, zext, lowWord, BitVec.getMsbD, BitVec.getLsbD_setWidth, hk, decide_true, Bool.true_and]
  rw [show decide (64 - 1 - k < 32) = decide (32 ≤ k) from decide_eq_decide.mpr (by omega),
    decide_eq_true (show 64 - 1 - k < 64 by omega), Bool.true_and, Bool.and_comm]

theorem bit_msrStored (c : Config) (v : Dword) {k : Nat} (hk : k < 64) :
    bit (msrStored c v) k = true ↔ bit v k = true ∧
      (((k = 0 ∧ c.impl64 = true) ∨ k = 45 ∨ (47 ≤ k ∧ k ≤ 55) ∨ k = 57 ∨ k = 58 ∨ k = 59 ∨ k = 62 ∨ k = 63) ∨
        (bit c.msrCopy k = true ∧ (c.impl64 = true ∨ 32 ≤ k))) := by
  have hsf : bit (oneBit 64 msrSF) k = decide (k = 0) := by decide +revert
  have hzero : bit (0 : Dword) k = false := BitVec.getMsbD_zero
  have hrest : bit (0x5FF73 : Dword) k =
      decide (k = 45 ∨ (47 ≤ k ∧ k ≤ 55) ∨ k = 57 ∨ k = 58 ∨ k = 59 ∨ k = 62 ∨ k = 63) := by decide +revert
  rw [msrStored, msrDefined, bit_and, bit_or, bit_or, hrest, Bool.and_eq_true, Bool.or_eq_true, Bool.or_eq_true]
  cases c.impl64 <;> simp [hsf, bit_zext_lowWord _ hk, show bit 0#64 k = false from hzero]

/-! ## Instructions that alter a context -/

section
variable {s : State} {i : Instr} {broken : Bool} {t : State}

/-- An instruction that is admitted and alters a context: by the requirement and the configuration's policy. -/
theorem exec_alters (hexec : exec i s = contextAltered broken t) (hcfg : t.cfg = s.cfg) :
    (broken = false → exec i s = .next t) ∧
    (broken = true → s.cfg.context = .refuse → exec i s = .refused .contextAlteration) ∧
    (broken = true → s.cfg.context = .execute → exec i s = .next { t with flagged := true }) := by
  rw [hexec, ← hcfg]
  exact ⟨fun hb => contextAltered_of_kept hb t, fun hb => (contextAltered_of_broken hb).1,
    fun hb => (contextAltered_of_broken hb).2⟩

/-! ## The requirement on the MSR (70_reset_and_hazards.md R806) -/

theorem findTranslation_of_no_kind {l : List TranslationEntry} {kind : AccessKind} (h : ∀ e ∈ l, e.kind ≠ kind)
    (page : BitVec 52) (priv : Bool) : findTranslation s l page kind priv = none := by
  induction l with
  | nil => rfl
  | cons e rest ih =>
    rw [findTranslation, if_neg fun hc => h e List.mem_cons_self hc.2.1]
    exact ih fun e he => h e (List.mem_cons_of_mem _ he)

/-- A table without a line about fetching leaves every address as it is. -/
theorem fetchedIdentically_of_no_ifetch (h : ∀ e ∈ s.cfg.xlate, e.kind ≠ .ifetch) : fetchedIdentically s = true := by
  have htr (a : Dword) : translate s .ifetch a = .ok (a, {}) := by
    rw [translate, findTranslation_of_no_kind h]
    split <;> rfl
  rw [fetchedIdentically, fetchReal, htr]
  exact beq_self_eq_true _

theorem relocationBroken_of_kept {m : Dword}
    (h : bit m msrIR = s.msrBit msrIR ∨ ∀ e ∈ s.cfg.xlate, e.kind ≠ .ifetch) : relocationBroken s m = false := by
  unfold relocationBroken
  dsimp only
  rcases h with h | h
  · rw [show State.msrBit { s with msr := m } msrIR = s.msrBit msrIR from h]
    simp
  · have hon (t : State) (ht : t.cfg = s.cfg) : fetchedIdentically t = true :=
      fetchedIdentically_of_no_ifetch (ht ▸ h)
    rw [hon _ (by split <;> rfl), hon _ (by split <;> rfl)]
    simp

theorem relocationBroken_of_unmapped {m : Dword} (hir : s.msrBit msrIR = true) (hm : bit m msrIR = false)
    (hreal : fetchReal s ≠ .ok s.fetchAddress) : relocationBroken s m = true := by
  have hident : fetchedIdentically s = false := by
    unfold fetchedIdentically
    split
    next real heq => exact beq_eq_false_iff_ne.mpr fun h => hreal (by rw [heq, h])
    next => rfl
  unfold relocationBroken
  dsimp only
  rw [show State.msrBit { s with msr := m } msrIR = false from hm, hir]
  simp [hident]

theorem msrBroken_of_kept {m : Dword} (hir : bit m msrIR = s.msrBit msrIR ∨ ∀ e ∈ s.cfg.xlate, e.kind ≠ .ifetch)
    (hpow : s.cfg.powSequence = false ∨ bit m msrPOW = s.msrBit msrPOW)
    (hle : s.cfg.leSequence = false ∨ bit m msrLE = s.msrBit msrLE) : msrBroken s m = false := by
  have hp : powerBroken s m = false := by
    rcases hpow with h | h <;> simp [powerBroken, h]
  have hl : (s.cfg.leSequence && bit m msrLE != s.msrBit msrLE) = false := by
    rcases hle with h | h <;> simp [h]
  rw [msrBroken, relocationBroken_of_kept hir, hp, hl]
  rfl

/-! ## The requirement on a Segment Register (70_reset_and_hazards.md R807) -/

theorem xor_and {w : Nat} (a b m : BitVec w) : (a ^^^ b) &&& m = (a &&& m) ^^^ (b &&& m) := by
  ext k hk
  simp [Bool.and_xor_distrib_right]

theorem segmentBroken_iff {k : BitVec 4} {v : Word} :
    segmentBroken s k v = true ↔ s.cfg.xlate ≠ [] ∧ s.msrBit msrIR = true ∧
      ((segmentOf s.pc = k ∧ (fetchAttrs { s with pc := s.pc }).block = none) ∨
        (segmentOf s.nextPc = k ∧ (fetchAttrs { s with pc := s.nextPc }).block = none)) ∧
      s.srOf k &&& ~~~ s.cfg.excepted.segment ≠ v &&& ~~~ s.cfg.excepted.segment := by
  have hxor : (s.srOf k ^^^ v) &&& ~~~ s.cfg.excepted.segment ≠ 0 ↔
      s.srOf k &&& ~~~ s.cfg.excepted.segment ≠ v &&& ~~~ s.cfg.excepted.segment := by
    rw [ne_eq, ne_eq, not_iff_not, xor_and]
    exact BitVec.xor_eq_zero_iff
  simp only [segmentBroken, State.identityTranslation, Bool.and_eq_true, Bool.or_eq_true, Bool.not_eq_true',
    List.isEmpty_eq_false_iff, beq_iff_eq, bne_iff_ne, hxor, and_assoc]

/-- What the statement of O28 says of a move to Segment Register `k`. -/
theorem segment_altered {i : Instr} {k : BitVec 4} {v : Word}
    (hexec : exec i s = contextAltered (segmentBroken s k v) (s.setSr k v).advance) :
    ((segmentBroken s k v = false → exec i s = .next (s.setSr k v).advance) ∧
      (segmentBroken s k v = true → s.cfg.context = .refuse → exec i s = .refused .contextAlteration) ∧
      (segmentBroken s k v = true → s.cfg.context = .execute →
        exec i s = .next { (s.setSr k v).advance with flagged := true })) ∧
    (s.cfg.xlate = [] → segmentBroken s k v = false) ∧
    (s.msrBit msrIR = false → segmentBroken s k v = false) ∧
    (slice s.pc 32 4 ≠ k → slice s.nextPc 32 4 ≠ k → segmentBroken s k v = false) ∧
    (s.srOf k &&& ~~~ s.cfg.excepted.segment = v &&& ~~~ s.cfg.excepted.segment → segmentBroken s k v = false) ∧
    (s.cfg.xlate ≠ [] → s.msrBit msrIR = true → slice s.pc 32 4 = k →
      (∃ real attrs, translate s .ifetch s.fetchAddress = .ok (real, attrs) ∧ attrs.block = none) →
      s.srOf k &&& ~~~ s.cfg.excepted.segment ≠ v &&& ~~~ s.cfg.excepted.segment → segmentBroken s k v = true) := by
  refine ⟨exec_alters hexec rfl, fun hx => segmentBroken_of_identity hx k v, fun hir => ?_, fun hpc hnext => ?_,
    fun hkeys => ?_, fun hx hir hpc hmapped hother => ?_⟩
  · refine Bool.eq_false_iff.mpr fun h => ?_
    obtain ⟨-, hir', -⟩ := segmentBroken_iff.mp h
    exact Bool.false_ne_true (hir.symm.trans hir')
  · refine Bool.eq_false_iff.mpr fun h => ?_
    obtain ⟨-, -, h | h, -⟩ := segmentBroken_iff.mp h
    · exact hpc h.1
    · exact hnext h.1
  · refine Bool.eq_false_iff.mpr fun h => ?_
    obtain ⟨-, -, -, hne⟩ := segmentBroken_iff.mp h
    exact hne hkeys
  · obtain ⟨real, attrs, htr, hblock⟩ := hmapped
    have hattrs : (fetchAttrs { s with pc := s.pc }).block = none := by
      rw [fetchAttrs, htr]
      exact hblock
    exact segmentBroken_iff.mpr ⟨hx, hir, .inl ⟨hpc, hattrs⟩, hother⟩

end

/-- Settles O28: each instruction is admitted in supervisor state and is an alteration of a context, or a plain move. -/
theorem supervisorMoves : Obligations.SupervisorMoves := by
  refine ⟨fun c v k hk => bit_msrStored c v hk, fun s r rb n hpr => ?_⟩
  refine ⟨exec_alters (exec_supervisor (i := .rfi) rfl hpr rfl rfl rfl rfl) rfl,
    exec_alters (exec_supervisor (i := .mtmsr r) rfl hpr rfl rfl rfl rfl) rfl, msrBroken_of_kept,
    fun hir hm hreal => ?_, exec_supervisor (i := .mfmsr r) rfl hpr rfl rfl rfl rfl, fun h32 => ?_⟩
  · rw [msrBroken, relocationBroken_of_unmapped hir hm hreal]
    rfl
  · have only32 {i : Instr} {body : Result} (hexec : exec i s = admitted i s body) (havail : (i.req s.cfg).avail = .only32)
        (hpres : (i.req s.cfg).present = true) (hfp : (i.req s.cfg).fp = false) (hf : i.formValid = true)
        (hh : i.formValidHere s.cfg s.xer = true) : exec i s = body :=
      exec_supervisor hexec hpr (by simp [implemented, havail, hpres, h32]) hfp hf hh
    exact ⟨segment_altered (only32 (i := .mtsr n r) rfl rfl rfl rfl rfl rfl),
      segment_altered (only32 (i := .mtsrin r rb) rfl rfl rfl rfl rfl rfl),
      only32 (i := .mfsr r n) rfl rfl rfl rfl rfl rfl, only32 (i := .mfsrin r rb) rfl rfl rfl rfl rfl rfl⟩

end Sys2Proof.Machine

/-! SUPPORT. External Control (48_supervisor.md R683, R684). The idea: the mark of an operation with `MSR_DR = 0` changes
neither the alignment nor the translation, so the operation in the marked state is stopped where it is in the unmarked one. -/

namespace Sys2Proof.Machine

open Laws

section
variable {s : State} {i : Instr} {kind : AccessKind} {ea : Dword} {rt r ra rb : Gpr}

/-- The state in which an External Control operation is performed. -/
def State.controlling (s : State) : State := if s.msrBit msrDR then s else { s with flagged := true }

/-- What does not read the mark is the same in the state the operation is performed in. -/
theorem controlling_keeps {α : Type} (f : State → α) (h : f { s with flagged := true } = f s) : f s.controlling = f s := by
  unfold State.controlling
  split
  · rfl
  · exact h

theorem translate_controlling (hkind : kind ≠ .ifetch) (a : Dword) : translate s.controlling kind a = translate s kind a := by
  unfold State.controlling
  split
  next => rfl
  next hdr =>
    have hrel : s.relocates kind = false := by
      cases kind with
      | ifetch => exact absurd rfl hkind
      | load => exact Bool.eq_false_iff.mpr hdr
      | store => exact Bool.eq_false_iff.mpr hdr
    have hrel' : State.relocates { s with flagged := true } kind = false := by cases kind <;> exact hrel
    rw [translate, translate, hrel, hrel']
    rfl

/-- What stops an External Control operation, in the state it is performed in. -/
theorem externalReal_controlling (hkind : kind ≠ .ifetch) :
    externalReal i kind ea s.controlling = externalReal i kind ea s := by
  have htr := translate_controlling (s := s) hkind
  have htraps : alignmentTraps i s.controlling .external kind (s.iea ea) 4 = alignmentTraps i s .external kind (s.iea ea) 4 :=
    controlling_keeps (fun u => alignmentTraps i u .external kind (s.iea ea) 4) rfl
  unfold externalReal
  rw [controlling_keeps (fun u => u.iea ea) rfl, controlling_keeps (fun u => u.earEnabled) rfl,
    controlling_keeps (fun u => u.msrBit msrLE) rfl, htraps, htr,
    controlling_keeps (fun u => alignmentCause i .other ea u) rfl]

theorem externalControl_of_defined {body : State → Result}
    (h : s.msrBit msrDR = true ∨ s.cfg.invalidForm = .illegal) : externalControl s body = body s.controlling := by
  unfold externalControl State.controlling
  split
  · rfl
  next hdr => rw [h.resolve_left hdr]

theorem externalControl_of_refused {body : State → Result} (hdr : s.msrBit msrDR = false)
    (h : s.cfg.invalidForm = .refuse) : externalControl s body = .refused .boundedlyUndefined := by
  rw [externalControl, hdr, h]
  rfl

theorem externalReal_of_traps (h : alignmentTraps i s .external kind (s.iea ea) 4 = true) :
    externalReal i kind ea s = .error (.interrupt (alignmentCause i .other ea s)) := by
  rw [externalReal, if_pos h]

theorem externalReal_of_disabled (h : alignmentTraps i s .external kind (s.iea ea) 4 = false) (he : bit s.ear 0 = false) :
    externalReal i kind ea s = .error (.interrupt (.dataStorage (oneBit 32 11) none)) := by
  rw [externalReal, if_neg (by simp [h]), State.earEnabled, he]
  rfl

theorem externalReal_of_ok {real : Dword} {attrs : StorageAttrs}
    (h : alignmentTraps i s .external kind (s.iea ea) 4 = false) (he : bit s.ear 0 = true)
    (htr : translate s kind (if s.msrBit msrLE then s.iea ea ^^^ 4 else s.iea ea) = .ok (real, attrs))
    (hds : attrs.directStore = false) : externalReal i kind ea s = .ok real := by
  rw [externalReal, if_neg (by simp [h]), State.earEnabled, he, htr]
  simp [hds]

/-- An External Control operation that is stopped ends in the interrupt, in the state it is performed in. -/
theorem external_of_stop {e : Stop} (hkind : kind ≠ .ifetch) (h : externalReal i kind ea s = .error e) :
    (kind = .load → externalIn i rt ea s.controlling = e.outcome s.controlling) ∧
    (kind = .store → ∀ v, externalOut i v ea s.controlling = e.outcome s.controlling) := by
  rw [← externalReal_controlling hkind] at h
  constructor
  · rintro rfl
    rw [externalIn, h]
  · rintro rfl v
    rw [externalOut, h]

/-- An instruction without another form reports its own. -/
theorem alignmentCause_of_no_alternate {regs : DsisrRegs} (h : alternateForm i = none) (u : State) :
    alignmentCause i regs ea u =
      .alignment (alignmentDsisr u.cfg.impl64 (encode i) regs (u.free 0)) (u.iea ea) := by
  rw [alignmentCause, reportedForm_of_none h]

theorem externalIn_of_ok {u : State} {real : Dword} (h : externalReal i .load ea u = .ok real) :
    (∀ w rest, u.extIn = w :: rest →
      externalIn i rt ea u = .next { u.setX rt (zext w) with
        extIn := rest, extOut := u.extOut ++ [ExtRequest.load u.earRid real] }.advance) ∧
    (u.extIn = [] →
      externalIn i rt ea u = .next ({ u.setX rt (zext (lowWord (u.free 0))) with
        extOut := u.extOut ++ [ExtRequest.load u.earRid real] }.drawn 1).advance) := by
  constructor
  · intro w rest hin
    rw [externalIn, h]
    dsimp only
    rw [hin]
    rfl
  · intro hin
    rw [externalIn, h]
    dsimp only
    split
    next heq => cases hin.symm.trans heq
    next => rfl

theorem admission_external (h : s.cfg.hasExternalControl = true) :
    admission (.eciwx rt ra rb) s = .execute ∧ admission (.ecowx rt ra rb) s = .execute := by
  have himpl : implemented { present := s.cfg.hasExternalControl } s.cfg = true := by rw [h]; rfl
  exact ⟨(admission_execute_iff (.eciwx rt ra rb) s).mpr ⟨himpl, nofun, nofun, rfl, rfl⟩,
    (admission_execute_iff (.ecowx rt ra rb) s).mpr ⟨himpl, nofun, nofun, rfl, rfl⟩⟩

/-- The two instructions, in the state they are performed in. -/
theorem exec_external (h : s.cfg.hasExternalControl = true) (hmode : s.msrBit msrDR = true ∨ s.cfg.invalidForm = .illegal) :
    exec (.eciwx r ra rb) s = externalIn (.eciwx r ra rb) r (eaX s ra rb) s.controlling ∧
    exec (.ecowx r ra rb) s = externalOut (.ecowx r ra rb) (s.x r) (eaX s ra rb) s.controlling :=
  ⟨(exec_of_admission rfl (admission_external h).1).trans (externalControl_of_defined hmode),
    (exec_of_admission rfl (admission_external h).2).trans (externalControl_of_defined hmode)⟩

end

end Sys2Proof.Machine

namespace Sys2Proof

open Machine

/-- Settles O29: which of the three ends an operation has is what `externalReal` answers, and that is the same in the marked
state. -/
theorem externalControl : Obligations.ExternalControl := by
  intro s r ra rb hext ea a rid u
  have hea : ea = eaX s ra rb := rfl
  clear_value ea
  subst hea
  refine ⟨fun hdr hrefuse => ?_, fun hmode => ?_⟩
  · exact ⟨(exec_of_admission rfl (admission_external hext).1).trans (externalControl_of_refused hdr hrefuse),
      (exec_of_admission rfl (admission_external hext).2).trans (externalControl_of_refused hdr hrefuse)⟩
  · intro misaligned
    obtain ⟨hin, hout⟩ := exec_external (r := r) (ra := ra) (rb := rb) hext hmode
    have hload : AccessKind.load ≠ .ifetch := nofun
    have hstore : AccessKind.store ≠ .ifetch := nofun
    have hextIn : s.controlling.extIn = s.extIn := controlling_keeps (·.extIn) rfl
    have hextOut : s.controlling.extOut = s.extOut := controlling_keeps (·.extOut) rfl
    have hrid : s.controlling.earRid = rid := controlling_keeps (·.earRid) rfl
    have hfree : s.controlling.free 0 = s.free 0 := controlling_keeps (·.free 0) rfl
    refine ⟨fun ht => ?_, fun ht => ?_, fun ht he => ?_, fun ht he => ?_, fun real attrs ht he htr hds => ?_,
      fun real attrs ht he htr hds => ?_⟩
    · rw [hin, (external_of_stop hload (externalReal_of_traps ht)).1 rfl, alignmentCause_of_no_alternate rfl]
      rfl
    · rw [hout, (external_of_stop (rt := r) hstore (externalReal_of_traps ht)).2 rfl, alignmentCause_of_no_alternate rfl]
      rfl
    · rw [hin, (external_of_stop hload (externalReal_of_disabled ht he)).1 rfl]
      rfl
    · rw [hout, (external_of_stop (rt := r) hstore (externalReal_of_disabled ht he)).2 rfl]
      rfl
    · have hreal := (externalReal_controlling hload).trans (externalReal_of_ok ht he htr hds)
      refine ⟨fun w rest hw => ?_, fun hnil => ?_⟩
      · rw [hin, (externalIn_of_ok hreal).1 w rest (hextIn.trans hw), hextOut, hrid]
        rfl
      · rw [hin, (externalIn_of_ok hreal).2 (hextIn.trans hnil), hextOut, hrid, hfree]
        rfl
    · have hreal := (externalReal_controlling hstore).trans (externalReal_of_ok ht he htr hds)
      rw [hout, externalOut, hreal]
      dsimp only
      rw [hextOut, hrid]
      rfl

end Sys2Proof


/-! SUPPORT. Interrupts (60_exceptions.md R701 to R722, R782). The idea: the new MSR is four masks of the old one, so each of
its bits is read off; and a step that takes an asynchronous interrupt found its request enabled, because an instruction raises
none of these. -/

namespace Sys2Proof.Machine

open Laws

/-! ## The MSR of interrupt entry -/

theorem bit_oneBit {w k j : Nat} (hk : k < w) (hj : j < w) : bit (oneBit w j) k = decide (k = j) := by
  rw [oneBit, bit, BitVec.getMsbD, decide_eq_true hk, Bool.true_and, BitVec.getLsbD_twoPow]
  rw [Bool.eq_iff_iff]
  simp only [Bool.and_eq_true, decide_eq_true_eq]
  omega

/-- A mask that is there under a condition. -/
theorem bit_ite_oneBit (b : Bool) {k j : Nat} (hk : k < 64) (hj : j < 64) :
    bit (if b then oneBit 64 j else 0) k = (b && decide (k = j)) := by
  cases b
  · exact BitVec.getMsbD_zero
  · exact bit_oneBit hk hj

/-- Each bit of the MSR after an interrupt (60_exceptions.md R703). -/
theorem bit_interruptMsr (c : IntrKind) (s : State) {k : Nat} (hk : k < 64) :
    bit (interruptMsr c s) k =
      ((s.cfg.impl64 && decide (k = 0)) || (s.msrBit k && (decide (k = 57) || decide (k = 47))) ||
        (s.msrBit msrILE && decide (k = 63)) || (s.msrBit k && decide (k = 51) && c != .machineCheck)) := by
  have hme : bit (if c = .machineCheck then 0 else s.msr &&& oneBit 64 msrME) k =
      (s.msrBit k && decide (k = 51) && c != .machineCheck) := by
    by_cases hc : c = .machineCheck
    · rw [if_pos hc, hc, bne_self_eq_false, Bool.and_false]
      exact BitVec.getMsbD_zero
    · rw [if_neg hc, bit_and, bit_oneBit hk (by decide), bne_iff_ne.mpr hc, Bool.and_true]
      rfl
  rw [interruptMsr, bit_or, bit_or, bit_or, bit_and, bit_or, bit_ite_oneBit _ hk (by decide),
    bit_ite_oneBit _ hk (by decide), bit_oneBit hk (by decide), bit_oneBit hk (by decide), hme]
  rfl

/-! ## What an interrupt saves -/

/-- Where SRR1 keeps the bits of the MSR that hold no status. -/
theorem narrow_merge_and_not (s : State) (m free : Dword) :
    s.narrow (merge m free s.msr) &&& ~~~ m = s.narrow s.msr &&& ~~~ m := by
  rw [← State.narrow_and, merge_and_not, State.narrow_and]

theorem bit_narrow (s : State) (v : Dword) {k : Nat} (hk : k < 64) (hlow : 32 ≤ k) : bit (s.narrow v) k = bit v k := by
  unfold State.narrow
  split
  · rfl
  · rw [bit_zext_lowWord v hk, decide_eq_true hlow, Bool.and_true]

theorem kind_bne (c : Cause) :
    (c.kind != .systemReset) = (c != .systemReset) ∧ (c.kind != .machineCheck) = (c != .machineCheck) ∧
      (c.kind != .decrementer) = (c != .decrementer) := by
  cases c <;> exact ⟨rfl, rfl, rfl⟩

theorem floating_iff (c : Cause) :
    c.floating = true ↔ c = .program .fpEnabled ∨ c = .program .fpEnabledLate ∨ c = .fpAssist := by
  cases c with
  | program k => cases k <;> simp [Cause.floating]
  | _ => simp [Cause.floating]

theorem synchronizes_eq_false_iff (c : Cause) (s : State) :
    c.synchronizes s = false ↔ (c = .systemReset ∨ c = .machineCheck) ∧ s.msrBit msrRI = false := by
  cases c <;> simp [Cause.synchronizes]

/-- Settles O44: field by field; each bit of the new MSR by `bit_interruptMsr`. -/
theorem interruptEntry : Obligations.InterruptEntry := by
  intro s c t offset floating status saved
  have hmsr {k : Nat} (hk : k < 64) := bit_interruptMsr c.kind s hk
  obtain ⟨hreset, hmcheck, hdec⟩ := kind_bne c
  refine ⟨?_, ?_, ?_, ?_, ?_, ?_, ?_, fun k hk hnot => ?_, ?_, ?_, fun h => ?_, fun hf hp => ?_, rfl, ?_, ?_, ?_, ?_, rfl, ?_⟩
  · cases c <;> rfl
  · cases c with
    | machineCheck =>
      exact (bit_narrow s _ (by decide) (by decide)).trans ((bit_withBit _ _ (by decide) (by decide)).trans (if_pos rfl))
    | systemCall => exact narrow_merge_and_not s _ _
    | trace => exact narrow_merge_and_not s _ _
    | fpAssist => exact narrow_merge_and_not s _ _
    | program k => cases k <;> rfl
    | _ => rfl
  · exact (hmsr (by decide)).trans (by simp [msrSF])
  · exact (hmsr (by decide)).trans (by simp [msrIP])
  · exact (hmsr (by decide)).trans (by simp [msrILE])
  · exact (hmsr (by decide)).trans (by simp [msrLE])
  · exact (hmsr (by decide)).trans (by simp [msrME, ← hmcheck])
  · simp only [List.mem_cons, List.not_mem_nil, or_false, not_or] at hnot
    exact (hmsr hk).trans (by simp [hnot])
  · cases c <;> rfl
  · cases c <;> rfl
  · have hnone : (s.cfg.fpecrPresent && c.floating) = false := by
      rcases h with h | h
      · rw [Bool.eq_false_iff.mpr fun hf => h ((floating_iff c).mp hf), Bool.and_false]
      · rw [h, Bool.false_and]
    exact if_neg (Bool.eq_false_iff.mp hnone)
  · exact if_pos (by rw [hp, (floating_iff c).mpr hf]; rfl)
  · cases c with
    | dataStorage d a =>
      refine ⟨rfl, ?_⟩
      rintro v rfl
      rfl
    | _ => exact ⟨rfl, rfl⟩
  · rw [← hreset]; rfl
  · rw [← hmcheck]; rfl
  · rw [← hdec]; rfl
  · show (if c.synchronizes s then noneAltered else s.ibatAltered) = _
    rw [← ite_not]
    refine ite_congr (propext ?_) (fun _ => rfl) fun _ => rfl
    rw [Bool.not_eq_true]
    exact synchronizes_eq_false_iff c s

/-! ## O45 -/

theorem narrow_of_msrStored {s : State} (h : msrStored s.cfg s.msr = s.msr) : s.narrow s.msr = s.msr := by
  unfold State.narrow
  split
  next => rfl
  next h32 =>
    apply BitVec.eq_of_getMsbD_eq
    intro k hk
    show bit _ k = bit _ k
    rw [bit_zext_lowWord _ hk, Bool.eq_iff_iff, Bool.and_eq_true, decide_eq_true_eq]
    refine ⟨And.left, fun hb => ⟨hb, ?_⟩⟩
    rw [← h, bit_msrStored _ _ hk] at hb
    rcases hb.2 with (⟨-, h64⟩ | h) | ⟨-, h64 | h⟩
    · exact absurd h64 h32
    · omega
    · exact absurd h64 h32
    · exact h

/-- The mask of `rfi` in the reference configuration takes no status bit. -/
theorem srr1_and_rfiMask {s : State} {c : Cause} (hsc : c ≠ .systemCall) (hmc : c ≠ .machineCheck) :
    c.srr1 s &&& 0xFFFFFFFF87C0FFFF = s.narrow s.msr &&& 0xFFFFFFFF87C0FFFF := by
  have hmask (bits : Dword) : s.narrow (merge srr1StatusMask bits s.msr) &&& 0xFFFFFFFF87C0FFFF =
      s.narrow s.msr &&& 0xFFFFFFFF87C0FFFF := narrow_merge_and_not s srr1StatusMask bits
  cases c with
  | systemCall => exact absurd rfl hsc
  | machineCheck => exact absurd rfl hmc
  | _ => exact hmask _

theorem merge_and {w : Nat} (m new old : BitVec w) : merge m new old &&& m = new &&& m := by
  ext k hk
  cases hm : m[k] <;> simp [merge, hm]

/-- An address that `pc` holds is the same taken as a register holds it. -/
theorem codeAddress_narrow (s : State) (v : Dword) : s.codeAddress (s.narrow v) = s.codeAddress v := by
  have hiea : s.iea (s.narrow v) = s.iea v := by
    unfold State.iea State.narrow State.mode64
    cases s.cfg.impl64
    · exact zext_lowWord_idem v
    · rfl
  rw [State.codeAddress, State.codeAddress, hiea]

theorem codeAddress_of_mode {s t : State} (h : t.mode64 = s.mode64) (v : Dword) : t.codeAddress v = s.codeAddress v := by
  rw [State.codeAddress, State.codeAddress, State.iea, State.iea, h]

/-- Bits of the MSR that the mask of the reference configuration covers come back. -/
theorem restored_msr {s : State} {c : Cause} (hsc : c ≠ .systemCall) (hmc : c ≠ .machineCheck)
    (hstored : msrStored s.cfg s.msr = s.msr) (old : Dword) :
    msrStored s.cfg (merge 0xFFFFFFFF87C0FFFF (s.narrow (c.srr1 s)) old) &&& 0xFFFFFFFF87C0FFFF =
      s.msr &&& 0xFFFFFFFF87C0FFFF := by
  have hsaved : s.narrow (c.srr1 s) &&& 0xFFFFFFFF87C0FFFF = s.msr &&& 0xFFFFFFFF87C0FFFF := by
    rw [← State.narrow_and, srr1_and_rfiMask hsc hmc, State.narrow_and, narrow_narrow, narrow_of_msrStored hstored]
  rw [msrStored, BitVec.and_assoc, BitVec.and_comm _ (0xFFFFFFFF87C0FFFF : Dword), ← BitVec.and_assoc, merge_and, hsaved,
    BitVec.and_assoc, BitVec.and_comm (0xFFFFFFFF87C0FFFF : Dword), ← BitVec.and_assoc]
  exact congrArg (· &&& (0xFFFFFFFF87C0FFFF : Dword)) hstored

/-- Settles O45: SRR1 holds the MSR outside the status bits, and the mask of `rfi` takes none of these; SF is among the bits
that come back, so `pc` does too. -/
theorem interruptThenReturn : Obligations.InterruptThenReturn := by
  intro s c hsc hmc hmask hpow hpc hstored
  have hbody : exec .rfi (takeInterrupt c s) =
      contextAltered (powerBroken (takeInterrupt c s) (returnFromInterrupt (takeInterrupt c s)).msr)
        (returnFromInterrupt (takeInterrupt c s)) :=
    exec_supervisor (i := .rfi) rfl (interruptMsr_pr c.kind s) rfl rfl rfl rfl
  have hkept : powerBroken (takeInterrupt c s) (returnFromInterrupt (takeInterrupt c s)).msr = false := by
    rw [powerBroken, State.takeInterrupt_cfg, hpow, Bool.false_and]
  have hsrr0 : c.srr0 s = s.pc := by
    cases c with
    | systemCall => exact absurd rfl hsc
    | _ => exact hpc
  have hmsr : (returnFromInterrupt (takeInterrupt c s)).msr &&& 0xFFFFFFFF87C0FFFF = s.msr &&& 0xFFFFFFFF87C0FFFF := by
    have hcopy : (returnFromInterrupt (takeInterrupt c s)).msr =
        msrStored s.cfg (merge s.cfg.rfiMask (s.narrow (c.srr1 s)) (interruptMsr c.kind s)) := rfl
    rw [hcopy, hmask]
    exact restored_msr hsc hmc hstored _
  refine ⟨_, hbody.trans (contextAltered_of_kept hkept _), ?_, ?_, rfl, rfl, rfl, rfl, rfl, rfl, rfl, rfl⟩
  · have hmode : (returnFromInterrupt (takeInterrupt c s)).mode64 = s.mode64 := by
      have hsf := congrArg (bit · msrSF) hmsr
      simp only [bit_and, show bit (0xFFFFFFFF87C0FFFF : Dword) msrSF = true from rfl, Bool.and_true] at hsf
      exact congrArg (s.cfg.impl64 && ·) hsf
    show (returnFromInterrupt (takeInterrupt c s)).codeAddress (s.narrow (c.srr0 s)) = s.pc
    rw [codeAddress_of_mode hmode, codeAddress_narrow, hsrr0, hpc]
  · show _ &&& s.cfg.rfiMask = _
    rw [hmask]
    exact hmsr

/-! ## The asynchronous interrupts -/

section
variable {s u : State}

theorem admissionBeforeForm_synchronous {i : Instr} {c : Cause} (h : admissionBeforeForm i s = some c) : c.Synchronous := by
  rcases admissionBeforeForm_cases h with rfl | rfl | rfl
  · exact program_synchronous _
  · exact program_synchronous _
  · exact ⟨nofun, nofun, nofun, nofun⟩

/-- The interrupts an instruction, or its fetch, may end in. -/
theorem runInstruction_lastInterrupt (hlast : s.lastInterrupt = none) (h : runInstruction s = .next u) :
    u.lastInterrupt ≠ some .external ∧ u.lastInterrupt ≠ some .decrementer := by
  have hexec (i : Instr) (t : State) (ht : exec i s = .next t) :
      t.lastInterrupt ≠ some .external ∧ t.lastInterrupt ≠ some .decrementer := by
    have hends := exec_ends i s
    rw [ht] at hends
    cases hends with
    | done hw => rw [hw.system.lastInterrupt, hlast]; exact ⟨nofun, nofun⟩
    | raised hw c hc =>
      obtain ⟨-, -, hdec, hext⟩ := hc
      exact ⟨fun h => hext (Option.some.inj h), fun h => hdec (Option.some.inj h)⟩
  have hraise (c : Cause) (hc : c.Synchronous) (ht : interrupt c s = .next u) :
      u.lastInterrupt ≠ some .external ∧ u.lastInterrupt ≠ some .decrementer := by
    obtain ⟨-, -, hdec, hext⟩ := hc
    rw [← Host.Outcome.next.inj ht]
    exact ⟨fun h => hext (Option.some.inj h), fun h => hdec (Option.some.inj h)⟩
  unfold runInstruction at h
  split at h
  next status _ => exact hraise (.instructionStorage status) ⟨nofun, nofun, nofun, nofun⟩ h
  next i _ =>
    obtain ⟨v, hv, hu⟩ := withTrace_cases h
    obtain ⟨t, ht, rfl | ⟨-, -, rfl⟩⟩ := withAssist_cases hv
    · rcases hu with rfl | ⟨-, -, -, rfl⟩
      · exact hexec i _ ht
      · exact ⟨nofun, nofun⟩
    · rcases hu with rfl | ⟨-, -, -, rfl⟩ <;> exact ⟨nofun, nofun⟩
  next i _ =>
    unfold reservedBitsForm at h
    split at h
    next c hc => exact hraise c (admissionBeforeForm_synchronous hc) h
    next =>
      unfold invalidForm at h
      split at h
      · exact hraise _ (program_synchronous _) h
      · cases h
  next => exact hraise _ (program_synchronous _) h

/-- The asynchronous interrupts are taken only where their request is enabled, External before the Decrementer. -/
theorem select_lastInterrupt (hlast : s.lastInterrupt = none) (h : select s = .next u) :
    (u.lastInterrupt = some .external → s.extPending = true ∧ s.msrBit msrEE = true) ∧
    (u.lastInterrupt = some .decrementer → (s.extPending && s.msrBit msrEE) = false ∧ s.msrBit msrEE = true) := by
  have hraise {c : Cause} (ht : interrupt c s = .next u) : u.lastInterrupt = some c.kind := by
    rw [← Host.Outcome.next.inj ht]
    rfl
  unfold select at h
  split at h
  next => rw [hraise h]; exact ⟨nofun, nofun⟩
  next =>
  split at h
  next =>
    split at h
    next => rw [hraise h]; exact ⟨nofun, nofun⟩
    next =>
      rw [← Host.Outcome.next.inj h]
      exact ⟨fun hk => (nomatch hlast.symm.trans hk), fun hk => (nomatch hlast.symm.trans hk)⟩
  next =>
  split at h
  next => rw [hraise h]; exact ⟨nofun, nofun⟩
  next =>
  split at h
  next hext => rw [hraise h]; exact ⟨fun _ => Bool.and_eq_true_iff.mp hext, nofun⟩
  next hext =>
  split at h
  next hdec =>
    rw [hraise h]
    exact ⟨nofun, fun _ => ⟨Bool.eq_false_iff.mpr hext, (Bool.and_eq_true_iff.mp hdec).2⟩⟩
  next =>
  split at h
  next =>
    rw [← Host.Outcome.next.inj h]
    exact ⟨fun hk => (nomatch hlast.symm.trans hk), fun hk => (nomatch hlast.symm.trans hk)⟩
  next =>
    obtain ⟨hext, hdec⟩ := runInstruction_lastInterrupt hlast h
    exact ⟨fun hk => absurd hk hext, fun hk => absurd hk hdec⟩

theorem environment_lastInterrupt : (environment s).lastInterrupt = s.lastInterrupt := by rw [environment_shape]

/-- What a step outside Checkstop selected. -/
theorem step_lastInterrupt (hc : s.checkstop = false) (h : step s = .next u) :
    (u.lastInterrupt = some .external → s.extPending = true ∧ s.msrBit msrEE = true) ∧
    (u.lastInterrupt = some .decrementer → (s.extPending && s.msrBit msrEE) = false ∧ s.msrBit msrEE = true) := by
  rcases step_cases h with ⟨hstop, -⟩ | ⟨-, v, hv, rfl⟩
  · exact (nomatch hc.symm.trans hstop)
  · rw [environment_lastInterrupt]
    exact select_lastInterrupt (s := { s with lastInterrupt := none }) rfl hv

/-! ## Which interrupt is selected -/

theorem select_of_sreset (hr : s.sresetReq = true) : select s = .next (takeInterrupt .systemReset s) := by
  simp [select, hr, interrupt]

theorem select_of_mcheck (hr : s.sresetReq = false) (hm : s.mcheckReq = true) :
    select s = if s.msrBit msrME then .next (takeInterrupt .machineCheck s) else .next { s with checkstop := true } := by
  simp [select, hr, hm, interrupt]

theorem select_of_floating (hr : s.sresetReq = false) (hm : s.mcheckReq = false) (hf : s.fpEnabledException = true) :
    select s = .next (takeInterrupt (.program .fpEnabledLate) s) := by
  simp [select, hr, hm, hf, interrupt]

theorem select_of_external (hr : s.sresetReq = false) (hm : s.mcheckReq = false) (hf : s.fpEnabledException = false)
    (hext : (s.extPending && s.msrBit msrEE) = true) : select s = .next (takeInterrupt .external s) := by
  simp [select, hr, hm, hf, hext, interrupt]

theorem select_of_decrementer (hr : s.sresetReq = false) (hm : s.mcheckReq = false) (hf : s.fpEnabledException = false)
    (hext : (s.extPending && s.msrBit msrEE) = false) (hdec : (s.decPending && s.msrBit msrEE) = true) :
    select s = .next (takeInterrupt .decrementer s) := by
  simp [select, hr, hm, hf, hext, hdec, interrupt]

theorem select_of_stall (hr : s.sresetReq = false) (hm : s.mcheckReq = false) (hf : s.fpEnabledException = false)
    (hext : (s.extPending && s.msrBit msrEE) = false) (hdec : (s.decPending && s.msrBit msrEE) = false)
    (hpow : s.msrBit msrPOW = true) : select s = .next s := by
  simp [select, hr, hm, hf, hext, hdec, hpow]

theorem fpEnabledException_iff :
    s.fpEnabledException = true ↔ (s.msrBit msrFE0 = true ∨ s.msrBit msrFE1 = true) ∧ bit s.fpscr 1 = true := by
  rw [State.fpEnabledException, Bool.and_eq_true, Bool.or_eq_true]

/-- SRR1 where the status bits of the cause are given. -/
theorem srr1_of_status {c : Cause} {bits : Dword} (h : c.srr1 s = s.narrow (merge srr1StatusMask bits s.msr))
    (hb : bits &&& srr1StatusMask = bits) : c.srr1 s = s.narrow (bits ||| (s.msr &&& ~~~ 0x783F0000)) := by
  rw [h, merge, hb]
  rfl

theorem srr1_of_no_status {c : Cause} (h : c.srr1 s = s.narrow (merge srr1StatusMask 0 s.msr)) :
    c.srr1 s = s.narrow (s.msr &&& ~~~ 0x783F0000) := by
  rw [h]
  simp [merge, srr1StatusMask]

end

/-- Settles O52: which branch of the selection the hypotheses name; the rest is what taking the interrupt does. -/
theorem asynchronousInterrupts : Obligations.AsynchronousInterrupts := by
  refine ⟨fun s hc => ⟨fun hr hm hf hext hee => ?_, fun hee t ht hk => ?_⟩,
    fun s hc => ⟨fun hr hm hf hext hdec hee => ?_, fun hor t ht hk => ?_⟩,
    fun s hc hr hm => ⟨fun hfe hfex => ?_, fun hnone hext hdec hpow => ?_⟩⟩
  · have hsel := select_of_external (s := { s with lastInterrupt := none }) hr hm hf (Bool.and_eq_true_iff.mpr ⟨hext, hee⟩)
    refine ⟨_, step_of_select hc hsel, rfl, hext, rfl, srr1_of_no_status (c := .external) rfl, rfl, ?_, rfl⟩
    exact (bit_interruptMsr _ _ (by decide)).trans (by simp [msrEE])
  · exact (nomatch hee.symm.trans ((step_lastInterrupt hc ht).1 hk).2)
  · have hsel := select_of_decrementer (s := { s with lastInterrupt := none }) hr hm hf
      (by show (s.extPending && _) = false; rw [hext]; rfl) (Bool.and_eq_true_iff.mpr ⟨hdec, hee⟩)
    exact ⟨_, step_of_select hc hsel, rfl, Bool.and_false _, rfl, srr1_of_no_status (c := .decrementer) rfl, rfl, rfl⟩
  · obtain ⟨hext, hee⟩ := (step_lastInterrupt hc ht).2 hk
    rcases hor with h | h
    · exact (nomatch h.symm.trans hee)
    · rw [h, hee] at hext
      cases hext
  · have hsel := select_of_floating (s := { s with lastInterrupt := none }) hr hm (fpEnabledException_iff.mpr ⟨hfe, hfex⟩)
    exact ⟨_, step_of_select hc hsel, rfl, rfl, srr1_of_status (c := .program .fpEnabledLate) rfl (by decide), rfl, rfl, rfl,
      Bool.and_true _, rfl⟩
  · have hf : s.fpEnabledException = false := by
      refine Bool.eq_false_iff.mpr fun h => ?_
      obtain ⟨h01, hfex⟩ := fpEnabledException_iff.mp h
      rcases hnone with ⟨h0, h1⟩ | hno
      · rw [h0, h1] at h01
        rcases h01 with h | h <;> cases h
      · exact (nomatch hno.symm.trans hfex)
    exact step_of_select hc (select_of_stall (s := { s with lastInterrupt := none }) hr hm hf hext hdec hpow)

/-! ## O53 and O54 -/

theorem redrawn_cfg (s : State) : s.redrawn.cfg = s.cfg := by unfold State.redrawn; dsimp only

/-- What a restart leaves of the requests. -/
theorem restarted_requests (s : State) :
    s.restarted.checkstop = false ∧ s.restarted.sresetReq = false ∧ s.restarted.mcheckReq = false ∧
      s.restarted.lastInterrupt = some .systemReset ∧ s.restarted.extPending = s.extPending := by
  unfold State.restarted State.goTo State.redrawn
  dsimp only
  exact ⟨rfl, rfl, rfl, rfl, rfl⟩

theorem goTo_vector (u : State) {c : Config} (hcfg : u.cfg = c) :
    (u.goTo (u.vectorBase + vectorOffset .systemReset)).pc =
      (u.goTo (u.vectorBase + vectorOffset .systemReset)).codeAddress
        ((if (u.goTo (u.vectorBase + vectorOffset .systemReset)).msrBit msrIP then c.ipBase1 else c.ipBase0) + 0x100) := by
  subst hcfg
  rfl

/-- Settles O53: the first branches of the selection, and a restart field by field. -/
theorem resetAndMachineCheck : Obligations.ResetAndMachineCheck := by
  intro s s0
  have hstopped (hc : s.checkstop = true) : step s = .next (environment (stopped s0)) := by
    unfold step cycle
    simp [hc, s0]
  refine ⟨fun hc hr => ⟨step_of_select hc (select_of_sreset hr), rfl, srr1_of_no_status (c := .systemReset) rfl, rfl,
      Bool.and_false _⟩, fun hc hr hm => ⟨fun hme => ⟨?_, ?_, rfl⟩, fun hme => ?_⟩, fun hc hr => ?_, fun hc hr => ?_⟩
  · exact step_of_select hc ((select_of_mcheck (s := s0) hr hm).trans (if_pos hme))
  · exact (bit_interruptMsr _ _ (by decide)).trans (by simp [msrME, Cause.kind])
  · exact step_of_select hc ((select_of_mcheck (s := s0) hr hm).trans (if_neg (Bool.eq_false_iff.mp hme)))
  · rw [hstopped hc, stopped, if_neg (Bool.eq_false_iff.mp hr)]
  · obtain ⟨hmem, hcfg, -, hmsr, -, -⟩ := s0.restarted_fields
    obtain ⟨hcheck, hreset, hmcheck, hlast, hext⟩ := restarted_requests s0
    refine ⟨s0.restarted, ?_, hmsr, ?_, hcheck, hreset, hmcheck, hlast, hmem, hcfg, hext⟩
    · rw [hstopped hc, stopped, if_pos hr]
    · exact goTo_vector s0.redrawn (redrawn_cfg s0)

theorem isBranch_iff (i : Instr) :
    isBranch i = true ↔ (∃ li aa lk, i = .b li aa lk) ∨ (∃ bo bi bd aa lk, i = .bc bo bi bd aa lk) ∨
      (∃ bo bi lk, i = .bclr bo bi lk) ∨ ∃ bo bi lk, i = .bcctr bo bi lk := by
  constructor
  · intro h
    unfold isBranch at h
    split at h
    · exact .inl ⟨_, _, _, rfl⟩
    · exact .inr (.inl ⟨_, _, _, _, _, rfl⟩)
    · exact .inr (.inr (.inl ⟨_, _, _, rfl⟩))
    · exact .inr (.inr (.inr ⟨_, _, _, rfl⟩))
    · cases h
  · rintro (⟨_, _, _, rfl⟩ | ⟨_, _, _, _, _, rfl⟩ | ⟨_, _, _, rfl⟩ | ⟨_, _, _, rfl⟩) <;> rfl

theorem traces_iff (i : Instr) (s : State) :
    traces i s = true ↔ s.cfg.hasTrace = true ∧
      ((s.msrBit msrSE = true ∧ i ≠ .rfi) ∨ (s.msrBit msrBE = true ∧ isBranch i = true)) := by
  rw [traces, Bool.and_eq_true, Bool.or_eq_true, Bool.and_eq_true, Bool.and_eq_true, bne_iff_ne]

/-- Settles O54: the conditions of the two rules, one by one. -/
theorem traceAndAssist : Obligations.TraceAndAssist := by
  intro i s t branch due enabled op
  have hdue : traces i s = true ↔ due := by
    rw [traces_iff, isBranch_iff]
  have henabled : t.fpEnabledException = true ↔ enabled := fpEnabledException_iff
  have htrace : withTrace i s (.next t) =
      if (traces i s && t.lastInterrupt.isNone && !t.fpEnabledException) = true then .next (takeInterrupt .trace t)
      else .next t := rfl
  have hassist : withAssist i s (.next t) =
      if (t.lastInterrupt.isNone && assists i s) = true then .next (takeInterrupt .fpAssist s) else .next t := rfl
  refine ⟨fun hd hl he => ⟨?_, rfl, ?_, ?_, rfl⟩, fun h => ?_, ?_, fun h => ?_, rfl, rfl⟩
  · rw [htrace, if_pos]
    rw [hdue.mpr hd, hl, Bool.eq_false_iff.mpr fun h => he (henabled.mp h)]
    rfl
  · exact (bit_interruptMsr _ _ (by decide)).trans (by simp [msrSE])
  · exact (bit_interruptMsr _ _ (by decide)).trans (by simp [msrBE])
  · rw [htrace, if_neg]
    simp only [Bool.and_eq_true, Bool.not_eq_true', Option.isNone_iff_eq_none, not_and, Bool.not_eq_false]
    rintro ⟨hd, hl⟩
    rcases h with h | h | h
    · exact absurd (hdue.mp hd) h
    · exact absurd hl h
    · exact henabled.mpr h
  · rw [hassist]
    split
    · exact .inr rfl
    · exact .inl rfl
  · rw [hassist, if_neg]
    simp only [assists, Bool.and_eq_true, Bool.or_eq_true, beq_iff_eq, Option.isNone_iff_eq_none, not_and]
    rintro hl ⟨hass, hop⟩ -
    rcases h with h | h | ⟨h59, h63⟩
    · exact Bool.false_ne_true (h.symm.trans hass)
    · exact h hl
    · rcases hop with hop | hop
      · exact h59 (congrArg BitVec.toNat hop)
      · exact h63 (congrArg BitVec.toNat hop)

end Sys2Proof.Machine


/-! SUPPORT. What the decode-time checks say of each instruction (30_encoding.md R197 to R200, 48_supervisor.md R685,
60_exceptions.md R718). The idea: existence and privilege are read off the requirements of each row, and which rows are
floating-point off the opcode tables. -/

namespace Sys2Proof.Machine

open Laws

/-! ## Existence and privilege -/

/-- The instructions an implementation lacks. -/
def absent (c : Config) : Instr → Prop
  | .tdi _ _ _ | .td _ _ _ | .lwa _ _ _ | .lwax _ _ _ | .lwaux _ _ _ | .ld _ _ _ | .ldu _ _ _ | .ldx _ _ _
  | .ldux _ _ _ | .std _ _ _ | .stdu _ _ _ | .stdx _ _ _ | .stdux _ _ _ | .ldarx _ _ _ | .stdcxDot _ _ _
  | .mulld _ _ _ _ _ | .mulhd _ _ _ _ | .mulhdu _ _ _ _ | .divd _ _ _ _ _ | .divdu _ _ _ _ _ | .extsw _ _ _
  | .cntlzd _ _ _ | .rldicl _ _ _ _ _ | .rldicr _ _ _ _ _ | .rldic _ _ _ _ _ | .rldimi _ _ _ _ _
  | .rldcl _ _ _ _ _ | .rldcr _ _ _ _ _ | .sld _ _ _ _ | .srd _ _ _ _ | .sradi _ _ _ _ | .srad _ _ _ _
  | .fctid _ _ _ | .fctidz _ _ _ | .fcfid _ _ _ => c.impl64 = false
  | .mtsr _ _ | .mtsrin _ _ | .mfsr _ _ | .mfsrin _ _ => c.impl64 = true
  | .fsqrt _ _ _ | .fsqrts _ _ _ => c.hasFpGp = false
  | .stfiwx _ _ _ | .fres _ _ _ | .frsqrte _ _ _ | .fsel _ _ _ _ _ => c.hasFpGraphics = false
  | .eciwx _ _ _ | .ecowx _ _ _ => c.hasExternalControl = false
  | .slbie _ => c.impl64 = false ∨ c.hasSlbie = false
  | .slbia => c.impl64 = false ∨ c.hasSlbia = false
  | .tlbia => c.hasTlbia = false
  | .tlbsync => c.hasTlbsync = false
  | _ => False

theorem and_true_eq_false_iff (b : Bool) : (b && true) = false ↔ b = false := by rw [Bool.and_true]

theorem implemented_eq_false_iff (c : Config) (i : Instr) : implemented (i.req c) c = false ↔ absent c i := by
  cases i with
  | lwa | lwax | lwaux | ld | ldu | ldx | ldux | std | stdu | stdx | stdux | ldarx | stdcxDot | mulld | mulhd |
  mulhdu | divd | divdu | tdi | td | extsw | cntlzd | rldicl | rldicr | rldic | rldcl | rldcr | rldimi | sld | srd |
  sradi | srad | fctid | fctidz | fcfid => exact Iff.rfl
  | mtsr | mtsrin | mfsr | mfsrin => exact iff_of_eq (Bool.not_eq_false' _)
  | stfiwx | fsqrt | fsqrts | fres | frsqrte | fsel | tlbia | tlbsync | eciwx | ecowx =>
    exact and_true_eq_false_iff _
  | slbie | slbia => exact Bool.and_eq_false_iff.trans or_comm
  | _ => exact iff_of_false nofun id

/-- The instructions that are privileged, a special register move by its number. -/
theorem priv_iff (c : Config) (i : Instr) : (i.req c).priv = true ↔
    (i = .rfi ∨ (∃ r, i = .mtmsr r) ∨ (∃ r, i = .mfmsr r) ∨ (∃ n r, i = .mtsr n r) ∨ (∃ r b, i = .mtsrin r b) ∨
      (∃ r n, i = .mfsr r n) ∨ (∃ r b, i = .mfsrin r b) ∨ (∃ a b, i = .dcbi a b) ∨ (∃ b, i = .slbie b) ∨
      i = .slbia ∨ (∃ b, i = .tlbie b) ∨ i = .tlbia ∨ i = .tlbsync ∨
      (∃ n r, i = .mtspr n r ∧ n.getLsbD 4 = true ∧ (mtsprDefined c n = true ∨ c.sprInvalidPrivileged = true)) ∨
      (∃ r n, i = .mfspr r n ∧ n.getLsbD 4 = true ∧ (mfsprDefined c n = true ∨ c.sprInvalidPrivileged = true))) := by
  have hspr (d : Bool) (n : SprNum) :
      sprPrivileged c d n = true ↔ n.getLsbD 4 = true ∧ (d = true ∨ c.sprInvalidPrivileged = true) := by
    rw [sprPrivileged, Bool.and_eq_true, Bool.or_eq_true]
  constructor
  · intro h
    cases i with
    | mtspr n r =>
      have hn := (hspr (mtsprDefined c n) n).mp h
      simpa using hn
    | mfspr r n =>
      have hn := (hspr (mfsprDefined c n) n).mp h
      simpa using hn
    | rfi | mtmsr | mfmsr | mtsr | mtsrin | mfsr | mfsrin | dcbi | slbie | slbia | tlbie | tlbia | tlbsync =>
      simp
    | _ => exact absurd h nofun
  · rintro (rfl | ⟨_, rfl⟩ | ⟨_, rfl⟩ | ⟨_, _, rfl⟩ | ⟨_, _, rfl⟩ | ⟨_, _, rfl⟩ | ⟨_, _, rfl⟩ | ⟨_, _, rfl⟩ | ⟨_, rfl⟩ | rfl |
      ⟨_, rfl⟩ | rfl | rfl | ⟨n, r, rfl, h⟩ | ⟨r, n, rfl, h⟩)
    · rfl
    · rfl
    · rfl
    · rfl
    · rfl
    · rfl
    · rfl
    · rfl
    · rfl
    · rfl
    · rfl
    · rfl
    · rfl
    · exact (hspr _ n).mpr h
    · exact (hspr _ n).mpr h

/-- Settles O46: Program(Privileged) saves the instruction's address and bit 45, and existence and privilege are read off the
requirements of each row. -/
theorem privilegeCheck : Obligations.PrivilegeCheck := by
  refine ⟨fun s i hpr himpl hpriv => ⟨exec_of_privileged himpl hpriv hpr, rfl, ?_⟩, fun s i =>
    ⟨implemented_eq_false_iff s.cfg i, fun h => exec_of_not_implemented ((implemented_eq_false_iff s.cfg i).mpr h)⟩,
    priv_iff⟩
  show bit (s.narrow (merge srr1StatusMask (programStatus .privileged) s.msr)) 45 = true
  rw [bit_narrow s _ (by decide) (by decide), merge, bit_or]
  rfl

/-! ## Floating-point instructions -/

/-- The primary opcodes, and the extended opcodes under 31, of the floating-point instructions (60_exceptions.md R718). -/
def floatOpcode (op xo : Nat) : Prop :=
  (48 ≤ op ∧ op ≤ 55) ∨ op = 59 ∨ op = 63 ∨ (op = 31 ∧ xo ∈ [535, 567, 599, 631, 663, 695, 727, 759, 983])

/-- An instruction that needs MSR_FP and no privilege. -/
def needsFloat (c : Config) (i : Instr) : Bool := (i.req c).fp && !(i.req c).priv

/-- Every row with a floating-point opcode builds such an instruction. -/
theorem needsFloat_of_rowOf {w : Word} {r : OpcodeRow} (h : RowOf w r) (c : Config)
    (hop : floatOpcode (key w 0 6) (key w 21 10)) : needsFloat c (r.build w) = true := by
  have hops : key w 0 6 ∈ [31, 48, 49, 50, 51, 52, 53, 54, 55, 59, 63] := by
    simp only [List.mem_cons, List.not_mem_nil, or_false]
    rcases hop with h | h | h | ⟨h, -⟩ <;> omega
  have hno {n : BitVec 6} (hn : slice w 0 6 = n) (hout : n.toNat ∉ [31, 48, 49, 50, 51, 52, 53, 54, 55, 59, 63]) : False :=
    hout (hn ▸ hops)
  have hrow {rows : List (Nat × OpcodeRow)} {k : Nat} (P : Nat → Bool) (hP : P k = true)
      (htable : (rows.all fun p => !P p.1 || needsFloat c (p.2.build w)) = true) (hr : rows.lookup k = some r) :
      needsFloat c (r.build w) = true := by
    have hin := of_lookup (List.all_eq_true.mp htable) hr
    rw [hP] at hin
    exact hin
  have hxo (h31 : slice w 0 6 = 31#6) : key w 21 10 ∈ [535, 567, 599, 631, 663, 695, 727, 759, 983] := by
    have hk : key w 0 6 = 31 := congrArg BitVec.toNat h31
    rw [hk] at hop
    rcases hop with h | h | h | ⟨-, h⟩
    · omega
    · omega
    · omega
    · exact h
  cases h with
  | sc hop' | row19 hop' | row30MD hop' | row30MDS hop' | row58 hop' | row62 hop' => exact (hno hop' (by decide)).elim
  | row31X hop' hr =>
    exact hrow (fun k => decide (k ∈ [535, 567, 599, 631, 663, 695, 727, 759, 983])) (decide_eq_true (hxo hop')) rfl hr
  | row31XO hop' hnone =>
    have hsome : ∀ k ∈ [535, 567, 599, 631, 663, 695, 727, 759, 983], (rows31X.lookup k).isSome = true := by
      simp only [List.forall_mem_cons, List.not_mem_nil, false_imp_iff, forall_const, and_true]
      exact ⟨rfl, rfl, rfl, rfl, rfl, rfl, rfl, rfl, rfl⟩
    exact absurd (hsome _ (hxo hop')) (by rw [hnone]; exact Bool.false_ne_true)
  | row59 _ hr => exact hrow (fun _ => true) rfl rfl hr
  | row63A _ hr => exact hrow (fun _ => true) rfl rfl hr
  | row63X _ _ hr => exact hrow (fun _ => true) rfl rfl hr
  | primary hout hr =>
    have hrange : decide (48 ≤ key w 0 6 ∧ key w 0 6 ≤ 55) = true := by
      simp only [List.mem_cons, List.not_mem_nil, or_false, not_or] at hout hops
      rw [decide_eq_true_eq]
      omega
    exact hrow (fun k => decide (48 ≤ k ∧ k ≤ 55)) hrange rfl hr

/-- With MSR_FP = 0 a floating-point instruction that the implementation has takes Floating-Point Unavailable. -/
theorem exec_of_fpUnavailable {s : State} {i : Instr} (hfloat : needsFloat s.cfg i = true)
    (himpl : implemented (i.req s.cfg) s.cfg = true) (hfp : s.msrBit msrFP = false) :
    exec i s = .next (takeInterrupt .fpUnavailable s) := by
  obtain ⟨hneeds, hpriv⟩ := Bool.and_eq_true_iff.mp hfloat
  obtain ⟨body, hbody⟩ := exec_eq_admitted i s
  rw [hbody]
  simp [admitted, admission, admissionBeforeForm, himpl, hneeds, Bool.not_eq_true' _ |>.mp hpriv, hfp, interrupt]

/-- Settles O47: the opcodes decide through the tables, and the interrupt writes nothing else. -/
theorem floatUnavailable : Obligations.FloatUnavailable := by
  intro s i op xo float hop hfp
  obtain ⟨r, hrow, hbuild, -⟩ := findRow_encode i
  have hfloat : needsFloat s.cfg i = true := by
    rw [← hbuild]
    exact needsFloat_of_rowOf (rowOf_of_findRow hrow) s.cfg hop
  refine ⟨exec_of_not_implemented, fun himpl =>
    ⟨exec_of_fpUnavailable hfloat himpl hfp, rfl, srr1_of_no_status (c := .fpUnavailable) rfl, rfl, rfl, ?_⟩⟩
  have hkind : (IntrKind.fpUnavailable != .decrementer) = true ∧ (IntrKind.fpUnavailable != .systemReset) = true ∧
      (IntrKind.fpUnavailable != .machineCheck) = true := ⟨rfl, rfl, rfl⟩
  simp [takeInterrupt, Cause.fpecr, Cause.floating, Cause.kind, Cause.dsisr, Cause.dar, hkind]

end Sys2Proof.Machine


/-! SUPPORT. The invalid forms (30_encoding.md R183, R184, R210 to R212). The idea: the reserved fields of a row are
disjoint from the fields its table is keyed by, so that a word falls in the row of its encoding with the reserved bits
cleared; and no meaning but the decode-time checks refuses an invalid form. -/

namespace Sys2Proof

open Laws

/-! ## Words with a reserved bit set -/

/-- The reserved fields of every row of a table leave a field of the word alone. -/
def fieldKept (rows : List (Nat × OpcodeRow)) (i n : Nat) : Bool :=
  rows.all fun p => slice (~~~ fieldsMask p.2.reserved) i n == BitVec.allOnes n

theorem slice_of_fieldKept {rows : List (Nat × OpcodeRow)} {i n k : Nat} {r : OpcodeRow} (hkept : fieldKept rows i n = true)
    (h : rows.lookup k = some r) (w : Word) : slice (w &&& ~~~ fieldsMask r.reserved) i n = slice w i n := by
  have hones := beq_iff_eq.mp (of_lookup (List.all_eq_true.mp hkept) h)
  rw [slice_and, hones, BitVec.and_allOnes]

theorem key_of_fieldKept {rows : List (Nat × OpcodeRow)} {i n k : Nat} {r : OpcodeRow} (hkept : fieldKept rows i n = true)
    (h : rows.lookup k = some r) (w : Word) : key (w &&& ~~~ fieldsMask r.reserved) i n = key w i n :=
  congrArg BitVec.toNat (slice_of_fieldKept hkept h w)

theorem opcode_and_key_kept {rows : List (Nat × OpcodeRow)} {i n k : Nat} {r : OpcodeRow}
    (hop : fieldKept rows 0 6 = true) (hkey : fieldKept rows i n = true) (h : rows.lookup k = some r) (w : Word) :
    slice (w &&& ~~~ fieldsMask r.reserved) 0 6 = slice w 0 6 ∧ key (w &&& ~~~ fieldsMask r.reserved) i n = key w i n :=
  ⟨slice_of_fieldKept hop h w, key_of_fieldKept hkey h w⟩

theorem bit_of_bit_and {n : Nat} {v m : BitVec n} {i : Nat} (h : bit (v &&& m) i = true) : bit v i = true :=
  (Bool.and_eq_true_iff.mp ((bit_and v m i).symm.trans h)).1

/-- An extended opcode of an XO-form row is none of the X-form, whatever bit 21 is. -/
theorem rows31X_of_xo {w : Word} {r : OpcodeRow} (h : rows31XO.lookup (key w 22 9) = some r) :
    rows31X.lookup (key w 21 10) = none := by
  have htable : (rows31XO.all fun p => [false, true].all fun b =>
      (rows31X.lookup (b1 b ++ BitVec.ofNat 9 p.1).toNat).isNone) = true := rfl
  have hboth := List.all_eq_true.mp (of_lookup (List.all_eq_true.mp htable) h) (bit w 21) (by simp)
  have hkey : (b1 (bit w 21) ++ BitVec.ofNat 9 (key w 22 9)).toNat = key w 21 10 := by
    rw [← slice_of_key rfl, ← slice_one w (by omega), ← slice_split w 21 1 9 (by omega)]
    rfl
  rw [hkey] at hboth
  exact Option.isNone_iff_eq_none.mp hboth

/-- Clearing the reserved bits of a row leaves the word in the row, and only words of the row give one of it. -/
theorem RowOf.of_cleared {w : Word} {r : OpcodeRow} (h : RowOf (w &&& ~~~ fieldsMask r.reserved) r) : RowOf w r := by
  cases h with
  | sc hop hone =>
    exact .sc ((slice_of_fieldKept (rows := [(17, rowSc)]) (k := 17) rfl rfl w).symm.trans hop) (bit_of_bit_and hone)
  | row19 hop h =>
    obtain ⟨hop', hk⟩ := opcode_and_key_kept (rows := rows19) (i := 21) (n := 10) rfl rfl h w
    exact .row19 (hop' ▸ hop) (hk ▸ h)
  | row30MD hop h =>
    obtain ⟨hop', hk⟩ := opcode_and_key_kept (rows := rows30MD) (i := 27) (n := 3) rfl rfl h w
    exact .row30MD (hop' ▸ hop) (hk ▸ h)
  | row30MDS hop hno h =>
    obtain ⟨hop', hk⟩ := opcode_and_key_kept (rows := rows30MDS) (i := 27) (n := 4) rfl rfl h w
    have hk' := key_of_fieldKept (rows := rows30MDS) (i := 27) (n := 3) rfl h w
    exact .row30MDS (hop' ▸ hop) (hk' ▸ hno) (hk ▸ h)
  | row31X hop h hm =>
    obtain ⟨hop', hk⟩ := opcode_and_key_kept (rows := rows31X) (i := 21) (n := 10) rfl rfl h w
    exact .row31X (hop' ▸ hop) (hk ▸ h) fun hmark => bit_of_bit_and (hm hmark)
  | row31XO hop _ h =>
    obtain ⟨hop', hk⟩ := opcode_and_key_kept (rows := rows31XO) (i := 22) (n := 9) rfl rfl h w
    have h' : rows31XO.lookup (key w 22 9) = some r := hk ▸ h
    exact .row31XO (hop' ▸ hop) (rows31X_of_xo h') h'
  | row58 hop h =>
    obtain ⟨hop', hk⟩ := opcode_and_key_kept (rows := rows58) (i := 30) (n := 2) rfl rfl h w
    exact .row58 (hop' ▸ hop) (hk ▸ h)
  | row59 hop h =>
    obtain ⟨hop', hk⟩ := opcode_and_key_kept (rows := rows59) (i := 26) (n := 5) rfl rfl h w
    exact .row59 (hop' ▸ hop) (hk ▸ h)
  | row62 hop h =>
    obtain ⟨hop', hk⟩ := opcode_and_key_kept (rows := rows62) (i := 30) (n := 2) rfl rfl h w
    exact .row62 (hop' ▸ hop) (hk ▸ h)
  | row63A hop h =>
    obtain ⟨hop', hk⟩ := opcode_and_key_kept (rows := rows63A) (i := 26) (n := 5) rfl rfl h w
    exact .row63A (hop' ▸ hop) (hk ▸ h)
  | row63X hop hno h =>
    obtain ⟨hop', hk⟩ := opcode_and_key_kept (rows := rows63X) (i := 21) (n := 10) rfl rfl h w
    have hk' := key_of_fieldKept (rows := rows63X) (i := 26) (n := 5) rfl h w
    exact .row63X (hop' ▸ hop) (hk' ▸ hno) (hk ▸ h)
  | primary hop h =>
    have hk := key_of_fieldKept (rows := primaryRows) (i := 0) (n := 6) rfl h w
    exact .primary (hk ▸ hop) (hk ▸ h)

/-- The reserved bits of what a row builds are the reserved fields of the row. -/
theorem RowOf.reservedZeroMask_eq {w : Word} {r : OpcodeRow} (h : RowOf w r) :
    (r.build w).reservedZeroMask = fieldsMask r.reserved := by
  have hrow := h.findRow_eq
  by_cases hop : slice w 0 6 = 17#6
  · rw [findRow_of_opcode17 hop] at hrow
    split at hrow <;> cases hrow
    rfl
  · obtain ⟨rows, hin, k, hr⟩ := findRow_outside17 hop hrow
    have htable := List.all_eq_true.mp (tables_reservedZeroMask w) rows (List.mem_cons_of_mem _ hin)
    exact beq_iff_eq.mp (of_lookup (List.all_eq_true.mp htable) hr)

theorem decode_of_reserved_clear {w : Word} {r : OpcodeRow} (h : RowOf w r) :
    decode w = if w &&& fieldsMask r.reserved = 0 then .instr (r.build w) else .reservedBits (r.build w) := by
  rw [decode_of_row h.findRow_eq]
  exact if_congr (reserved_clear_iff w r.reserved) rfl rfl

theorem decode_eq_reservedBits_iff (w : Word) (i : Instr) :
    decode w = .reservedBits i ↔ w &&& i.reservedZeroMask ≠ 0 ∧ w &&& ~~~ i.reservedZeroMask = encode i := by
  constructor
  · intro h
    cases hrow : findRow w with
    | none => rw [decode_of_no_row hrow] at h; cases h
    | some r =>
      have hof := rowOf_of_findRow hrow
      rw [decode_of_reserved_clear hof] at h
      split at h
      · cases h
      · next hset =>
        cases h
        rw [hof.reservedZeroMask_eq]
        exact ⟨hset, hof.encodes.symm⟩
  · rintro ⟨hset, hclear⟩
    obtain ⟨r, hrow, hbuild, -⟩ := findRow_encode i
    have hmask := (rowOf_of_findRow hrow).reservedZeroMask_eq
    rw [hbuild] at hmask
    rw [hmask] at hset hclear
    have hof : RowOf w r := .of_cleared (hclear ▸ rowOf_of_findRow hrow)
    have hi : r.build w = i := encode_injective (hof.encodes.trans hclear)
    rw [decode_of_reserved_clear hof, if_neg hset, hi]

end Sys2Proof

namespace Sys2Proof.Machine

open Laws

/-! ## The restrictions on operands -/

theorem boValid_eq_false_iff : ∀ bo : BitVec 5, boValid bo = false ↔
    (bit bo 0 = false ∧ bit bo 2 = true ∧ bit bo 3 = true) ∨ (bit bo 0 = true ∧ bit bo 1 = true) ∨
      (bit bo 0 = true ∧ bit bo 2 = true ∧ (bit bo 3 = true ∨ bit bo 4 = true)) := by
  decide

theorem loadUpdateValid_eq_false_iff (rt ra : Gpr) : loadUpdateValid rt ra = false ↔ ra = 0 ∨ ra = rt := by
  rw [loadUpdateValid, Bool.and_eq_false_iff, bne_eq_false_iff_eq, bne_eq_false_iff_eq]

theorem updateValid_eq_false_iff (ra : Gpr) : updateValid ra = false ↔ ra = 0 := bne_eq_false_iff_eq

theorem inWrappedRange_iff (first r : Gpr) (count : Nat) :
    inWrappedRange first count r = true ↔ ∃ k, k < count ∧ r.toNat = (first.toNat + k) % 32 := by
  have hr := r.isLt
  have hfirst := first.isLt
  rw [inWrappedRange, decide_eq_true_eq, BitVec.toNat_sub]
  constructor
  · intro h
    exact ⟨(2 ^ 5 - first.toNat + r.toNat) % 2 ^ 5, h, by omega⟩
  · rintro ⟨k, hk, hrk⟩
    omega

/-- The registers that `n` bytes fill from one on, wrapping from 31 to 0. -/
theorem inWrappedRange_regsFor_iff (first r : Gpr) (n : Nat) :
    inWrappedRange first (regsFor n) r = true ↔ ∃ k, 4 * k < n ∧ r.toNat = (first.toNat + k) % 32 := by
  have hcount (k : Nat) : k < regsFor n ↔ 4 * k < n := by
    rw [regsFor]
    omega
  rw [inWrappedRange_iff]
  exact exists_congr fun k => and_congr_left' (hcount k)

theorem compareForm_eq_false_iff (l impl64 : Bool) : (!l || impl64) = false ↔ l = true ∧ impl64 = false := by
  cases l <;> simp

/-- The numbers both moves may name, with the files of the SPRGs and of the BAT registers as ranges. -/
theorem namedNumbers_or_iff (n : SprNum) (rest : Prop) :
    (n.toNat ∈ [1, 8, 9, 18, 19, 22, 25, 26, 27, 272, 273, 274, 275, 528, 529, 530, 531, 532, 533, 534, 535, 536, 537,
      538, 539, 540, 541, 542, 543] ∨ rest) ↔
    (n.toNat ∈ [1, 8, 9, 18, 19, 22, 25, 26, 27] ∨ (272 ≤ n.toNat ∧ n.toNat ≤ 275) ∨
      (528 ≤ n.toNat ∧ n.toNat ≤ 543) ∨ rest) := by
  rw [fileNumbers_iff.1, fileNumbers_iff.2]
  simp [or_assoc]

/-! ## What the policy says of an invalid form -/

/-- Without an earlier cause the form alone decides. -/
theorem admission_of_no_cause {s : State} {i : Instr} (h : admissionBeforeForm i s = none) :
    admission i s = if i.formValid && i.formValidHere s.cfg s.xer then .execute else .invalidForm := by
  rw [admission, h]

theorem exec_of_invalidForm {s : State} {i : Instr} (h : admission i s = .invalidForm) : exec i s = invalidForm s := by
  obtain ⟨body, hbody⟩ := exec_eq_admitted i s
  rw [hbody, admitted, h]

theorem invalidForm_of_policy (s : State) :
    (s.cfg.invalidForm = .illegal → invalidForm s = .next (takeInterrupt (.program .illegal) s)) ∧
    (s.cfg.invalidForm = .refuse → invalidForm s = .refused .invalidForm) := by
  constructor <;> (intro h; simp [invalidForm, h, interrupt])

/-- Only the decode-time checks refuse an instruction as an invalid form. -/
theorem admission_of_refused {s : State} {i : Instr} (h : exec i s = .refused .invalidForm) : admission i s = .invalidForm := by
  have hends := exec_ends i s
  rw [h] at hends
  cases hends with
  | refused _ _ hr => exact hr rfl

/-- Settles O48: the forms field by field, the words through the rows of their encodings, and the policy through the
decode-time checks. -/
theorem invalidForms : Obligations.InvalidForms := by
  unfold Obligations.InvalidForms
  intro zBit loaded readWrite invalid
  have hform (c : Config) (xer : Word) (i : Instr) : (i.formValid && i.formValidHere c xer) = false ↔ invalid c xer i := by
    cases i with
    | bc bo | bclr bo =>
      rw [Bool.and_eq_false_iff]
      exact (or_iff_left nofun).trans (boValid_eq_false_iff bo)
    | bcctr bo =>
      rw [Bool.and_eq_false_iff]
      exact (or_iff_left nofun).trans (Bool.and_eq_false_iff.trans (or_congr (boValid_eq_false_iff bo) Iff.rfl))
    | lbzu rt _ ra | lbzux rt ra _ | lhzu rt _ ra | lhzux rt ra _ | lhau rt _ ra | lhaux rt ra _
    | lwzu rt _ ra | lwzux rt ra _ | lwaux rt ra _ | ldu rt _ ra | ldux rt ra _ =>
      rw [Bool.and_eq_false_iff]
      exact (or_iff_left nofun).trans (loadUpdateValid_eq_false_iff rt ra)
    | stbu _ _ ra | stbux _ ra _ | sthu _ _ ra | sthux _ ra _ | stwu _ _ ra | stwux _ ra _ | stdu _ _ ra
    | stdux _ ra _ | lfsu _ _ ra | lfsux _ ra _ | lfdu _ _ ra | lfdux _ ra _ | stfsu _ _ ra | stfsux _ ra _
    | stfdu _ _ ra | stfdux _ ra _ =>
      rw [Bool.and_eq_false_iff]
      exact (or_iff_left nofun).trans (updateValid_eq_false_iff ra)
    | lmw rt _ ra =>
      rw [Bool.and_eq_false_iff]
      exact (or_iff_left nofun).trans (decide_eq_false_iff_not.trans Nat.not_lt)
    | lswi rt ra nb =>
      rw [Bool.and_eq_false_iff]
      exact (or_iff_left nofun).trans ((Bool.not_eq_false' _).to_iff.trans (inWrappedRange_regsFor_iff rt ra (nbBytes nb)))
    | lswx rt ra rb =>
      have hrange (r : Gpr) := inWrappedRange_regsFor_iff rt r (slice xer 25 7).toNat
      rw [Bool.and_eq_false_iff]
      exact (or_congr (Bool.and_eq_false_iff.trans (or_congr bne_eq_false_iff_eq bne_eq_false_iff_eq))
        (Bool.and_eq_false_iff.trans (or_congr ((Bool.not_eq_false' _).to_iff.trans (hrange ra))
          ((Bool.not_eq_false' _).to_iff.trans (hrange rb))))).trans or_assoc
    | mtspr n =>
      have hdef := (mtsprDefined_iff c n).trans (or_congr (namedNumbers_or_iff n _) Iff.rfl)
      exact Bool.eq_false_iff.trans (not_congr hdef)
    | mfspr _ n =>
      have hdef := (mfsprDefined_iff c n).trans (or_congr (namedNumbers_or_iff n _) Iff.rfl)
      exact Bool.eq_false_iff.trans (not_congr hdef)
    | mftb _ n =>
      rw [Bool.and_eq_false_iff]
      exact (or_iff_left nofun).trans (Bool.or_eq_false_iff.trans (and_congr beq_eq_false_iff_ne beq_eq_false_iff_ne))
    | cmpi _ l | cmpli _ l | cmp _ l | cmpl _ l => exact compareForm_eq_false_iff l c.impl64
    | _ => exact iff_of_false nofun id
  refine ⟨boValid_eq_false_iff, hform, decode_eq_reservedBits_iff, fun s i hbefore => ?_⟩
  intro stopped
  have hstopped : stopped (invalidForm s) := invalidForm_of_policy s
  have hadm := admission_of_no_cause hbefore
  refine ⟨?_, fun hinv => ?_, fun hval hrefused => ?_⟩
  · rw [reservedBitsForm, hbefore]
    exact hstopped
  · rw [(hform s.cfg s.xer i).mpr hinv] at hadm
    rw [exec_of_invalidForm hadm]
    exact hstopped
  · rw [Bool.eq_true_of_not_eq_false (mt (hform s.cfg s.xer i).mp hval)] at hadm
    have hinv := admission_of_refused hrefused
    rw [hadm] at hinv
    cases hinv

end Sys2Proof.Machine


/-! SUPPORT. DSISR after an Alignment interrupt (60_exceptions.md R716). The idea: its fields are read off its definition,
and the code in bits 12:21 depends only on the opcode fields of the word, which an instruction shares with the alternate of
its alternate form. -/

namespace Sys2Proof.Machine

open Laws

/-! ## The fields -/

section
variable (impl64 : Bool) (w : Word) (regs : DsisrRegs) (free : Dword)

theorem alignmentDsisr_code : slice (alignmentDsisr impl64 w regs free) 12 10 = dsisrCode impl64 w := by
  unfold alignmentDsisr
  dsimp only
  rw [slice_append_left _ _ _ _ (by omega), slice_append_left _ _ _ _ (by omega),
    slice_append_right _ _ _ _ (by omega) (by omega)]
  exact slice_all _

theorem alignmentDsisr_high : slice (alignmentDsisr impl64 w regs free) 0 12 = 0 := by
  unfold alignmentDsisr
  dsimp only
  rw [slice_append_left _ _ _ _ (by omega), slice_append_left _ _ _ _ (by omega), slice_append_left _ _ _ _ (by omega)]
  exact slice_all _

theorem alignmentDsisr_rt (h : regs ≠ .zeroBlock) : slice (alignmentDsisr impl64 w regs free) 22 5 = slice w 6 5 := by
  unfold alignmentDsisr
  dsimp only
  rw [slice_append_left _ _ _ _ (by omega), slice_append_right _ _ _ _ (by omega) (by omega), if_neg h]
  exact slice_all _

/-- Bits 27:31 for `lmw`, `lswi` and `lswx`. -/
theorem alignmentDsisr_ra_outside (first : Gpr) (count : Nat) :
    slice (alignmentDsisr impl64 w (.outside first count) free) 27 5 =
      if inWrappedRange first count (slice free 59 5) then slice w 11 5 else slice free 59 5 := by
  unfold alignmentDsisr
  dsimp only
  rw [slice_append_right _ _ _ _ (by omega) (by omega)]
  exact slice_all _

theorem alignmentDsisr_ra_update : slice (alignmentDsisr impl64 w .update free) 27 5 = slice w 11 5 := by
  unfold alignmentDsisr
  dsimp only
  rw [slice_append_right _ _ _ _ (by omega) (by omega)]
  exact slice_all _

/-- The parts of the code: DS bits 30:31, then a zero, X bits 29:30, bit 25 or bit 5, bits 21:24 or bits 1:4. -/
theorem dsisrCode_parts :
    slice (dsisrCode impl64 w) 0 2 = (if dsisrForm w = .ds ∧ impl64 = true then slice w 30 2 else 0) ∧
    bit (dsisrCode impl64 w) 2 = false ∧
    slice (dsisrCode impl64 w) 3 2 = (if dsisrForm w = .x then slice w 29 2 else 0) ∧
    slice (dsisrCode impl64 w) 5 1 = (if dsisrForm w = .x then slice w 25 1 else slice w 5 1) ∧
    slice (dsisrCode impl64 w) 6 4 = (if dsisrForm w = .x then slice w 21 4 else slice w 1 4) := by
  unfold dsisrCode
  dsimp only
  refine ⟨?_, ?_, ?_, ?_, ?_⟩
  · rw [slice_append_left _ _ _ _ (by omega), slice_append_left _ _ _ _ (by omega), slice_append_left _ _ _ _ (by omega),
      slice_append_left _ _ _ _ (by omega)]
    exact slice_all _
  · rw [bit_append_left _ _ _ (by omega), bit_append_left _ _ _ (by omega), bit_append_left _ _ _ (by omega),
      bit_append_right _ _ _ (by omega) (by omega)]
    rfl
  · rw [slice_append_left _ _ _ _ (by omega), slice_append_left _ _ _ _ (by omega),
      slice_append_right _ _ _ _ (by omega) (by omega)]
    exact slice_all _
  · rw [slice_append_left _ _ _ _ (by omega), slice_append_right _ _ _ _ (by omega) (by omega)]
    exact slice_all _
  · rw [slice_append_right _ _ _ _ (by omega) (by omega)]
    exact slice_all _

theorem dsisrForm_eq_x_iff : dsisrForm w = .x ↔ slice w 0 6 = 31#6 := by
  unfold dsisrForm
  split
  · next h => exact iff_of_true rfl h
  · next h => split <;> exact iff_of_false nofun h

theorem dsisrForm_eq_ds_iff : dsisrForm w = .ds ↔ slice w 0 6 = 58#6 ∨ slice w 0 6 = 62#6 := by
  unfold dsisrForm
  split
  · next h => exact iff_of_false nofun (by rw [h]; decide)
  · split
    · next h => exact iff_of_true rfl h
    · next h => exact iff_of_false nofun h

/-- The bit of DSISR at a place of the code. -/
theorem bit_alignmentDsisr (i : Nat) (h : i < 10) :
    bit (alignmentDsisr impl64 w regs free) (12 + i) = bit (dsisrCode impl64 w) i := by
  have hs : slice (alignmentDsisr impl64 w regs free) (12 + i) 1 = slice (dsisrCode impl64 w) i 1 := by
    rw [← alignmentDsisr_code impl64 w regs free, slice_slice _ (by omega) (by omega)]
  have hbit := bit_of_slice_one hs (by omega)
  rw [hbit, slice_one _ h]
  exact bit_b1 _

end

/-! ## The alternate forms -/

/-- The code depends on the opcode, and on the extended opcode of the X-form and of the DS-form. -/
theorem dsisrCode_congr {v w : Word} (impl64 : Bool) (hop : slice v 0 6 = slice w 0 6)
    (hx : slice w 0 6 = 31#6 → slice v 21 10 = slice w 21 10)
    (hds : slice w 0 6 = 58#6 ∨ slice w 0 6 = 62#6 → slice v 30 2 = slice w 30 2) :
    dsisrCode impl64 v = dsisrCode impl64 w := by
  have hsub {i n : Nat} (j : Nat) (hn : j + n ≤ 10) (hi : 21 + j = i) (h : slice v 21 10 = slice w 21 10) :
      slice v i n = slice w i n := by
    rw [← hi, ← slice_slice v (by omega) hn, ← slice_slice w (by omega) hn, h]
  have hlow {i n : Nat} (hn : i + n ≤ 6) : slice v i n = slice w i n := by
    have hv := slice_slice (i := 0) v (by omega) hn
    have hw := slice_slice (i := 0) w (by omega) hn
    rw [Nat.zero_add] at hv hw
    rw [← hv, ← hw, hop]
  have hform : dsisrForm v = dsisrForm w := by unfold dsisrForm; rw [hop]
  unfold dsisrCode
  rw [hform]
  by_cases hxf : dsisrForm w = .x
  · have h := hx ((dsisrForm_eq_x_iff w).mp hxf)
    rw [hsub (i := 29) (n := 2) 8 (by omega) rfl h, hsub (i := 25) (n := 1) 4 (by omega) rfl h,
      hsub (i := 21) (n := 4) 0 (by omega) rfl h]
    simp [hxf]
  · rw [hlow (i := 5) (n := 1) (by omega), hlow (i := 1) (n := 4) (by omega)]
    by_cases hdf : dsisrForm w = .ds
    · rw [hds ((dsisrForm_eq_ds_iff w).mp hdf)]
      simp [hdf]
    · simp [hxf, hdf]

/-- What O51 asks of an instruction `i`, its alternate form `j`, and the alternate `k` of that one. -/
structure FormsAgree (impl64 : Bool) (i j k : Instr) : Prop where
  rt : slice (encode j) 6 5 = slice (encode i) 6 5
  ra : slice (encode j) 11 5 = slice (encode i) 11 5
  first : slice (encode k) 0 11 = slice (encode i) 0 11
  code : dsisrCode impl64 (encode k) = dsisrCode impl64 (encode i)

section
variable {i j k : Instr} {impl64 : Bool} {op : BitVec 6} {rt ra rb rb' : Gpr} {d d' : BitVec 16} {ds ds' : BitVec 14}
  {xo2 : BitVec 2} {xo : BitVec 10}

theorem formsAgree_d (hi : encode i = encD op rt ra d) (hj : encode j = encX 31#6 rt ra rb xo false)
    (hk : encode k = encD op rt ra d') (hop : op ≠ 31#6 ∧ op ≠ 58#6 ∧ op ≠ 62#6) : FormsAgree impl64 i j k := by
  obtain ⟨h31, h58, h62⟩ := hop
  constructor
  · rw [hi, hj, encD_slice_6_5, encX_slice_6_5]
  · rw [hi, hj, encD_slice_11_5, encX_slice_11_5]
  · rw [hi, hk, slice_split _ 0 6 5 (by omega), slice_split _ 0 6 5 (by omega), encD_slice_0_6, encD_slice_0_6,
      encD_slice_6_5, encD_slice_6_5]
  · rw [hi, hk]
    apply dsisrCode_congr <;> rw [encD_slice_0_6]
    · rw [encD_slice_0_6]
    · exact fun h => absurd h h31
    · exact fun h => (h.elim h58 h62).elim

theorem formsAgree_ds (hi : encode i = encDS op rt ra ds xo2) (hj : encode j = encX 31#6 rt ra rb xo false)
    (hk : encode k = encDS op rt ra ds' xo2) (hop : op ≠ 31#6) : FormsAgree impl64 i j k := by
  constructor
  · rw [hi, hj, encDS_slice_6_5, encX_slice_6_5]
  · rw [hi, hj, encDS_slice_11_5, encX_slice_11_5]
  · rw [hi, hk, slice_split _ 0 6 5 (by omega), slice_split _ 0 6 5 (by omega), encDS_slice_0_6, encDS_slice_0_6,
      encDS_slice_6_5, encDS_slice_6_5]
  · rw [hi, hk]
    apply dsisrCode_congr <;> rw [encDS_slice_0_6]
    · rw [encDS_slice_0_6]
    · exact fun h => absurd h hop
    · exact fun _ => by rw [encDS_slice_30_2, encDS_slice_30_2]

/-- The X-form, whose alternate form has the same RT and RA. -/
theorem formsAgree_x (hi : encode i = encX 31#6 rt ra rb xo false)
    (hrt : slice (encode j) 6 5 = rt) (hra : slice (encode j) 11 5 = ra)
    (hk : encode k = encX 31#6 rt ra rb' xo false) : FormsAgree impl64 i j k := by
  constructor
  · rw [hi, hrt, encX_slice_6_5]
  · rw [hi, hra, encX_slice_11_5]
  · rw [hi, hk, slice_split _ 0 6 5 (by omega), slice_split _ 0 6 5 (by omega), encX_slice_0_6, encX_slice_0_6,
      encX_slice_6_5, encX_slice_6_5]
  · rw [hi, hk]
    apply dsisrCode_congr <;> rw [encX_slice_0_6]
    · rw [encX_slice_0_6]
    · exact fun _ => by rw [encX_slice_21_10, encX_slice_21_10]
    · exact fun h => absurd h (by decide)

end

theorem formsAgree_of_alternate {i j : Instr} (impl64 : Bool) (h : alternateForm i = some j) :
    ∃ k, alternateForm j = some k ∧ FormsAgree impl64 i j k := by
  cases i with
  | lbz | lbzu | lhz | lhzu | lha | lhau | lwz | lwzu | stb | stbu | sth | sthu | stw | stwu | lfs | lfsu | lfd | lfdu
  | stfs | stfsu | stfd | stfdu =>
    cases h
    exact ⟨_, rfl, formsAgree_d rfl rfl rfl (by decide)⟩
  | lwa | ld | ldu | std | stdu =>
    cases h
    exact ⟨_, rfl, formsAgree_ds rfl rfl rfl (by decide)⟩
  | lbzx | lbzux | lhzx | lhzux | lhax | lhaux | lwzx | lwzux | stbx | stbux | sthx | sthux | stwx | stwux | lfsx
  | lfsux | lfdx | lfdux | stfsx | stfsux | stfdx | stfdux =>
    cases h
    exact ⟨_, rfl, formsAgree_x rfl (encD_slice_6_5 _ _ _ _) (encD_slice_11_5 _ _ _ _) rfl⟩
  | lwax | ldx | ldux | stdx | stdux =>
    cases h
    exact ⟨_, rfl, formsAgree_x rfl (encDS_slice_6_5 _ _ _ _ _) (encDS_slice_11_5 _ _ _ _ _) rfl⟩
  | _ => cases h

theorem reportedForm_of_some {c : Config} {i j : Instr} (h : alternateForm i = some j) :
    reportedForm c i = if c.alternateDsisr.contains (dsisrCode c.impl64 (encode i)) then j else i := by
  rw [reportedForm, h]

/-- The alternate form makes the same kind of access. -/
theorem accessOf_of_alternate {s : State} {i j : Instr} {a : Access} (hj : alternateForm i = some j)
    (ha : accessOf i s = some a) :
    ∃ b, accessOf j s = some b ∧ b.regs = a.regs ∧ b.cls = a.cls ∧ b.kind = a.kind ∧ b.bytes = a.bytes := by
  cases i with
  | lbz | lbzu | lhz | lhzu | lha | lhau | lwz | lwzu | stb | stbu | sth | sthu | stw | stwu | lfs | lfsu | lfd | lfdu
  | stfs | stfsu | stfd | stfdu | lwa | ld | ldu | std | stdu | lbzx | lbzux | lhzx | lhzux | lhax | lhaux | lwzx | lwzux
  | stbx | stbux | sthx | sthux | stwx | stwux | lfsx | lfsux | lfdx | lfdux | stfsx | stfsux | stfdx | stfdux | lwax | ldx
  | ldux | stdx | stdux =>
    cases hj
    cases ha
    exact ⟨_, rfl, rfl, rfl, rfl, rfl⟩
  | _ => cases hj

theorem regsFor_lmw (rt : Gpr) : regsFor (4 * (32 - rt.toNat)) = 32 - rt.toNat := by
  rw [regsFor]
  omega

end Sys2Proof.Machine

namespace Sys2Proof

open Machine Laws

/-- Settles O51: the fields of DSISR by its definition, and the forms by their encodings. -/
theorem alignmentDsisr : Obligations.AlignmentDsisr := by
  refine ⟨fun impl64 w regs free => ?_, fun s i a ha => ?_, fun c i j => ?_, fun s i j a => accessOf_of_alternate⟩
  · intro v op
    obtain ⟨hds, hzero, h15, h17, h18⟩ := dsisrCode_parts impl64 w
    have hfield (j n : Nat) (hn : j + n ≤ 10) : slice v (12 + j) n = slice (dsisrCode impl64 w) j n := by
      rw [← alignmentDsisr_code impl64 w regs free, slice_slice _ (by omega) hn]
    have hbit17 (k : Nat) (hk : k < 32) (h : slice (dsisrCode impl64 w) 5 1 = slice w k 1) : bit v 17 = bit w k := by
      rw [bit_of_slice_one ((hfield 5 1 (by omega)).trans h) (by omega), slice_one w hk, bit_b1]
    refine ⟨alignmentDsisr_high .., (bit_alignmentDsisr impl64 w regs free 2 (by omega)).trans hzero, fun hop => ?_,
      fun hop => ?_, alignmentDsisr_rt impl64 w regs free, ?_, ?_⟩
    · have hx := (dsisrForm_eq_x_iff w).mpr hop
      rw [hx] at hds h15 h17 h18
      exact ⟨(hfield 0 2 (by omega)).trans hds, (hfield 3 2 (by omega)).trans h15, hbit17 25 (by omega) h17,
        (hfield 6 4 (by omega)).trans h18⟩
    · have hx := mt (dsisrForm_eq_x_iff w).mp hop
      rw [if_neg hx] at h15 h17 h18
      refine ⟨(hfield 3 2 (by omega)).trans h15, hbit17 5 (by omega) h17, (hfield 6 4 (by omega)).trans h18,
        (hfield 0 2 (by omega)).trans (hds.trans (if_congr (and_congr_left' (dsisrForm_eq_ds_iff w)) rfl rfl))⟩
    · rintro rfl
      exact alignmentDsisr_ra_update impl64 w free
    · rintro first count rfl
      have hra := alignmentDsisr_ra_outside impl64 w free first count
      split at hra
      · exact .inl hra
      · next hout =>
        refine .inr fun k hk heq => hout ((inWrappedRange_iff _ _ _).mpr ⟨k, hk, ?_⟩)
        rw [← hra]
        exact heq
  · cases i with
    | lmw rt =>
      cases ha
      exact congrArg (DsisrRegs.outside rt) (regsFor_lmw rt)
    | _ => cases ha <;> rfl
  · intro field code
    refine ⟨reportedForm_of_none, fun h => ?_⟩
    have hcode (k : Instr) : code k = dsisrCode c.impl64 (encode k) := alignmentDsisr_code ..
    obtain ⟨k, hk, hrt, hra, hfirst, hkcode⟩ := formsAgree_of_alternate c.impl64 h
    rw [hcode, reportedForm_of_some h]
    exact ⟨rfl, hrt, hra, k, hk, hfirst, (hcode k).trans hkcode⟩

end Sys2Proof


/-! SUPPORT. Data accesses that are stopped (20_memory.md R101, R112, R131, 60_exceptions.md R713, R716). The idea: the
meaning of a load or store starts with the check of its access `accessOf`, and what stops the check ends the instruction;
the check itself is the Alignment rule of the class, then the first byte that fails. -/

namespace Sys2Proof.Machine

open Laws

/-! ## What stops the check ends the instruction -/

/-- The state in which a stopped access ends: CR0 of a conditional store is free (log 14). -/
def State.stoppedBy (s : State) (a : Access) : State :=
  if a.cls = .reserve ∧ a.kind = .store then (s.setCrField 0 (slice (s.free 1) 0 4)).drawn 1 else s

section
variable {s : State} {i : Instr} {regs : DsisrRegs} {cls : AccessClass} {ea : Dword} {n : Nat} {e : Stop}

theorem memRead_of_error (h : accessReals i regs cls .load ea n s = .error e) (body : Dword → Result) :
    memRead i regs cls ea n s body = e.outcome s := by
  rw [memRead, h]

theorem memWrite_of_error (h : accessReals i regs cls .store ea n s = .error e) (v : Dword) (body : State → Result) :
    memWrite i regs cls ea n v s body = e.outcome s := by
  rw [memWrite, h]

theorem loadInto_of_error {rt : Gpr} {ext : Dword → Dword} (h : accessReals i .other .fixed .load ea n s = .error e) :
    loadInto i rt ea n ext s = e.outcome s :=
  memRead_of_error h _

theorem loadUpdate_of_error {rt ra : Gpr} {ext : Dword → Dword} (h : accessReals i .update .fixed .load ea n s = .error e) :
    loadUpdate i rt ra ea n ext s = e.outcome s :=
  memRead_of_error h _

theorem loadSingle_of_error {frt : Fpr} (h : accessReals i .other .float .load ea 4 s = .error e) :
    loadSingle i frt ea s = e.outcome s :=
  memRead_of_error h _

theorem loadSingleUpdate_of_error {frt : Fpr} {ra : Gpr} (h : accessReals i .update .float .load ea 4 s = .error e) :
    loadSingleUpdate i frt ra ea s = e.outcome s :=
  memRead_of_error h _

theorem loadDouble_of_error {frt : Fpr} (h : accessReals i .other .float .load ea 8 s = .error e) :
    loadDouble i frt ea s = e.outcome s :=
  memRead_of_error h _

theorem loadDoubleUpdate_of_error {frt : Fpr} {ra : Gpr} (h : accessReals i .update .float .load ea 8 s = .error e) :
    loadDoubleUpdate i frt ra ea s = e.outcome s :=
  memRead_of_error h _

theorem storeFrom_of_error {v : Dword} (h : accessReals i .other .fixed .store ea n s = .error e) :
    storeFrom i v ea n s = e.outcome s :=
  memWrite_of_error h _ _

theorem storeUpdate_of_error {ra : Gpr} {v : Dword} (h : accessReals i .update .fixed .store ea n s = .error e) :
    storeUpdate i ra v ea n s = e.outcome s :=
  memWrite_of_error h _ _

theorem storeSingle_of_error {frs : Fpr} (h : accessReals i .other .float .store ea 4 s = .error e) :
    storeSingle i frs ea s = e.outcome s :=
  memWrite_of_error h _ _

theorem storeSingleUpdate_of_error {frs : Fpr} {ra : Gpr} (h : accessReals i .update .float .store ea 4 s = .error e) :
    storeSingleUpdate i frs ra ea s = e.outcome s :=
  memWrite_of_error h _ _

theorem storeDouble_of_error {frs : Fpr} (h : accessReals i .other .float .store ea 8 s = .error e) :
    storeDouble i frs ea s = e.outcome s :=
  memWrite_of_error h _ _

theorem storeDoubleUpdate_of_error {frs : Fpr} {ra : Gpr} (h : accessReals i .update .float .store ea 8 s = .error e) :
    storeDoubleUpdate i frs ra ea s = e.outcome s :=
  memWrite_of_error h _ _

theorem storeInteger_of_error {frs : Fpr} (h : accessReals i .other .float .store ea 4 s = .error e) :
    storeInteger i frs ea s = e.outcome s :=
  memWrite_of_error h _ _

theorem loadMany_of_error {rt : Gpr} (h : accessReals i (.outside rt (regsFor n)) cls .load ea n s = .error e) :
    loadMany i cls rt ea n s = e.outcome s := by
  rw [loadMany, h]

theorem storeMany_of_error (h : accessReals i .other cls .store ea n s = .error e) (rs : Gpr) :
    storeMany i cls rs ea n s = e.outcome s := by
  rw [storeMany, h]

theorem loadReserve_of_error (h : accessReals i .other .reserve .load ea n s = .error e) (rt : Gpr) :
    loadReserve i rt ea n s = e.outcome s := by
  rw [loadReserve, h]

theorem storeConditional_of_error (h : accessReals i .other .reserve .store ea n s = .error e) (v : Dword) :
    storeConditional i v ea n s = e.outcome ((s.setCrField 0 (slice (s.free 1) 0 4)).drawn 1) := by
  rw [storeConditional, h]

/-- A string of no bytes is not stopped in Big-Endian mode. -/
theorem accessReals_of_empty {kind : AccessKind} (hle : s.msrBit msrLE = false) :
    accessReals i regs .string kind ea 0 s = .ok [] := by
  have htraps : alignmentTraps i s .string kind (s.iea ea) 0 = false := by
    simp [alignmentTraps, hle, crossesDomain, operandBytes]
  rw [(accessReals_of_not_traps htraps).2 [] rfl, hle]
  rfl

theorem loadStringIndexed_of_error {rt ra rb : Gpr}
    (h : accessReals i (.outside rt (regsFor s.xerCount)) .string .load (eaX s ra rb) s.xerCount s = .error e) :
    loadStringIndexed i rt ra rb s = e.outcome s := by
  rw [loadStringIndexed, if_neg ?_, loadMany_of_error h]
  rintro ⟨hcount, hle⟩
  rw [hcount, accessReals_of_empty ((Bool.not_eq_true' _).mp hle)] at h
  cases h

theorem admitted_of_body {body r : Result} (hbody : body = r) (hadm : admission i s = .execute) : admitted i s body = r :=
  (admitted_of_execute hadm body).trans hbody

/-- What stops the access of a load or store ends it, in the state before it but for CR0 of a conditional store. -/
theorem exec_of_stopped {a : Access} (ha : accessOf i s = some a) (h : a.reals i s = .error e)
    (hadm : admission i s = .execute) : exec i s = e.outcome (s.stoppedBy a) := by
  cases i with
  | lbz | lbzx | lhz | lhzx | lha | lhax | lwz | lwzx | lwa | lwax | ld | ldx | lhbrx | lwbrx =>
    cases ha
    exact admitted_of_body (loadInto_of_error h) hadm
  | lbzu | lbzux | lhzu | lhzux | lhau | lhaux | lwzu | lwzux | lwaux | ldu | ldux =>
    cases ha
    exact admitted_of_body (loadUpdate_of_error h) hadm
  | stb | stbx | sth | sthx | stw | stwx | std | stdx | sthbrx | stwbrx =>
    cases ha
    exact admitted_of_body (storeFrom_of_error h) hadm
  | stbu | stbux | sthu | sthux | stwu | stwux | stdu | stdux =>
    cases ha
    exact admitted_of_body (storeUpdate_of_error h) hadm
  | lfs | lfsx =>
    cases ha
    exact admitted_of_body (loadSingle_of_error h) hadm
  | lfsu | lfsux =>
    cases ha
    exact admitted_of_body (loadSingleUpdate_of_error h) hadm
  | lfd | lfdx =>
    cases ha
    exact admitted_of_body (loadDouble_of_error h) hadm
  | lfdu | lfdux =>
    cases ha
    exact admitted_of_body (loadDoubleUpdate_of_error h) hadm
  | stfs | stfsx =>
    cases ha
    exact admitted_of_body (storeSingle_of_error h) hadm
  | stfsu | stfsux =>
    cases ha
    exact admitted_of_body (storeSingleUpdate_of_error h) hadm
  | stfd | stfdx =>
    cases ha
    exact admitted_of_body (storeDouble_of_error h) hadm
  | stfdu | stfdux =>
    cases ha
    exact admitted_of_body (storeDoubleUpdate_of_error h) hadm
  | stfiwx =>
    cases ha
    exact admitted_of_body (storeInteger_of_error h) hadm
  | lmw | lswi =>
    cases ha
    exact admitted_of_body (loadMany_of_error h) hadm
  | stmw | stswi | stswx =>
    cases ha
    exact admitted_of_body (storeMany_of_error h _) hadm
  | lswx =>
    cases ha
    exact admitted_of_body (loadStringIndexed_of_error h) hadm
  | lwarx | ldarx =>
    cases ha
    exact admitted_of_body (loadReserve_of_error h _) hadm
  | stwcxDot | stdcxDot =>
    cases ha
    exact admitted_of_body (storeConditional_of_error h _) hadm
  | _ => cases ha

end

/-! ## The bytes of an operand -/

section
variable {s : State} {cls : AccessClass} {kind : AccessKind} {a : Dword}

/-- A byte that the class may not access stops it: one in a direct-store segment, for the reservation instructions one in
Write Through storage too (log 35). -/
def refusedBy (cls : AccessClass) (attrs : StorageAttrs) : Bool := attrs.directStore || (cls == .reserve && attrs.writeThrough)

theorem byteReal_of_fault {f : TranslationFault} (h : translate s kind (storageAddress s a) = .error f) :
    byteReal s cls kind a = .error (.interrupt (.dataStorage (dataFaultDsisr kind f) (some a))) := by
  rw [byteReal, h]

theorem byteReal_of_refused {real : Dword} {attrs : StorageAttrs}
    (h : translate s kind (storageAddress s a) = .ok (real, attrs)) (href : refusedBy cls attrs = true) :
    byteReal s cls kind a = .error (if cls = .reserve ∨ cls = .external
      then .interrupt (.dataStorage (oneBit 32 5 ||| dsisrStore kind) (some a)) else .fault .directStoreAccess) := by
  rw [byteReal, h]
  cases cls <;> simp_all [refusedBy]

theorem byteReal_of_passes {real : Dword} {attrs : StorageAttrs}
    (h : translate s kind (storageAddress s a) = .ok (real, attrs)) (href : refusedBy cls attrs = false) :
    byteReal s cls kind a = .ok real := by
  rw [byteReal, h]
  cases cls <;> simp_all [refusedBy]

/-- The bytes of an operand before one of them, and that one. -/
theorem operandBytes_split {ea : Dword} {n k : Nat} (hk : k < n) :
    ∃ rest, operandBytes s ea n =
      ((List.range k).map fun j => s.iea (ea + BitVec.ofNat 64 j)) ++ s.iea (ea + BitVec.ofNat 64 k) :: rest := by
  obtain ⟨m, rfl⟩ : ∃ m, n = k + (1 + m) := ⟨n - k - 1, by omega⟩
  refine ⟨(List.range m).map fun j => s.iea (ea + BitVec.ofNat 64 (k + (1 + j))), ?_⟩
  simp [operandBytes, List.range_add, Function.comp_def]

/-- Bytes that all pass, at the real addresses of each. -/
theorem bytesReal_of_forall {byte real : Nat → Dword} (ks : List Nat)
    (h : ∀ k ∈ ks, byteReal s cls kind (byte k) = .ok (real k)) :
    bytesReal s cls kind (ks.map byte) = .ok (ks.map real) := by
  induction ks with
  | nil => rfl
  | cons k ks ih =>
    rw [List.map_cons, bytesReal, h k (by simp), ih fun j hj => h j (by simp [hj])]
    rfl

/-- The first byte of an operand that fails stops the access. -/
theorem accessReals_of_first {i : Instr} {regs : DsisrRegs} {ea : Dword} {n k : Nat} {e : Stop}
    (htraps : alignmentTraps i s cls kind (s.iea ea) n = false) (hk : k < n)
    (hbefore : ∀ j, j < k → ∃ r, byteReal s cls kind (s.iea (ea + BitVec.ofNat 64 j)) = .ok r)
    (hfail : byteReal s cls kind (s.iea (ea + BitVec.ofNat 64 k)) = .error e) :
    accessReals i regs cls kind ea n s = .error e := by
  obtain ⟨rest, hbytes⟩ := operandBytes_split (s := s) (ea := ea) hk
  apply (accessReals_of_not_traps htraps).1
  rw [hbytes]
  refine bytesReal_first (fun b hb => ?_) hfail
  obtain ⟨j, hj, rfl⟩ := List.mem_map.mp hb
  exact hbefore j (List.mem_range.mp hj)

end

/-! ## The translation table -/

/-- Does a line of the table answer for an address? -/
def entryApplies (s : State) (page : BitVec 52) (kind : AccessKind) (priv : Bool) (e : TranslationEntry) : Bool :=
  e.page == page && e.kind == kind && e.privileged == priv && e.conditions.all s.meets

theorem findTranslation_eq_find? (s : State) (l : List TranslationEntry) (page : BitVec 52) (kind : AccessKind)
    (priv : Bool) :
    findTranslation s l page kind priv = (l.find? (entryApplies s page kind priv)).map (·.result) := by
  have happlies (e : TranslationEntry) : entryApplies s page kind priv e = true ↔
      e.page = page ∧ e.kind = kind ∧ e.privileged = priv ∧ e.conditions.all s.meets = true := by
    simp [entryApplies, and_assoc]
  induction l with
  | nil => rfl
  | cons e l ih =>
    rw [findTranslation, ih, List.find?_cons]
    split
    · next h => rw [(happlies e).mpr h]; rfl
    · next h => rw [Bool.eq_false_iff.mpr (mt (happlies e).mp h)]

/-! ## Cache and external control instructions -/

theorem cacheBlock_of_fault {s : State} {kind : AccessKind} {ea : Dword} {f : TranslationFault}
    (h : translate s kind (s.iea ea) = .error f) :
    cacheBlock kind ea s = .next (takeInterrupt (.dataStorage (dataFaultDsisr kind f) (some (s.iea ea))) s) := by
  rw [cacheBlock, h]
  rfl

theorem zeroBlock_of_fault {s : State} {i : Instr} {ea : Dword} {f : TranslationFault}
    (h : translate s .store (blockBase s.cfg (s.iea ea)) = .error f) :
    zeroBlock i ea s = .next (takeInterrupt (.dataStorage (dataFaultDsisr .store f) (some (s.iea ea))) s) := by
  rw [zeroBlock, h]
  rfl

theorem controlling_of_relocated {s : State} (h : s.msrBit msrDR = true) : s.controlling = s :=
  if_pos h

/-- An External Control operation under translation that is stopped ends in what stops it. -/
theorem exec_external_of_stop {s : State} {r ra rb : Gpr} {kind : AccessKind} {e : Stop}
    (hext : s.cfg.hasExternalControl = true)
    (hdr : s.msrBit msrDR = true) (hkind : kind ≠ .ifetch)
    (h : externalReal (if kind = .load then .eciwx r ra rb else .ecowx r ra rb) kind (eaX s ra rb) s = .error e) :
    exec (if kind = .load then .eciwx r ra rb else .ecowx r ra rb) s = e.outcome s := by
  obtain ⟨hin, hout⟩ := exec_external (r := r) (ra := ra) (rb := rb) hext (.inl hdr)
  cases kind with
  | ifetch => exact absurd rfl hkind
  | load =>
    have hstop := (external_of_stop (rt := r) hkind h).1 rfl
    rw [controlling_of_relocated hdr] at hin hstop
    exact hin.trans hstop
  | store =>
    have hstop := (external_of_stop (rt := r) hkind h).2 rfl (s.x r)
    rw [controlling_of_relocated hdr] at hout hstop
    exact hout.trans hstop

section
variable {s : State} {i : Instr} {kind : AccessKind} {ea : Dword}
  (ht : alignmentTraps i s .external kind (s.iea ea) 4 = false) (he : bit s.ear 0 = true)
include ht he

theorem externalReal_of_fault {f : TranslationFault}
    (h : translate s kind (if s.msrBit msrLE then s.iea ea ^^^ 4 else s.iea ea) = .error f) :
    externalReal i kind ea s = .error (.interrupt (.dataStorage (dataFaultDsisr kind f) (some (s.iea ea)))) := by
  rw [externalReal, if_neg (by simp [ht]), State.earEnabled, he, h]
  rfl

theorem externalReal_of_directStore {real : Dword} {attrs : StorageAttrs}
    (h : translate s kind (if s.msrBit msrLE then s.iea ea ^^^ 4 else s.iea ea) = .ok (real, attrs))
    (hds : attrs.directStore = true) :
    externalReal i kind ea s = .error (.interrupt (.dataStorage (oneBit 32 5 ||| dsisrStore kind) (some (s.iea ea)))) := by
  rw [externalReal, if_neg (by simp [ht]), State.earEnabled, he, h]
  simp [hds]

end

/-- DSISR for an access the class or the segment does not support. -/
theorem unsupported_eq (kind : AccessKind) :
    (if kind = .store then 0x06000000 else 0x04000000 : Word) = oneBit 32 5 ||| dsisrStore kind := by
  cases kind <;> rfl

/-- Settles O50: the check stops at the first byte that fails, what stops it ends the instruction, and the table is searched
in order. -/
theorem storageInterrupts : Obligations.StorageInterrupts := by
  unfold Obligations.StorageInterrupts
  intro bits unsupported
  have hunsupported (kind : AccessKind) : unsupported kind = oneBit 32 5 ||| dsisrStore kind := unsupported_eq kind
  refine ⟨fun s i regs cls kind ea n => ?_, fun s i a ha hadm => ?_, fun s ra rb f => ?_,
    fun s r ra rb kind hext hdr hear hkind => ?_, fun s kind a => ?_⟩
  · intro byte answer refused passes htraps
    have hpass {k : Nat} {real : Dword} (h : passes k real) : byteReal s cls kind (byte k) = .ok real := by
      obtain ⟨attrs, htr, href⟩ := h
      exact byteReal_of_passes htr href
    refine ⟨fun k hk hbefore => ?_, fun real hall => ?_⟩
    · have hearlier (j : Nat) (hj : j < k) : ∃ r, byteReal s cls kind (byte j) = .ok r :=
        let ⟨real, h⟩ := hbefore j hj
        ⟨real, hpass h⟩
      refine ⟨fun f htr => accessReals_of_first htraps hk hearlier (byteReal_of_fault htr), fun real attrs htr href => ?_⟩
      rw [hunsupported]
      exact accessReals_of_first htraps hk hearlier (byteReal_of_refused htr href)
    · rw [(accessReals_of_not_traps htraps).2 _
        (bytesReal_of_forall (List.range n) fun k hk => hpass (hall k (List.mem_range.mp hk)))]
  · exact ⟨fun c h => exec_of_stopped ha h hadm, fun f h => exec_of_stopped ha h hadm⟩
  · intro ea block raised
    have cache {i : Instr} {kind : AccessKind} (h : translate s kind ea = .error f)
        (hexec : exec i s = cacheBlock kind (eaX s ra rb) s) : exec i s = raised kind :=
      hexec.trans (cacheBlock_of_fault h)
    exact ⟨fun htr => ⟨cache htr (exec_free rfl rfl rfl rfl), cache htr (exec_free rfl rfl rfl rfl),
        cache htr (exec_free rfl rfl rfl rfl)⟩,
      fun htr hpr => cache htr (exec_supervisor rfl hpr rfl rfl rfl rfl),
      fun htr => (exec_free (i := .dcbz ra rb) rfl rfl rfl rfl).trans (zeroBlock_of_fault htr)⟩
  · intro i ea answer htraps
    refine ⟨fun f htr => exec_external_of_stop hext hdr hkind (externalReal_of_fault htraps hear htr),
      fun real attrs htr hds => ?_⟩
    rw [hunsupported]
    exact exec_external_of_stop hext hdr hkind (externalReal_of_directStore htraps hear htr hds)
  · intro applies
    rw [translate, findTranslation_eq_find?]
    rfl

/-! ## The Alignment rule -/

section
variable (s : State) (i : Instr) (kind : AccessKind) (ea : Dword) (n : Nat)

/-- The truncation of an effective address may come before or after an addition. -/
theorem iea_iea_add (a b : Dword) : s.iea (s.iea a + b) = s.iea (a + b) := by
  unfold State.iea
  split
  · rfl
  · apply congrArg
    have hadd (x : Dword) : lowWord (x + b) = lowWord x + lowWord b := BitVec.setWidth_add _ _ (by omega)
    have hlow : lowWord (zext (lowWord a)) = lowWord a := BitVec.setWidth_setWidth_of_le _ (by omega)
    rw [hadd, hadd, hlow]

theorem any_operandBytes_iff (p : Dword → Bool) :
    (operandBytes s (s.iea ea) n).any p = true ↔ ∃ k, k < n ∧ p (s.iea (ea + BitVec.ofNat 64 k)) = true := by
  simp [operandBytes, iea_iea_add]

/-- A byte outside the protection domain of the first one: another page, and neither the same BAT area nor the same
direct-store segment. -/
theorem sameDomain_eq_false_iff (a b : Dword) : sameDomain s kind a b = false ↔
    slice b 0 52 ≠ slice a 0 52 ∧
      ((attrsOf s kind b).block ≠ (attrsOf s kind a).block ∨ (attrsOf s kind b).block = none) ∧
      ¬ ((attrsOf s kind a).block = none ∧ (attrsOf s kind b).block = none ∧ (attrsOf s kind a).directStore = true ∧
        (attrsOf s kind b).directStore = true ∧ slice b 0 36 = slice a 0 36) := by
  have hblock (u v : StorageAttrs) : (u.block.isSome && u.block == v.block) = false ↔ v.block ≠ u.block ∨ v.block = none := by
    rcases u.block with _ | x <;> rcases v.block with _ | y <;> simp only [Option.isSome] <;> grind
  unfold sameDomain
  dsimp only
  rw [Bool.or_eq_false_iff, Bool.or_eq_false_iff, hblock, and_assoc, beq_eq_false_iff_ne, ne_comm]
  refine and_congr_right' (and_congr_right' ?_)
  rw [← Bool.not_eq_true, not_iff_not]
  simp [and_assoc, eq_comm (a := slice a 0 36)]

theorem crossesDomain_iff : crossesDomain s kind (s.iea ea) n = true ↔
    ∃ k, k < n ∧ sameDomain s kind (s.iea ea) (s.iea (ea + BitVec.ofNat 64 k)) = false :=
  (any_operandBytes_iff s ea n _).trans (exists_congr fun _ => and_congr_right' (Bool.not_eq_true' _).to_iff)

theorem crossesArea_iff : crossesArea s kind (s.iea ea) n = true ↔
    ∃ k, k < n ∧ (slice (s.iea (ea + BitVec.ofNat 64 k)) 0 36 ≠ slice (s.iea ea) 0 36 ∨
      (attrsOf s kind (s.iea (ea + BitVec.ofNat 64 k))).block ≠ (attrsOf s kind (s.iea ea)).block) := by
  refine (any_operandBytes_iff s ea n _).trans (exists_congr fun k => and_congr_right' ?_)
  rw [Bool.or_eq_true, bne_iff_ne, bne_iff_ne]

/-- The Little-Endian rule for a scalar (R106). -/
theorem scalar_littleTraps_iff {cls : AccessClass} (hcls : cls = .fixed ∨ cls = .float ∨ cls = .reserve) (ea : Dword) :
    littleTraps i s cls ea n = true ↔ ea.toNat % n ≠ 0 ∧
      (s.cfg.align.little = .trap ∨ (s.cfg.align.little = .trapCrossing ∧ 8 < ea.toNat % 8 + n) ∨
        (s.cfg.align.little = .byAccess ∧ Config.alignTraps (encode i) ea s.msr = true)) := by
  have hpolicy : littleTraps i s cls ea n = (ea.toNat % n != 0 &&
      match s.cfg.align.little with
      | .trap => true
      | .trapCrossing => decide (8 < ea.toNat % 8 + n)
      | .perform => false
      | .byAccess => choiceTraps .byAccess i ea s) := by
    rcases hcls with rfl | rfl | rfl <;> rfl
  rw [hpolicy, Bool.and_eq_true, bne_iff_ne]
  refine and_congr_right' ?_
  cases s.cfg.align.little <;> simp [choiceTraps]

theorem accessOf_cls {a : Access} (h : accessOf i s = some a) : a.cls ≠ .external := by
  cases i with
  | _ => cases h <;> exact nofun

end

section
variable {s : State} {i : Instr} {cls : AccessClass} {kind : AccessKind} {ea : Dword} {n : Nat}
  {little leaves crosses direct : Prop}
  {chosen : AlignChoice → Prop} {misaligned : Nat → Prop}

/-- The Alignment rule of R106, R107 and R112, class by class, in terms of its conditions. -/
theorem alignmentTraps_iff (hcls : cls ≠ .external)
    (hlittle : cls = .fixed ∨ cls = .float ∨ cls = .reserve → (littleTraps i s cls ea n = true ↔ misaligned n ∧ little))
    (hchosen : ∀ c, choiceTraps c i ea s = true ↔ chosen c) (hmis : ∀ m, (ea.toNat % m != 0) = true ↔ misaligned m)
    (hleaves : crossesDomain s kind ea n = true ↔ leaves) (hcrosses : crossesArea s kind ea n = true ↔ crosses)
    (hdirect : ((operandBytes s ea n).any fun b => (attrsOf s kind b).directStore) = true ↔ direct) :
    alignmentTraps i s cls kind ea n = true ↔
      (s.msrBit msrLE = true ∧ (cls = .multiple ∨ cls = .string)) ∨
      (s.msrBit msrLE = true ∧ (cls = .fixed ∨ cls = .float ∨ cls = .reserve) ∧ misaligned n ∧ little) ∨
      (cls = .float ∧ misaligned 4 ∧ chosen s.cfg.align.float) ∨
      (cls = .fixed ∧ n = 8 ∧ misaligned 4 ∧ chosen s.cfg.align.double) ∨
      (cls = .multiple ∧ misaligned 4 ∧ chosen s.cfg.align.multiple) ∨
      (cls = .reserve ∧ misaligned n ∧ chosen s.cfg.align.reserve) ∨
      (cls = .float ∧ direct ∧ chosen s.cfg.align.floatDirect) ∨
      (cls ≠ .multiple ∧ s.msrBit msrDR = true ∧ leaves ∧ chosen s.cfg.align.crossing) ∨
      (cls = .multiple ∧ s.msrBit msrDR = true ∧ chosen s.cfg.align.multipleCrossing ∧ crosses) := by
  cases cls with
  | fixed =>
    simp only [alignmentTraps, Bool.or_eq_true, Bool.and_eq_true, hlittle (.inl rfl), hmis, hchosen, hleaves, beq_iff_eq]
    clear hlittle hchosen hmis hleaves hcrosses hdirect
    simp
    tauto
  | float =>
    simp only [alignmentTraps, Bool.or_eq_true, Bool.and_eq_true, hlittle (.inr (.inl rfl)), hmis, hchosen, hleaves, hdirect]
    clear hlittle hchosen hmis hleaves hcrosses hdirect
    simp
    tauto
  | reserve =>
    simp only [alignmentTraps, Bool.or_eq_true, Bool.and_eq_true, hlittle (.inr (.inr rfl)), hmis, hchosen, hleaves]
    clear hlittle hchosen hmis hleaves hcrosses hdirect
    simp
    tauto
  | multiple =>
    simp only [alignmentTraps, littleTraps, Bool.or_eq_true, Bool.and_eq_true, hmis, hchosen, hcrosses]
    clear hlittle hchosen hmis hleaves hcrosses hdirect
    simp
    tauto
  | string =>
    simp only [alignmentTraps, littleTraps, Bool.or_eq_true, Bool.and_eq_true, hchosen, hleaves]
    clear hlittle hchosen hmis hleaves hcrosses hdirect
    simp
    tauto
  | external => exact absurd rfl hcls

end

/-- `dcbz` to Write Through or Caching Inhibited storage, where the choice for the case traps it. -/
theorem zeroBlock_of_traps {s : State} {i : Instr} {ea real : Dword} {attrs : StorageAttrs}
    (h : translate s .store (blockBase s.cfg (s.iea ea)) = .ok (real, attrs)) (hdr : s.msrBit msrDR = true)
    (hclass : attrs.writeThrough = true ∨ attrs.cachingInhibited = true)
    (hchoice : choiceTraps s.cfg.align.zeroBlock i (s.iea ea) s = true) :
    zeroBlock i ea s = .next (takeInterrupt (alignmentCause i .zeroBlock ea s) s) := by
  rw [zeroBlock, h]
  dsimp only
  rw [hchoice, hdr, (Bool.or_eq_true _ _).mpr hclass]
  rfl

/-- A misaligned word of an External Control operation, where the choice for the case traps it. -/
theorem alignmentTraps_external {s : State} {i : Instr} {kind : AccessKind} {ea : Dword} (hmis : ea.toNat % 4 ≠ 0)
    (hchoice : choiceTraps s.cfg.align.external i ea s = true) : alignmentTraps i s .external kind ea 4 = true := by
  simp [alignmentTraps, hmis, hchoice]

/-- Settles O49: the Alignment rule class by class. -/
theorem alignmentInterrupts : Obligations.AlignmentInterrupts := by
  unfold Obligations.AlignmentInterrupts
  refine ⟨fun s i a ha => ?_, fun s r ra rb hdr => ?_⟩
  · intro ea chosen misaligned attrs someByte otherDomain stopped traps
    refine ⟨fun htraps hadm => exec_of_stopped ha (accessReals_of_traps htraps) hadm, ?_⟩
    have hchosen (c : AlignChoice) : choiceTraps c i ea s = true ↔ chosen c := choiceTraps_iff c i ea s
    have hdomain : crossesDomain s a.kind ea a.bytes = true ↔ someByte otherDomain :=
      (crossesDomain_iff s a.kind a.ea a.bytes).trans
        (exists_congr fun k => and_congr_right' (sameDomain_eq_false_iff s a.kind _ _))
    have harea : crossesArea s a.kind ea a.bytes = true ↔
        someByte fun b => slice b 0 36 ≠ slice ea 0 36 ∨ (attrs b).block ≠ (attrs ea).block :=
      crossesArea_iff s a.kind a.ea a.bytes
    have hdirect : ((operandBytes s ea a.bytes).any fun b => (attrsOf s a.kind b).directStore) = true ↔
        someByte fun b => (attrs b).directStore = true :=
      any_operandBytes_iff s a.ea a.bytes _
    have hcls := accessOf_cls s i ha
    have hlittle (h : a.cls = .fixed ∨ a.cls = .float ∨ a.cls = .reserve) := scalar_littleTraps_iff s i a.bytes h ea
    exact alignmentTraps_iff hcls hlittle hchosen (fun _ => bne_iff_ne) hdomain harea hdirect
  · intro ea block chosen trapped
    have hchosen {c : AlignChoice} {i : Instr} (h : chosen c i) : choiceTraps c i ea s = true :=
      (choiceTraps_iff c i ea s).mpr h
    refine ⟨fun real attrs htr hclass hchoice => ?_, fun hext hmis => ⟨fun hchoice => ?_, fun hchoice => ?_⟩⟩
    · have hstop := zeroBlock_of_traps (i := .dcbz ra rb) (ea := eaX s ra rb) htr hdr hclass (hchosen hchoice)
      rw [alignmentCause_of_no_alternate rfl] at hstop
      exact (exec_free rfl rfl rfl rfl).trans hstop
    · have hstop := exec_external_of_stop (r := r) (ra := ra) (rb := rb) (kind := .load) hext hdr nofun
        (externalReal_of_traps (alignmentTraps_external hmis (hchosen hchoice)))
      rw [alignmentCause_of_no_alternate rfl] at hstop
      exact hstop
    · have hstop := exec_external_of_stop (r := r) (ra := ra) (rb := rb) (kind := .store) hext hdr nofun
        (externalReal_of_traps (alignmentTraps_external hmis (hchosen hchoice)))
      rw [alignmentCause_of_no_alternate rfl] at hstop
      exact hstop

end Sys2Proof.Machine


/-! SUPPORT. The floating-point instructions complete (44_float_load_store_move.md R503 to R523, 45_float_arith.md R558,
46_float_convert_compare_status.md R600 to R616). The idea: with MSR_FP = 1 every one runs its body, and with FE0 = FE1 = 0
the common end `fpFinish` records CR1 and goes on in sequence. -/

namespace Sys2Proof.Machine

open Laws

/-! ## Admission and the common end -/

section
variable {s : State} {i : Instr} {body : Result}

/-- A floating-point instruction the implementation has runs its body with MSR_FP = 1. -/
theorem exec_float (hexec : exec i s = admitted i s body) (hfp : s.msrBit msrFP = true)
    (himpl : implemented (i.req s.cfg) s.cfg = true) (hpriv : (i.req s.cfg).priv = false) (hf : i.formValid = true)
    (hh : i.formValidHere s.cfg s.xer = true) : exec i s = body :=
  exec_of_admission hexec ((admission_execute_iff i s).mpr
    ⟨himpl, fun h => absurd (hpriv.symm.trans h) Bool.false_ne_true, fun _ => hfp, hf, hh⟩)

theorem implemented_of_present {r : Req} {c : Config} (hr : r.avail = .both) (hp : r.present = true) :
    implemented r c = true := by
  rw [implemented, hr, hp]
  rfl

/-- With floating-point enabled exceptions ignored an instruction ends in sequence. -/
theorem fpFinish_of_ignored {rc : Bool} {u : State} (h0 : u.msrBit msrFE0 = false) (h1 : u.msrBit msrFE1 = false) :
    fpFinish rc u = .next (u.recordFp rc).advance := by
  have hnone : (u.recordFp rc).fpEnabledException = false := by
    cases rc <;> simp_all [State.fpEnabledException, State.recordFp, State.msrBit, State.setCrField]
  rw [fpFinish, hnone]
  rfl

end

/-- A bit of a slice. -/
theorem bit_slice {m : Nat} (v : BitVec m) (i n j : Nat) (hj : j < n) (hn : i + n ≤ m) :
    bit (slice v i n) j = bit v (i + j) := by
  have hs := slice_slice (j := j) (k := 1) v hn (by omega)
  rw [slice_one _ hj, slice_one v (by omega)] at hs
  have hbit := congrArg (bit · 0) hs
  simpa only [bit_b1] using hbit

theorem withBit_zero_eq (d : Dword) (b : Bool) : withBit d 0 b = b1 b ++ slice d 1 63 := by
  apply BitVec.eq_of_getMsbD_eq
  intro k hk
  change bit (withBit d 0 b) k = bit (b1 b ++ slice d 1 63) k
  rw [bit_withBit d b (by omega) hk]
  split
  · next h => rw [h, bit_append_left _ _ _ (by omega), bit_b1]
  · next h =>
    rw [bit_append_right _ _ _ (by omega) (by omega), bit_slice d 1 63 _ (by omega) (by omega)]
    congr 1
    omega

/-- The first bit and the rest. -/
theorem sign_append (d : Dword) : b1 (bit d 0) ++ slice d 1 63 = d := by
  rw [← slice_one d (by omega), ← slice_split d 0 1 63 (by omega)]
  exact slice_all d

/-! ## The value of a pattern, for the sign tests -/

theorem slice_magnitude (d : Dword) : (slice d 1 63).toNat = fpExponent d * 2 ^ 52 + fpFraction d := by
  rw [slice_split d 1 11 52 (by omega), BitVec.toNat_append, ← Nat.shiftLeft_add_eq_or_of_lt (slice d 12 52).isLt,
    Nat.shiftLeft_eq]
  rfl

theorem fpExponent_lt (d : Dword) : fpExponent d < 2048 := (slice d 1 11).isLt

theorem fpFraction_lt (d : Dword) : fpFraction d < 2 ^ 52 := (slice d 12 52).isLt

/-- A pattern is a zero, of either sign, when all its bits but the sign are 0. -/
theorem slice_eq_zero_iff (d : Dword) : slice d 1 63 = 0 ↔ fpExponent d = 0 ∧ fpFraction d = 0 := by
  rw [← BitVec.toNat_inj, slice_magnitude]
  show _ = 0 ↔ _
  omega

/-- The value of a pattern, class by class. -/
theorem fpValue_cases (d : Dword) :
    (fpExponent d = 2047 ∧ fpFraction d = 0 ∧ fpValue d = .inf (bit d 0)) ∨
    (fpExponent d = 2047 ∧ fpFraction d ≠ 0 ∧ fpValue d = .nan (!bit d 12)) ∨
    (fpExponent d = 0 ∧ fpFraction d = 0 ∧ fpValue d = .zero (bit d 0)) ∨
    (fpExponent d = 0 ∧ fpFraction d ≠ 0 ∧ fpValue d = .finite (bit d 0) (fpFraction d) (-1074)) ∨
    (fpExponent d ≠ 0 ∧ fpExponent d ≠ 2047 ∧
      fpValue d = .finite (bit d 0) (2 ^ 52 + fpFraction d) ((fpExponent d : Int) - 1075)) := by
  unfold fpValue
  by_cases hf : fpFraction d = 0
  · by_cases h2047 : fpExponent d = 2047
    · simp [h2047, hf]
    · by_cases h0 : fpExponent d = 0 <;> simp [h2047, h0, hf]
  · by_cases h2047 : fpExponent d = 2047
    · simp [h2047, hf]
    · by_cases h0 : fpExponent d = 0 <;> simp [h2047, h0, hf]

/-- The test of `fsel` on the value of its operand (R580). -/
def FpValue.atLeastZero : FpValue → Bool
  | .nan _ => false
  | .inf neg => !neg
  | .zero _ => true
  | .finite neg _ _ => !neg

theorem fselTakesC_eq (d : Dword) : fselTakesC d = (fpValue d).atLeastZero := by
  have hzero : (slice d 1 63 == 0) = decide (fpExponent d = 0 ∧ fpFraction d = 0) := by
    rw [Bool.eq_iff_iff, beq_iff_eq, decide_eq_true_eq, slice_eq_zero_iff]
  rw [fselTakesC, hzero]
  rcases fpValue_cases d with ⟨he, hf, hv⟩ | ⟨he, hf, hv⟩ | ⟨he, hf, hv⟩ | ⟨he, hf, hv⟩ | ⟨he, hf, hv⟩ <;>
    simp [hv, he, hf, FpValue.isNan, FpValue.atLeastZero]

/-- Settles O31: each move is its body, and the test of `fsel` reads the class and the sign. -/
theorem floatMovesAndSelect : Obligations.FloatMovesAndSelect := by
  intro s frt fra frc frb rc recorded moved atLeastZero
  have htakes : fselTakesC (s.f fra) = atLeastZero := by
    rw [fselTakesC_eq]
    cases hv : fpValue (s.f fra) <;> simp [atLeastZero, hv, FpValue.atLeastZero]
  refine ⟨fun hfp => ⟨exec_float rfl hfp rfl rfl rfl rfl, ?_, ?_, ?_, exec_float rfl hfp rfl rfl rfl rfl⟩,
    fun hhas hfp => ?_, fun hhas => ?_, fun hhas hfp => ?_⟩
  · have hmove : exec (.fneg frt frb rc) s = moveFp frt frb rc (withBit (s.f frb) 0 (!bit (s.f frb) 0)) s :=
      exec_float rfl hfp rfl rfl rfl rfl
    rw [hmove, withBit_zero_eq]
    rfl
  · have hmove : exec (.fabs frt frb rc) s = moveFp frt frb rc (withBit (s.f frb) 0 false) s :=
      exec_float rfl hfp rfl rfl rfl rfl
    rw [hmove, withBit_zero_eq]
    rfl
  · have hmove : exec (.fnabs frt frb rc) s = moveFp frt frb rc (withBit (s.f frb) 0 true) s :=
      exec_float rfl hfp rfl rfl rfl rfl
    rw [hmove, withBit_zero_eq]
    rfl
  · have hsel : exec (.fsel frt fra frc frb rc) s =
        selectFp frt rc (if fselTakesC (s.f fra) then s.f frc else s.f frb) s :=
      exec_float rfl hfp (implemented_of_present rfl hhas) rfl rfl rfl
    rw [hsel, htakes]
    rfl
  · exact exec_of_not_implemented ((implemented_eq_false_iff s.cfg (.fsel frt fra frc frb rc)).mpr hhas)
  · exact exec_of_fpUnavailable (i := .fsel frt fra frc frb rc) rfl (implemented_of_present rfl hhas) hfp


/-! ## Arithmetic and conversion -/

section
variable {s : State} (h0 : s.msrBit msrFE0 = false) (h1 : s.msrBit msrFE1 = false) (rc : Bool) (frt : Fpr)

/-- The state an arithmetic instruction completes in, from the state `u` with its result and status: CR1 if `rc`, the
FPECR where an exception occurred, and the free values used, `k` before that one. -/
def State.finished (s u : State) (rc : Bool) (k : Nat) (raised : Bool) : State :=
  { (if rc then u.setCrField 1 (slice u.fpscr 0 4) else u) with
    fpecr := if s.cfg.fpecrPresent && raised then lowWord (s.free k) else s.fpecr
    draws := s.draws + k + 1 }.advance

include h0 h1

theorem fpFinish_delivering (one : Bool) (r : FpResult) :
    fpFinish rc (s.delivering frt one r) =
      .next (s.finished (s.withFpResult frt one r) rc 1 (r.exceptions != 0)) := by
  have hmsr : (s.delivering frt one r).msr = s.msr := by
    unfold State.delivering State.withFpResult
    cases r.value <;> rfl
  rw [fpFinish_of_ignored (by rw [State.msrBit, hmsr]; exact h0) (by rw [State.msrBit, hmsr]; exact h1)]
  unfold State.delivering State.withFpResult
  cases r.value <;> cases rc <;> rfl

/-- A single result of an operand without a single format: FRT and the status bits are free (R551, log 33). -/
theorem fpFinish_undefined (v : Word) :
    fpFinish rc ((((s.setF frt (s.free 0) true).withFpscr v).drawn 2).withFpReason true) =
      .next (s.finished ((s.setF frt (s.free 0) true).withFpscr v) rc 2 true) := by
  have hfinish := fpFinish_of_ignored (rc := rc)
    (u := (((s.setF frt (s.free 0) true).withFpscr v).drawn 2).withFpReason true) h0 h1
  cases rc <;> exact hfinish

theorem fpSingle_of_ignored (ds : List Dword) (r : FpResult) :
    fpSingle frt rc ds r s =
      if ds.all singleRepresentable then .next (s.finished (s.withFpResult frt true r) rc 1 (r.exceptions != 0))
      else .next (s.finished ((s.setF frt (s.free 0) true).withFpscr (merge fpStatusBits (lowWord (s.free 1)) s.fpscr))
        rc 2 true) := by
  rw [fpSingle, fpFinish_delivering h0 h1, fpFinish_undefined h0 h1]

end

/-- A float row of a group that is present, or of the 64-bit implementation. -/
theorem implemented_fp64 {c : Config} (h : c.impl64 = true) : implemented { avail := .only64, fp := true } c = true :=
  implemented_of_only64 rfl rfl h

/-- Settles O32: every operation ends in `fpFinish` after its result is delivered. -/
theorem floatArithmetic : Obligations.FloatArithmetic := by
  unfold Obligations.FloatArithmetic
  refine ⟨fun s frt fra frb frc rc hfp h0 h1 => ?_, fun s frt frb rc hfp h0 h1 => ?_⟩
  · intro delivered written done double single
    have hdouble {i : Instr} {r : FpResult} (h : exec i s = fpDouble frt rc r s) : exec i s = double r := by
      refine h.trans ((fpFinish_delivering h0 h1 rc frt false r).trans ?_)
      unfold State.withFpResult
      cases hv : r.value <;> simp only [double, done, delivered, written, hv] <;> rfl
    have hsingle {i : Instr} {ds : List Dword} {r : FpResult} (h : exec i s = fpSingle frt rc ds r s) :
        exec i s = single ds r := by
      refine h.trans ((fpSingle_of_ignored h0 h1 rc frt ds r).trans ?_)
      simp only [single]
      split
      · unfold State.withFpResult
        cases hv : r.value <;> simp only [done, delivered, written, hv] <;> rfl
      · rfl
    clear_value double single
    refine ⟨hdouble (exec_float rfl hfp rfl rfl rfl rfl), hdouble (exec_float rfl hfp rfl rfl rfl rfl),
      hdouble (exec_float rfl hfp rfl rfl rfl rfl), hdouble (exec_float rfl hfp rfl rfl rfl rfl),
      hdouble (exec_float rfl hfp rfl rfl rfl rfl), hdouble (exec_float rfl hfp rfl rfl rfl rfl),
      hdouble (exec_float rfl hfp rfl rfl rfl rfl), hdouble (exec_float rfl hfp rfl rfl rfl rfl),
      hsingle (exec_float rfl hfp rfl rfl rfl rfl), hsingle (exec_float rfl hfp rfl rfl rfl rfl),
      hsingle (exec_float rfl hfp rfl rfl rfl rfl), hsingle (exec_float rfl hfp rfl rfl rfl rfl),
      hsingle (exec_float rfl hfp rfl rfl rfl rfl), hsingle (exec_float rfl hfp rfl rfl rfl rfl),
      hsingle (exec_float rfl hfp rfl rfl rfl rfl), hsingle (exec_float rfl hfp rfl rfl rfl rfl),
      fun hgp => ⟨hdouble (exec_float rfl hfp (implemented_of_present rfl hgp) rfl rfl rfl),
        hsingle (exec_float rfl hfp (implemented_of_present rfl hgp) rfl rfl rfl)⟩,
      fun hgr => ⟨hdouble (exec_float rfl hfp (implemented_of_present rfl hgr) rfl rfl rfl),
        hsingle (exec_float rfl hfp (implemented_of_present rfl hgr) rfl rfl rfl)⟩⟩
  · intro done
    have hdone {i : Instr} {one : Bool} {r : FpResult} (h : exec i s = fpFinish rc (s.delivering frt one r)) :
        exec i s = done one r := by
      refine h.trans ((fpFinish_delivering h0 h1 rc frt one r).trans ?_)
      unfold State.withFpResult
      cases hv : r.value <;> simp only [done, hv] <;> rfl
    clear_value done
    exact ⟨hdone (exec_float rfl hfp rfl rfl rfl rfl), hdone (exec_float rfl hfp rfl rfl rfl rfl),
      hdone (exec_float rfl hfp rfl rfl rfl rfl), fun h64 => ⟨hdone (exec_float rfl hfp (implemented_fp64 h64) rfl rfl rfl),
        hdone (exec_float rfl hfp (implemented_fp64 h64) rfl rfl rfl),
        hdone (exec_float rfl hfp (implemented_fp64 h64) rfl rfl rfl)⟩⟩


/-! ## Comparison and status -/

theorem clearedByMcrfs_eq : ∀ n : CrField,
    clearedByMcrfs n = ones 32 (4 * n.toNat) 4 &&& 0x9FF80700 := by
  decide

theorem fpscrFieldMask_eq : ∀ flm : BitVec 8, fpscrFieldMask flm = fxmMask flm := by
  decide

theorem isSnan_eq (v : FpValue) : v.isSnan = (v == .nan true) := by
  rcases v with (_ | _) | _ | _ | _ <;> rfl

theorem isNan_eq (v : FpValue) : v.isNan = (v == .nan true || v == .nan false) := by
  rcases v with (_ | _) | _ | _ | _ <;> rfl

theorem snanException_pair (a b : Dword) :
    snanException [a, b] = if fpValue a == .nan true || fpValue b == .nan true then 0x01000000 else 0 := by
  rw [snanException, List.any_cons, List.any_cons, List.any_nil, Bool.or_false, isSnan_eq, isSnan_eq]
  rfl

theorem orderedExceptions_eq (v : Word) (a b : Dword) :
    orderedExceptions v a b =
      if fpValue a == .nan true || fpValue b == .nan true then (if bit v 24 then 0x01000000 else 0x01080000)
      else if fpValue a == .nan false || fpValue b == .nan false then 0x00080000 else 0 := by
  rw [orderedExceptions, isSnan_eq, isSnan_eq, isNan_eq, isNan_eq, fpVE]
  split
  · cases bit v 24 <;> rfl
  · next h =>
    obtain ⟨ha, hb⟩ := Bool.or_eq_false_iff.mp (Bool.not_eq_true _ ▸ h)
    rw [ha, hb]
    rfl

section
variable {s : State} (h0 : s.msrBit msrFE0 = false) (h1 : s.msrBit msrFE1 = false)
include h0 h1

theorem writeFpscr_of_ignored (rc : Bool) (v : Word) :
    writeFpscr rc v s = .next (s.finished (s.withFpscr v) rc 0 (v &&& ~~~ s.fpscr &&& fpExceptionBits != 0)) := by
  have hfinish := fpFinish_of_ignored (rc := rc)
    (u := (s.withFpscr v).withFpReason (v &&& ~~~ s.fpscr &&& fpExceptionBits != 0)) h0 h1
  cases rc <;> exact hfinish

theorem compareFp_of_ignored (bf : CrField) (a b : Dword) (exc : Word) :
    compareFp bf a b exc s = .next (s.finished ((s.setCrField bf (fpCompare a b)).withFpscr
      (withSlice (fpscrRaised s.fpscr exc) 16 (fpCompare a b))) false 0 (exc != 0)) :=
  fpFinish_of_ignored h0 h1

end

/-- Settles O33: the compares and the writes of the FPSCR end in `fpFinish`; the masks bit by bit. -/
theorem floatStatusInstructions : Obligations.FloatStatusInstructions := by
  intro s bf bfa fra frb u flm bt rc hfp h0 h1 c snan qnan noted compared written
  have hcompared {i : Instr} {exc : Word} (h : exec i s = compareFp bf (s.f fra) (s.f frb) exc s) :
      exec i s = compared exc :=
    h.trans (compareFp_of_ignored h0 h1 bf _ _ exc)
  have hwritten {i : Instr} {v : Word} (h : exec i s = writeFpscr rc v s) : exec i s = written v :=
    h.trans (writeFpscr_of_ignored h0 h1 rc v)
  clear_value compared written
  refine ⟨?_, ?_, ?_, fun v k b hk => ⟨?_, ?_, ?_⟩, hwritten (exec_float rfl hfp rfl rfl rfl rfl),
    hwritten (exec_float rfl hfp rfl rfl rfl rfl), hwritten (exec_float rfl hfp rfl rfl rfl rfl),
    hwritten (exec_float rfl hfp rfl rfl rfl rfl)⟩
  · rw [hcompared (exec_float rfl hfp rfl rfl rfl rfl), snanException_pair]
  · rw [hcompared (exec_float rfl hfp rfl rfl rfl rfl), orderedExceptions_eq]
  · have hmove : exec (.mcrfs bf bfa) s = moveFromFpscr bf bfa s := exec_float rfl hfp rfl rfl rfl rfl
    rw [hmove, moveFromFpscr, clearedByMcrfs_eq]
    rfl
  · rw [fpscrFieldMask_eq]
    exact bit_fxmMask flm hk
  · have hbf : bf.toNat < 8 := bf.isLt
    rw [bit_withSlice v u (by omega) hk]
    by_cases hin : k / 4 = bf.toNat
    · rw [if_pos hin, if_pos (by omega), show k - 4 * bf.toNat = k % 4 by omega]
    · rw [if_neg hin, if_neg (by omega)]
  · exact bit_withBit v b bt.isLt hk

end Sys2Proof.Machine


/-! SUPPORT. The FPSCR (10_state.md R38, R39, 45_float_arith.md R551, R555, R556). The idea: every operation raises
exceptions among the exception bits only, so that the FPSCR grows bit by bit, and the summary bits are recomputed last. -/

namespace Sys2Proof.Machine

open Laws

/-! ## The FPSCR bit by bit -/

theorem or_ne_zero (a b : Word) : (a ||| b != 0) = ((a != 0) || (b != 0)) := by
  rw [Bool.eq_iff_iff, Bool.or_eq_true, bne_iff_ne, bne_iff_ne, bne_iff_ne, ← not_and_or]
  exact not_congr BitVec.or_eq_zero_iff

theorem and_oneBit_ne_zero (v : Word) {i : Nat} (hi : i < 32) : (v &&& oneBit 32 i != 0) = bit v i := by
  have hzero (k : Nat) : bit (0 : Word) k = false := BitVec.getMsbD_zero
  rw [Bool.eq_iff_iff, bne_iff_ne]
  constructor
  · intro h
    by_contra hbit
    refine h (BitVec.eq_of_getMsbD_eq fun k hk => ?_)
    change bit (v &&& oneBit 32 i) k = bit (0 : Word) k
    rw [bit_and, bit_oneBit hk hi, hzero]
    by_cases hki : k = i
    · rw [hki, Bool.eq_false_iff.mpr hbit, Bool.false_and]
    · rw [decide_eq_false hki, Bool.and_false]
  · intro h hnone
    have hbit := congrArg (bit · i) hnone
    rw [bit_and, h, bit_oneBit hi hi, hzero] at hbit
    simp at hbit

/-- VX is the OR of the nine bits 7:12 and 21:23 (R38). -/
theorem invalidBits_ne_zero (v : Word) : (v &&& fpInvalidBits != 0) =
    (bit v 7 || bit v 8 || bit v 9 || bit v 10 || bit v 11 || bit v 12 || bit v 21 || bit v 22 || bit v 23) := by
  have hmask : fpInvalidBits = oneBit 32 7 ||| oneBit 32 8 ||| oneBit 32 9 ||| oneBit 32 10 ||| oneBit 32 11 |||
      oneBit 32 12 ||| oneBit 32 21 ||| oneBit 32 22 ||| oneBit 32 23 := by decide
  simp only [hmask, BitVec.and_or_distrib_left, or_ne_zero]
  rw [and_oneBit_ne_zero v (by omega), and_oneBit_ne_zero v (by omega), and_oneBit_ne_zero v (by omega),
    and_oneBit_ne_zero v (by omega), and_oneBit_ne_zero v (by omega), and_oneBit_ne_zero v (by omega),
    and_oneBit_ne_zero v (by omega), and_oneBit_ne_zero v (by omega), and_oneBit_ne_zero v (by omega)]

/-- FEX by the formula of R38, from VX. -/
def enabledSummary (v : Word) (vx : Bool) : Bool :=
  (vx && bit v 24) || (bit v 3 && bit v 25) || (bit v 4 && bit v 26) || (bit v 5 && bit v 27) || (bit v 6 && bit v 28)

theorem bit_fpscrSummed (c : Config) (v : Word) {k : Nat} (hk : k < 32) : bit (fpscrSummed c v) k =
    if k = 1 then enabledSummary v (v &&& fpInvalidBits != 0) else if k = 2 then v &&& fpInvalidBits != 0
    else if k = 20 then c.fpscrCopy && bit v 20 else bit v k := by
  unfold fpscrSummed enabledSummary
  dsimp only
  rw [bit_withBit _ _ (by omega) hk, bit_withBit _ _ (by omega) hk, bit_withBit _ _ (by omega) hk]

theorem bit_fpscrRaised (v exc : Word) {k : Nat} (hk : k < 32) :
    bit (fpscrRaised v exc) k = if k = 0 then bit v 0 || (exc &&& ~~~ v != 0) else bit v k || bit exc k := by
  rw [fpscrRaised, bit_withBit _ _ (by omega) hk, bit_or]

theorem bit_fpscrRounded (v : Word) (fr fi : Bool) {k : Nat} (hk : k < 32) :
    bit (fpscrRounded v fr fi) k = if k = 13 then fr else if k = 14 then fi else bit v k := by
  rw [fpscrRounded, bit_withBit _ _ (by omega) hk, bit_withBit _ _ (by omega) hk]
  split
  · next h => simp [h]
  · rfl

theorem bit_fpscrClassed (v : Word) (fprf : BitVec 5) {k : Nat} (hk : k < 32) :
    bit (fpscrClassed v (some fprf)) k = if 15 ≤ k ∧ k ≤ 19 then bit fprf (k - 15) else bit v k := by
  rw [fpscrClassed, bit_withSlice v fprf (by omega) hk]
  exact if_congr (and_congr_right' Nat.lt_succ_iff) rfl rfl


/-! ## Exceptions are raised among the exception bits -/

/-- Exceptions among the exception bits only, so that the enable bits stay. -/
abbrev Raisable (exc : Word) : Prop := exc &&& ~~~ fpExceptionBits = 0

theorem Raisable.or {a b : Word} (ha : Raisable a) (hb : Raisable b) : Raisable (a ||| b) := by
  rw [Raisable, BitVec.and_or_distrib_right, ha, hb]
  rfl

theorem Raisable.ite {c : Prop} [Decidable c] {a b : Word} (ha : Raisable a) (hb : Raisable b) :
    Raisable (if c then a else b) := by
  split
  · exact ha
  · exact hb

theorem Raisable.and_mask {a : Word} (ha : Raisable a) (m : Word) : Raisable (a &&& m) := by
  rw [Raisable, BitVec.and_assoc, BitVec.and_comm m, ← BitVec.and_assoc, ha]
  exact BitVec.zero_and

theorem raisable_zero : Raisable 0 := by decide

theorem raisable_inexact (fi : Bool) : Raisable (fpInexact fi) := Raisable.ite (by decide) raisable_zero

theorem raisable_fpInvalid {v exc : Word} {d : Dword} (h : Raisable exc) : Raisable (fpInvalid v exc d).exceptions := by
  unfold fpInvalid
  split
  · exact h
  · exact h

theorem raisable_fpZeroDivide (v : Word) (neg : Bool) : Raisable (fpZeroDivide v neg).exceptions := by
  unfold fpZeroDivide
  split
  · exact (by decide : Raisable fpZX)
  · exact (by decide : Raisable fpZX)

theorem raisable_fpDeliver (p : Precision) (v : Word) (free flip neg : Bool) (mag : Nat) (exp : Int) :
    Raisable (fpDeliver p v free flip neg mag exp).exceptions := by
  have hOX : Raisable fpOX := by decide
  have hUX : Raisable fpUX := by decide
  have hXX : Raisable fpXX := by decide
  unfold fpDeliver
  dsimp only
  split
  · split
    · exact hOX.or (raisable_inexact _)
    · split
      · exact hOX.or hXX
      · exact hOX.or hXX
  · split
    · exact hUX.or (raisable_inexact _)
    · exact (hUX.ite raisable_zero).or (raisable_inexact _)
  · exact raisable_inexact _

/-- An exact result whose exception, if it is invalid, is one of the exception bits. -/
def FpExact.Raises (e : FpExact) : Prop := ∀ vx, e = .invalid vx → Raisable vx

theorem raisable_snanException (ds : List Dword) : Raisable (snanException ds) := Raisable.ite (by decide) raisable_zero

theorem raisable_of_ite {c : Prop} [Decidable c] {r r' : FpResult} (h : Raisable r.exceptions) (h' : Raisable r'.exceptions) :
    Raisable (if c then r else r').exceptions := by
  split
  · exact h
  · exact h'

theorem raisable_fpArith {p : Precision} {v : Word} {free flip : Bool} {ds : List Dword} {imz : Bool} {exact : FpExact}
    (h : exact.Raises) : Raisable (fpArith p v free flip ds imz exact).exceptions := by
  have hflip : ∀ vx, fpFlipped flip exact = .invalid vx → Raisable vx := by
    intro vx hvx
    cases exact with
    | invalid x => exact h vx hvx
    | inf | zero | zeroDivide | finite => cases hvx
  unfold fpArith
  split
  · apply raisable_of_ite
    · exact raisable_zero
    · exact raisable_fpInvalid ((raisable_snanException ds).or (Raisable.ite (by decide) raisable_zero))
  · split
    · next vx hvx => exact raisable_fpInvalid (hflip vx hvx)
    · exact raisable_fpZeroDivide v _
    · exact raisable_zero
    · exact raisable_zero
    · exact raisable_fpDeliver ..

theorem raises_of_ne {e : FpExact} (h : ∀ vx, e ≠ .invalid vx) : e.Raises := fun vx hvx => absurd hvx (h vx)

theorem raises_invalid {vx : Word} (h : Raisable vx) : (FpExact.invalid vx).Raises := by
  rintro _ ⟨⟩
  exact h

theorem raises_exact (v : FpValue) : v.exact.Raises := by
  cases v
  · exact raises_invalid raisable_zero
  · exact raises_of_ne nofun
  · exact raises_of_ne nofun
  · exact raises_of_ne nofun

theorem raises_addFinite (rn : BitVec 2) (sa : Bool) (ma : Nat) (ea : Int) (sb : Bool) (mb : Nat) (eb : Int) :
    (addFinite rn sa ma ea sb mb eb).Raises := by
  apply raises_of_ne
  unfold addFinite
  dsimp only
  split
  · exact nofun
  · split
    · exact nofun
    · split <;> exact nofun

theorem raises_fpAdd (rn : BitVec 2) (a b : FpValue) : (fpAdd rn a b).Raises := by
  unfold fpAdd
  split
  · exact raises_invalid raisable_zero
  · exact raises_invalid raisable_zero
  · split
    · exact raises_of_ne nofun
    · exact raises_invalid (by decide)
  · exact raises_of_ne nofun
  · exact raises_of_ne nofun
  · exact raises_of_ne nofun
  · exact raises_exact _
  · exact raises_exact _
  · exact raises_addFinite _ _ _ _ _ _ _

theorem raises_fpMul (a b : FpValue) : (fpMul a b).Raises := by
  unfold fpMul
  split
  · exact raises_invalid (by decide)
  · exact raises_exact _

theorem raises_fpDiv (a b : FpValue) : (fpDiv a b).Raises := by
  unfold fpDiv
  split
  · exact raises_invalid raisable_zero
  · exact raises_invalid raisable_zero
  · exact raises_invalid (by decide)
  · exact raises_invalid (by decide)
  · exact raises_of_ne nofun
  · exact raises_of_ne nofun
  · exact raises_of_ne nofun
  · exact raises_of_ne nofun
  · exact raises_of_ne nofun
  · exact raises_of_ne nofun
  · exact raises_of_ne nofun

theorem raises_fpSqrt (a : FpValue) : (fpSqrt a).Raises := by
  unfold fpSqrt
  split
  · exact raises_invalid raisable_zero
  · exact raises_invalid (by decide)
  · exact raises_of_ne nofun
  · exact raises_of_ne nofun
  · exact raises_invalid (by decide)
  · exact raises_of_ne nofun

theorem raises_fpRsqrt (a : FpValue) : (fpRsqrt a).Raises := by
  unfold fpRsqrt
  split
  · exact raises_invalid raisable_zero
  · exact raises_invalid (by decide)
  · exact raises_of_ne nofun
  · exact raises_of_ne nofun
  · exact raises_invalid (by decide)
  · exact raises_of_ne nofun

theorem raises_fpMulAdd (rn : BitVec 2) (a c b : FpValue) : (fpMulAdd rn a c b).Raises := by
  unfold fpMulAdd
  split
  · exact raises_invalid (by decide)
  · exact raises_fpAdd _ _ _

theorem raises_op2 (op : FpOp2) (rn : BitVec 2) (a b : FpValue) : (op.exact rn a b).Raises := by
  cases op
  · exact raises_fpAdd _ _ _
  · exact raises_fpAdd _ _ _
  · exact raises_fpMul _ _
  · exact raises_fpDiv _ _

theorem raisable_arithRes (v : Word) (freeFr freeFi : Bool) (b : Dword) : Raisable (arithRes v freeFr freeFi b).exceptions := by
  refine Raisable.and_mask ?_ _
  have hr : Raisable (fpArith .single v freeFr false [b] false (fpDiv (.finite false 1 0) (fpValue b))).exceptions :=
    raisable_fpArith (raises_fpDiv _ _)
  unfold fresEstimated
  split
  · exact raisable_of_ite hr hr
  · exact hr

theorem raisable_arithRsqrte (v : Word) (freeFr freeFi : Bool) (b : Dword) :
    Raisable (arithRsqrte v freeFr freeFi b).exceptions := by
  refine Raisable.and_mask ?_ _
  have hr : Raisable (fpArith .double v freeFr false [b] false (fpRsqrt (fpValue b))).exceptions :=
    raisable_fpArith (raises_fpRsqrt _)
  unfold frsqrteEstimated
  split
  · exact hr
  · exact hr

theorem raisable_arithRsp (v : Word) (free : Bool) (b : Dword) : Raisable (arithRsp v free b).exceptions := by
  have hr : Raisable (fpArith .single v free false [b] false (fpValue b).exact).exceptions :=
    raisable_fpArith (raises_exact _)
  unfold arithRsp
  dsimp only
  split
  · exact hr
  · exact hr

theorem raisable_integerInvalid {v exc : Word} {n : Nat} {free : Dword} {neg : Bool} (h : Raisable exc) :
    Raisable (integerInvalid v exc n free neg).exceptions := by
  unfold integerInvalid
  split
  · exact h.or (by decide)
  · exact h.or (by decide)

theorem raisable_integerRounded (v : Word) (n : Nat) (free : Dword) (neg : Bool) (r : Rounded) :
    Raisable (integerRounded v n free neg r).exceptions := by
  unfold integerRounded
  exact raisable_of_ite (raisable_inexact r.fi) (raisable_integerInvalid raisable_zero)

theorem raisable_toInteger (v : Word) (rn : BitVec 2) (n : Nat) (free b : Dword) :
    Raisable (toInteger v rn n free b).exceptions := by
  unfold toInteger
  split
  · exact raisable_integerInvalid (Raisable.ite (by decide) raisable_zero)
  · exact raisable_integerInvalid raisable_zero
  · exact raisable_integerRounded ..
  · exact raisable_integerRounded ..

theorem raisable_fromInteger (v : Word) (b : Dword) : Raisable (fromInteger v b).exceptions := by
  unfold fromInteger
  split
  · exact raisable_zero
  · exact raisable_inexact _

theorem raisable_orderedExceptions (v : Word) (a b : Dword) : Raisable (orderedExceptions v a b) :=
  Raisable.ite ((by decide : Raisable fpVXSNAN).or (Raisable.ite raisable_zero (by decide)))
    (Raisable.ite (by decide) raisable_zero)

/-! ## The FPSCR grows -/

theorem bit_not {w : Nat} (v : BitVec w) {k : Nat} (hk : k < w) : bit (~~~ v) k = !bit v k := by
  simp [bit, BitVec.getMsbD, hk, show w - 1 - k < w by omega]

/-- From `v` to `w` no exception bit and not FX is lost, and FX is set with every new exception bit. -/
structure Grows (v w : Word) : Prop where
  keeps : ∀ k < 32, bit (0x9FF80700 : Word) k = true → bit v k = true → bit w k = true
  notes : ∀ k < 32, bit fpExceptionBits k = true → bit w k = true → bit v k = false → bit w 0 = true

/-- Bits that are none of the exception bits and not FX do not matter. -/
theorem Grows.of_agree {v w w' : Word} (h : Grows v w)
    (hw : ∀ k < 32, bit (0x9FF80700 : Word) k = true → bit w' k = bit w k) : Grows v w' := by
  have hsub : ∀ k < 32, bit fpExceptionBits k = true → bit (0x9FF80700 : Word) k = true := by decide
  refine ⟨fun k hk hm hv => (hw k hk hm).trans (h.keeps k hk hm hv), fun k hk hm hset hv => ?_⟩
  rw [hw 0 (by omega) (by decide)]
  exact h.notes k hk hm ((hw k hk (hsub k hk hm)).symm.trans hset) hv

theorem grows_fpscrRaised (v exc : Word) : Grows v (fpscrRaised v exc) := by
  have hzero (k : Nat) : bit (0 : Word) k = false := BitVec.getMsbD_zero
  constructor
  · intro k hk _ hv
    rw [bit_fpscrRaised v exc hk]
    split
    · next h => rw [← h, hv, Bool.true_or]
    · rw [hv, Bool.true_or]
  · intro k hk hm hset hv
    rw [bit_fpscrRaised v exc hk] at hset
    rw [bit_fpscrRaised v exc (by omega), if_pos rfl, Bool.or_eq_true]
    split at hset
    · next h => exact absurd (h ▸ hm) (by decide)
    · refine .inr (bne_iff_ne.mpr fun hnone => ?_)
      rw [hv, Bool.false_or] at hset
      have hbit := congrArg (bit · k) hnone
      rw [bit_and, hset, bit_not v hk, hv, hzero] at hbit
      exact absurd hbit (by decide)

/-- A word without a bit is 0. -/
theorem eq_zero_of_bit {v : Word} (h : ∀ k < 32, bit v k = false) : v = 0 :=
  BitVec.eq_of_getMsbD_eq fun k hk => (h k hk).trans BitVec.getMsbD_zero.symm

theorem Grows.and_not_eq_zero {v w : Word} (h : Grows v w) : v &&& 0x9FF80700 &&& ~~~ w = 0 := by
  refine eq_zero_of_bit fun k hk => ?_
  rw [bit_and, bit_and, bit_not w hk]
  by_contra hbit
  simp only [Bool.not_eq_false, Bool.and_eq_true, Bool.not_eq_true'] at hbit
  obtain ⟨⟨hv, hm⟩, hw⟩ := hbit
  exact absurd (h.keeps k hk hm hv) (by rw [hw]; exact Bool.false_ne_true)

theorem Grows.fx {v w : Word} (h : Grows v w) (hnew : w &&& ~~~ v &&& 0x1FF80700 ≠ 0) : bit w 0 = true := by
  by_contra hfx
  refine hnew (eq_zero_of_bit fun k hk => ?_)
  rw [bit_and, bit_and, bit_not v hk]
  by_contra hbit
  simp only [Bool.not_eq_false, Bool.and_eq_true, Bool.not_eq_true'] at hbit
  obtain ⟨⟨hw, hv⟩, hm⟩ := hbit
  exact hfx (h.notes k hk hm hw hv)

theorem slice_congr {n m : Nat} {v w : BitVec m} {i : Nat} (hn : i + n ≤ m) (h : ∀ k, i ≤ k → k < i + n → bit v k = bit w k) :
    slice v i n = slice w i n := by
  apply BitVec.eq_of_getMsbD_eq
  intro k hk
  change bit (slice v i n) k = bit (slice w i n) k
  rw [bit_slice v i n k hk hn, bit_slice w i n k hk hn]
  exact h _ (by omega) (by omega)

theorem enables_fpscrRaised (v : Word) {exc : Word} (h : Raisable exc) : slice (fpscrRaised v exc) 24 8 = slice v 24 8 := by
  have hmask : ∀ k < 32, 24 ≤ k → bit (~~~ fpExceptionBits) k = true := by decide
  refine slice_congr (by omega) fun k hlo hhi => ?_
  have hexc := congrArg (bit · k) h
  rw [bit_and, hmask k (by omega) hlo, Bool.and_true] at hexc
  rw [bit_fpscrRaised v exc (by omega), if_neg (by omega), hexc]
  rw [show bit (0 : Word) k = false from BitVec.getMsbD_zero, Bool.or_false]

/-- What an operation of this family does to the FPSCR: exception bits grow, the enable bits and the rounding mode stay, and
the summary bits are recomputed where anything changed. -/
structure StatusGrows (s t : State) : Prop where
  grows : Grows s.fpscr t.fpscr
  enables : slice t.fpscr 24 8 = slice s.fpscr 24 8
  summed : fpscrSummed t.cfg t.fpscr = t.fpscr ∨ t.fpscr = s.fpscr

theorem Grows.refl (v : Word) : Grows v v :=
  ⟨fun _ _ _ h => h, fun _ _ _ h hn => absurd (h.symm.trans hn) (by decide)⟩

theorem StatusGrows.of_eq {s t : State} (h : t.fpscr = s.fpscr) : StatusGrows s t :=
  ⟨h ▸ Grows.refl _, by rw [h], .inr h⟩

/-- The FPSCR after a result: the summary of the raised word, but for FR, FI, FPRF. -/
theorem statusGrows_of_summed {s t : State} {exc v : Word} (hexc : Raisable exc)
    (hv : ∀ k < 32, (bit (0x9FF80700 : Word) k = true ∨ 24 ≤ k) → bit v k = bit (fpscrRaised s.fpscr exc) k)
    (ht : t.fpscr = fpscrSummed t.cfg v) : StatusGrows s t := by
  have hmask : ∀ k < 32, bit (0x9FF80700 : Word) k = true ∨ 24 ≤ k → k ≠ 1 ∧ k ≠ 2 ∧ k ≠ 20 := by decide
  have hbit : ∀ k < 32, (bit (0x9FF80700 : Word) k = true ∨ 24 ≤ k) → bit t.fpscr k = bit (fpscrRaised s.fpscr exc) k := by
    intro k hk hm
    obtain ⟨h1, h2, h20⟩ := hmask k hk hm
    rw [ht, bit_fpscrSummed t.cfg v hk, if_neg h1, if_neg h2, if_neg h20, hv k hk hm]
  refine ⟨(grows_fpscrRaised s.fpscr exc).of_agree fun k hk hm => hbit k hk (.inl hm), ?_, .inl ?_⟩
  · rw [← enables_fpscrRaised s.fpscr hexc]
    exact slice_congr (by omega) fun k hlo hhi => hbit k (by omega) (.inr hlo)
  · rw [ht]
    exact fpscrSummed_idem _ _

/-! ## The instructions -/

section
variable {s t : State} {i : Instr} {rc : Bool}

theorem fpFinish_fpscr {u : State} (h : fpFinish rc u = .next t) : t.fpscr = u.fpscr ∧ t.cfg = u.cfg := by
  rcases fpFinish_cases h with ⟨-, rfl⟩ | ⟨-, rfl⟩ <;> cases rc <;> exact ⟨rfl, rfl⟩

theorem statusGrows_delivering {frt : Fpr} {one : Bool} {r : FpResult} (hr : Raisable r.exceptions)
    (h : fpFinish rc (s.delivering frt one r) = .next t) : StatusGrows s t := by
  have hmask : ∀ k < 32, bit (0x9FF80700 : Word) k = true ∨ 24 ≤ k → k ≠ 13 ∧ k ≠ 14 ∧ ¬ (15 ≤ k ∧ k ≤ 19) := by decide
  obtain ⟨hfpscr, hcfg⟩ := fpFinish_fpscr h
  refine statusGrows_of_summed (v := fpscrClassed (fpscrRounded (fpscrRaised s.fpscr r.exceptions) r.fr r.fi) r.fprf) hr
    (fun k hk hm => ?_) ?_
  · obtain ⟨h13, h14, hclass⟩ := hmask k hk hm
    cases r.fprf with
    | none => rw [fpscrClassed, bit_fpscrRounded _ _ _ hk, if_neg h13, if_neg h14]
    | some c => rw [bit_fpscrClassed _ c hk, if_neg hclass, bit_fpscrRounded _ _ _ hk, if_neg h13, if_neg h14]
  · rw [hfpscr, hcfg]
    unfold State.delivering State.withFpResult
    cases r.value <;> rfl

theorem statusGrows_compareFp {bf : CrField} {a b : Dword} {exc : Word} (hexc : Raisable exc)
    (h : compareFp bf a b exc s = .next t) : StatusGrows s t := by
  have hmask : ∀ k < 32, bit (0x9FF80700 : Word) k = true ∨ 24 ≤ k → ¬ (16 ≤ k ∧ k < 16 + 4) := by decide
  obtain ⟨hfpscr, hcfg⟩ := fpFinish_fpscr h
  refine statusGrows_of_summed (v := withSlice (fpscrRaised s.fpscr exc) 16 (fpCompare a b)) hexc (fun k hk hm => ?_) ?_
  · rw [bit_withSlice _ _ (by omega) hk, if_neg (hmask k hk hm)]
  · rw [hfpscr, hcfg]
    rfl

/-- `mtfsb1` sets one bit. -/
theorem grows_mtfsb1 (bt : CrBit) (h : writeFpscr rc
    (withBit (fpscrRaised s.fpscr (oneBit 32 bt.toNat &&& fpExceptionBits)) bt.toNat true) s = .next t) :
    Grows s.fpscr t.fpscr ∧ fpscrSummed t.cfg t.fpscr = t.fpscr := by
  have hmask : ∀ k < 32, bit (0x9FF80700 : Word) k = true → k ≠ 1 ∧ k ≠ 2 ∧ k ≠ 20 := by decide
  have hsub : ∀ k < 32, bit fpExceptionBits k = true → bit (0x9FF80700 : Word) k = true := by decide
  obtain ⟨hfpscr, hcfg⟩ := fpFinish_fpscr h
  have ht : t.fpscr = fpscrSummed t.cfg
      (withBit (fpscrRaised s.fpscr (oneBit 32 bt.toNat &&& fpExceptionBits)) bt.toNat true) := by
    rw [hfpscr, hcfg]
    rfl
  have hgrows := grows_fpscrRaised s.fpscr (oneBit 32 bt.toNat &&& fpExceptionBits)
  have hbit : ∀ k < 32, bit (0x9FF80700 : Word) k = true → bit t.fpscr k =
      if k = bt.toNat then true else bit (fpscrRaised s.fpscr (oneBit 32 bt.toNat &&& fpExceptionBits)) k := by
    intro k hk hm
    obtain ⟨h1, h2, h20⟩ := hmask k hk hm
    rw [ht, bit_fpscrSummed _ _ hk, if_neg h1, if_neg h2, if_neg h20, bit_withBit _ _ bt.isLt hk]
  refine ⟨⟨fun k hk hm hv => ?_, fun k hk hm hset hv => ?_⟩, ?_⟩
  · rw [hbit k hk hm]
    split
    · rfl
    · exact hgrows.keeps k hk hm hv
  · rw [hbit 0 (by omega) (by decide)]
    split
    · rfl
    · rw [hbit k hk (hsub k hk hm)] at hset
      split at hset
      · next hkb =>
        refine hgrows.notes k hk hm ?_ hv
        rw [bit_fpscrRaised _ _ hk]
        have hexc : bit (oneBit 32 bt.toNat &&& fpExceptionBits) k = true := by
          rw [bit_and, hm, hkb, bit_oneBit bt.isLt bt.isLt]
          simp
        split
        · next h0 => exact absurd (h0 ▸ hm) (by decide)
        · rw [hexc, Bool.or_true]
      · exact hgrows.notes k hk hm hset hv
  · rw [ht]
    exact fpscrSummed_idem _ _

/-- An instruction that is not admitted leaves the FPSCR. -/
theorem statusGrows_of_admitted {body : Result} (hexec : exec i s = admitted i s body) (h : exec i s = .next t)
    (hbody : body = .next t → StatusGrows s t) : StatusGrows s t := by
  rw [hexec] at h
  rcases admitted_cases h with ⟨-, h⟩ | ⟨c, -, rfl⟩ | ⟨-, -, rfl⟩
  · exact hbody h
  · exact .of_eq rfl
  · exact .of_eq rfl

theorem statusGrows_fpDouble {frt : Fpr} {r : FpResult} (hr : Raisable r.exceptions)
    (hexec : exec i s = admitted i s (fpDouble frt rc r s)) (h : exec i s = .next t) : StatusGrows s t :=
  statusGrows_of_admitted hexec h (statusGrows_delivering hr)

theorem statusGrows_fpSingle {frt : Fpr} {ds : List Dword} {r : FpResult} (hr : Raisable r.exceptions)
    (hds : ds.all singleRepresentable = true) (hexec : exec i s = admitted i s (fpSingle frt rc ds r s))
    (h : exec i s = .next t) : StatusGrows s t := by
  refine statusGrows_of_admitted hexec h fun hbody => ?_
  rw [fpSingle, if_pos hds] at hbody
  exact statusGrows_delivering hr hbody

end

section
variable (p : Precision) (v : Word) (free : Bool) (a b c : Dword)

theorem raisable_arith2 (op : FpOp2) : Raisable (arith2 p op v free a b).exceptions := raisable_fpArith (raises_op2 op _ _ _)

theorem raisable_arith3 (minus flip : Bool) : Raisable (arith3 p minus flip v free a c b).exceptions :=
  raisable_fpArith (raises_fpMulAdd _ _ _ _)

theorem raisable_arithSqrt : Raisable (arithSqrt p v free b).exceptions := raisable_fpArith (raises_fpSqrt _)

end

/-- Settles O42: the words bit by bit, then each instruction through the exceptions its result raises. -/
theorem exceptionBitsStick : Obligations.ExceptionBitsStick := by
  refine ⟨fun c v exc fr fi fprf k hk => ?_, fun s t i h => ?_⟩
  · refine ⟨?_, ?_, bit_fpscrRounded v fr fi hk, bit_fpscrClassed v fprf hk, rfl⟩
    · rw [bit_fpscrSummed c v hk, invalidBits_ne_zero]
      rfl
    · rw [bit_fpscrRaised v exc hk]
      exact if_congr Iff.rfl (congrArg (bit v 0 || ·) (Bool.eq_iff_iff.mpr (bne_iff_ne.trans decide_eq_true_iff.symm))) rfl
  · intro one hi
    have finish (hs : StatusGrows s t) (b : Prop) : s.fpscr &&& 0x9FF80700 &&& ~~~ t.fpscr = 0 ∧
        (t.fpscr &&& ~~~ s.fpscr &&& 0x1FF80700 ≠ 0 → bit t.fpscr 0 = true) ∧
        (b → slice t.fpscr 24 8 = slice s.fpscr 24 8) ∧
        (fpscrSummed t.cfg t.fpscr = t.fpscr ∨ t.fpscr = s.fpscr) :=
      ⟨hs.grows.and_not_eq_zero, hs.grows.fx, fun _ => hs.enables, hs.summed⟩
    have single {x : Fpr} (hx : one x) : [s.f x].all singleRepresentable = true := by
      simp [show singleRepresentable (s.f x) = true from hx]
    have two {x y : Fpr} (hx : one x) (hy : one y) : [s.f x, s.f y].all singleRepresentable = true := by
      simp [show singleRepresentable (s.f x) = true from hx, show singleRepresentable (s.f y) = true from hy]
    have three {x y z : Fpr} (hx : one x) (hy : one y) (hz : one z) : [s.f x, s.f y, s.f z].all singleRepresentable = true := by
      simp [show singleRepresentable (s.f x) = true from hx, show singleRepresentable (s.f y) = true from hy,
        show singleRepresentable (s.f z) = true from hz]
    rcases hi with ⟨frt, fra, frb, rc, rfl | rfl | rfl | rfl⟩ | ⟨frt, fra, frc, frb, rc, rfl | rfl | rfl | rfl⟩ |
      ⟨frt, frb, rc, rfl | rfl | rfl | rfl | rfl | rfl | rfl | rfl⟩ | ⟨frt, fra, frb, rc, rfl | rfl | rfl | rfl, ha, hb⟩ |
      ⟨frt, fra, frc, frb, rc, rfl | rfl | rfl | rfl, ha, hc, hb⟩ | ⟨frt, frb, rc, rfl | rfl, hb⟩ |
      ⟨bf, fra, frb, rfl | rfl⟩ | ⟨bt, rc, rfl⟩
    · exact finish (statusGrows_fpDouble (raisable_arith2 _ _ _ _ _ _) rfl h) _
    · exact finish (statusGrows_fpDouble (raisable_arith2 _ _ _ _ _ _) rfl h) _
    · exact finish (statusGrows_fpDouble (raisable_arith2 _ _ _ _ _ _) rfl h) _
    · exact finish (statusGrows_fpDouble (raisable_arith2 _ _ _ _ _ _) rfl h) _
    · exact finish (statusGrows_fpDouble (raisable_arith3 _ _ _ _ _ _ _ _) rfl h) _
    · exact finish (statusGrows_fpDouble (raisable_arith3 _ _ _ _ _ _ _ _) rfl h) _
    · exact finish (statusGrows_fpDouble (raisable_arith3 _ _ _ _ _ _ _ _) rfl h) _
    · exact finish (statusGrows_fpDouble (raisable_arith3 _ _ _ _ _ _ _ _) rfl h) _
    · exact finish (statusGrows_fpDouble (raisable_arithSqrt _ _ _ _) rfl h) _
    · exact finish (statusGrows_fpDouble (raisable_arithRsqrte _ _ _ _) rfl h) _
    · exact finish (statusGrows_of_admitted rfl h (statusGrows_delivering (raisable_arithRsp _ _ _))) _
    · exact finish (statusGrows_fpDouble (raisable_toInteger _ _ _ _ _) rfl h) _
    · exact finish (statusGrows_fpDouble (raisable_toInteger _ _ _ _ _) rfl h) _
    · exact finish (statusGrows_fpDouble (raisable_toInteger _ _ _ _ _) rfl h) _
    · exact finish (statusGrows_fpDouble (raisable_toInteger _ _ _ _ _) rfl h) _
    · exact finish (statusGrows_fpDouble (raisable_fromInteger _ _) rfl h) _
    · exact finish (statusGrows_fpSingle (raisable_arith2 _ _ _ _ _ _) (two ha hb) rfl h) _
    · exact finish (statusGrows_fpSingle (raisable_arith2 _ _ _ _ _ _) (two ha hb) rfl h) _
    · exact finish (statusGrows_fpSingle (raisable_arith2 _ _ _ _ _ _) (two ha hb) rfl h) _
    · exact finish (statusGrows_fpSingle (raisable_arith2 _ _ _ _ _ _) (two ha hb) rfl h) _
    · exact finish (statusGrows_fpSingle (raisable_arith3 _ _ _ _ _ _ _ _) (three ha hb hc) rfl h) _
    · exact finish (statusGrows_fpSingle (raisable_arith3 _ _ _ _ _ _ _ _) (three ha hb hc) rfl h) _
    · exact finish (statusGrows_fpSingle (raisable_arith3 _ _ _ _ _ _ _ _) (three ha hb hc) rfl h) _
    · exact finish (statusGrows_fpSingle (raisable_arith3 _ _ _ _ _ _ _ _) (three ha hb hc) rfl h) _
    · exact finish (statusGrows_fpSingle (raisable_arithSqrt _ _ _ _) (single hb) rfl h) _
    · exact finish (statusGrows_fpSingle (raisable_arithRes _ _ _ _) (single hb) rfl h) _
    · exact finish (statusGrows_of_admitted rfl h (statusGrows_compareFp (raisable_snanException _))) _
    · exact finish (statusGrows_of_admitted rfl h (statusGrows_compareFp (raisable_orderedExceptions _ _ _))) _
    · have hgrows : Grows s.fpscr t.fpscr ∧ (fpscrSummed t.cfg t.fpscr = t.fpscr ∨ t.fpscr = s.fpscr) := by
        rcases admitted_cases (show admitted (.mtfsb1 bt rc) s (writeFpscr rc (withBit
            (fpscrRaised s.fpscr (oneBit 32 bt.toNat &&& fpExceptionBits)) bt.toNat true) s) = .next t from h) with
          ⟨-, hw⟩ | ⟨c, -, rfl⟩ | ⟨-, -, rfl⟩
        · exact ⟨(grows_mtfsb1 bt hw).1, .inl (grows_mtfsb1 bt hw).2⟩
        · exact ⟨.refl _, .inr rfl⟩
        · exact ⟨.refl _, .inr rfl⟩
      exact ⟨hgrows.1.and_not_eq_zero, hgrows.1.fx, fun hno => absurd rfl (hno bt rc), hgrows.2⟩

end Sys2Proof.Machine


/-! SUPPORT. Floating-point enabled exceptions (45_float_arith.md R556, 60_exceptions.md R717). The idea: every instruction
that writes the FPSCR, but `mcrfs`, ends in `fpFinish` in a state that does not depend on the MSR, so that with FE0 = FE1 = 0
it writes the same and only goes on in sequence. -/

namespace Sys2Proof.Machine

open Laws

/-! ## The state before the end -/

/-- `u` is `s` but for the FPRs, the FPSCR, the CR, the FPECR where there is one, and the free values drawn. -/
structure FloatWrites (s u : State) : Prop where
  shape : u = { s with
    fpr := u.fpr, fprSingle := u.fprSingle, fpscr := u.fpscr, cr := u.cr, fpecr := u.fpecr, draws := u.draws }
  fpecr : s.cfg.fpecrPresent = false → u.fpecr = s.fpecr

theorem FloatWrites.delivering (s : State) (frt : Fpr) (one : Bool) (r : FpResult) :
    FloatWrites s (s.delivering frt one r) := by
  unfold State.delivering State.withFpResult
  cases r.value <;> exact ⟨rfl, fun h => withFpReason_fpecr_eq (.inr h)⟩

theorem FloatWrites.compared (s : State) (bf : CrField) (v : Word) (c : BitVec 4) (raised : Bool) :
    FloatWrites s (((s.setCrField bf c).withFpscr v).withFpReason raised) :=
  ⟨rfl, fun h => withFpReason_fpecr_eq (.inr h)⟩

theorem FloatWrites.written (s : State) (v : Word) (raised : Bool) :
    FloatWrites s ((s.withFpscr v).withFpReason raised) :=
  ⟨rfl, fun h => withFpReason_fpecr_eq (.inr h)⟩

/-- The state before the end of a single arithmetic instruction. -/
def State.singleState (s : State) (frt : Fpr) (ds : List Dword) (r : FpResult) : State :=
  if ds.all singleRepresentable then s.delivering frt true r
  else (((s.setF frt (s.free 0) true).withFpscr (merge fpStatusBits (lowWord (s.free 1)) s.fpscr)).drawn 2).withFpReason true

theorem fpSingle_eq (s : State) (frt : Fpr) (rc : Bool) (ds : List Dword) (r : FpResult) :
    fpSingle frt rc ds r s = fpFinish rc (s.singleState frt ds r) := by
  unfold fpSingle State.singleState
  split <;> rfl

theorem FloatWrites.singleState (s : State) (frt : Fpr) (ds : List Dword) (r : FpResult) :
    FloatWrites s (s.singleState frt ds r) := by
  unfold State.singleState
  split
  · exact .delivering ..
  · exact ⟨rfl, fun h => withFpReason_fpecr_eq (.inr h)⟩

/-- The same instruction under another MSR. -/
def State.withMsr (s : State) (m : Dword) : State := { s with msr := m }

theorem delivering_withMsr (s : State) (m : Dword) (frt : Fpr) (one : Bool) (r : FpResult) :
    (s.withMsr m).delivering frt one r = (s.delivering frt one r).withMsr m := by
  unfold State.delivering State.withFpResult
  cases r.value <;> rfl

theorem singleState_withMsr (s : State) (m : Dword) (frt : Fpr) (ds : List Dword) (r : FpResult) :
    (s.withMsr m).singleState frt ds r = (s.singleState frt ds r).withMsr m := by
  unfold State.singleState
  split
  · exact delivering_withMsr ..
  · rfl

/-- An instruction that ends in `fpFinish`, in a state that the MSR has no part in. -/
def EndsInFinish (i : Instr) : Prop :=
  ∃ (rc : Bool) (before : State → State), ∀ s, exec i s = admitted i s (fpFinish rc (before s)) ∧
    FloatWrites s (before s) ∧ ∀ m, before (s.withMsr m) = (before s).withMsr m

theorem endsInFinish_of_double {i : Instr} (rc : Bool) (frt : Fpr) (r : State → FpResult)
    (hexec : ∀ s, exec i s = admitted i s (fpDouble frt rc (r s) s)) (hr : ∀ s m, r (s.withMsr m) = r s) : EndsInFinish i :=
  ⟨rc, fun s => s.delivering frt false (r s), fun s => ⟨hexec s, .delivering .., fun m => by
    simp only [hr]; exact delivering_withMsr ..⟩⟩

theorem endsInFinish_of_single {i : Instr} (rc : Bool) (frt : Fpr) (ds : State → List Dword) (r : State → FpResult)
    (hexec : ∀ s, exec i s = admitted i s (fpSingle frt rc (ds s) (r s) s)) (hr : ∀ s m, r (s.withMsr m) = r s)
    (hds : ∀ s m, ds (s.withMsr m) = ds s) : EndsInFinish i :=
  ⟨rc, fun s => s.singleState frt (ds s) (r s), fun s => ⟨(hexec s).trans (congrArg _ (fpSingle_eq ..)), .singleState ..,
    fun m => by simp only [hr, hds]; exact singleState_withMsr ..⟩⟩

theorem endsInFinish_of_write {i : Instr} (rc : Bool) (v : State → Word)
    (hexec : ∀ s, exec i s = admitted i s (writeFpscr rc (v s) s)) (hv : ∀ s m, v (s.withMsr m) = v s) : EndsInFinish i :=
  ⟨rc, fun s => (s.withFpscr (v s)).withFpReason (v s &&& ~~~ s.fpscr &&& fpExceptionBits != 0), fun s =>
    ⟨hexec s, .written .., fun m => by simp only [hv]; rfl⟩⟩

theorem endsInFinish_of_compare {i : Instr} (bf : CrField) (fra frb : Fpr) (exc : State → Word)
    (hexec : ∀ s, exec i s = admitted i s (compareFp bf (s.f fra) (s.f frb) (exc s) s))
    (hexc : ∀ s m, exc (s.withMsr m) = exc s) : EndsInFinish i :=
  ⟨false, fun s => ((s.setCrField bf (fpCompare (s.f fra) (s.f frb))).withFpscr
      (withSlice (fpscrRaised s.fpscr (exc s)) 16 (fpCompare (s.f fra) (s.f frb)))).withFpReason (exc s != 0), fun s =>
    ⟨hexec s, .compared .., fun m => by simp only [hexc]; rfl⟩⟩

theorem endsInFinish_of_writesFpscr {i : Instr} (hi : writesFpscr i = true) (hne : ∀ bf bfa, i ≠ .mcrfs bf bfa) :
    EndsInFinish i := by
  cases i with
  | fadd | fsub | fmul | fdiv | fmadd | fmsub | fnmadd | fnmsub | fsqrt | frsqrte | fctid | fctidz | fctiw | fctiwz | fcfid =>
    exact endsInFinish_of_double _ _ _ (fun _ => rfl) fun _ _ => rfl
  | fadds | fsubs | fmuls | fdivs | fmadds | fmsubs | fnmadds | fnmsubs | fsqrts | fres =>
    exact endsInFinish_of_single _ _ _ _ (fun _ => rfl) (fun _ _ => rfl) fun _ _ => rfl
  | frsp frt frb rc =>
    exact ⟨rc, fun s => s.delivering frt true (arithRsp s.fpscr s.freeFr (s.f frb)), fun s =>
      ⟨rfl, .delivering .., fun m => delivering_withMsr ..⟩⟩
  | fcmpu | fcmpo => exact endsInFinish_of_compare _ _ _ _ (fun _ => rfl) fun _ _ => rfl
  | mtfsfi | mtfsf | mtfsb0 | mtfsb1 => exact endsInFinish_of_write _ _ (fun _ => rfl) fun _ _ => rfl
  | mcrfs bf bfa => exact absurd rfl (hne bf bfa)
  | _ => cases hi


/-! ## The interrupt, and the same instruction without it -/

section
variable {s u : State} {rc : Bool}

theorem FloatWrites.recordFp (h : FloatWrites s u) (rc : Bool) : FloatWrites s (u.recordFp rc) := by
  obtain ⟨hshape, hfpecr⟩ := h
  cases rc
  · exact ⟨hshape, hfpecr⟩
  · exact ⟨by rw [State.recordFp, if_pos rfl, hshape]; rfl, hfpecr⟩

/-- The Program interrupt of an enabled exception in a state in which only floating-point registers have changed. -/
theorem FloatWrites.interrupted (h : FloatWrites s u) :
    let t := takeInterrupt (.program .fpEnabled) u
    (t.srr0 = s.codeAddress s.pc ∧ slice t.srr1 42 6 = 0b010000 ∧ t.msr = interruptMsr .program s ∧
      t.pc = s.narrow (s.vectorBase + 0x700) &&& ~~~ 3) ∧
    t.gpr = s.gpr ∧ t.mem = s.mem ∧ (s.cfg.fpecrPresent = false → t.fpecr = s.fpecr) := by
  obtain ⟨hshape, hfpecr⟩ := h
  have hcfg : u.cfg = s.cfg := by rw [hshape]
  intro t
  refine ⟨⟨?_, ?_, ?_, ?_⟩, ?_, ?_, fun hnone => ?_⟩
  · show u.codeAddress u.pc = _
    rw [hshape]
    rfl
  · have hsrr1 : t.srr1 = u.narrow (0x00100000 ||| (u.msr &&& ~~~ 0x783F0000)) :=
      srr1_of_status (c := .program .fpEnabled) rfl (by decide)
    have hbits : ∀ k < 64, 42 ≤ k → k < 48 → bit (~~~ 0x783F0000 : Dword) k = false := by decide
    have hslice : slice t.srr1 42 6 = slice (0x00100000 : Dword) 42 6 := by
      refine slice_congr (by omega) fun k hlo hhi => ?_
      rw [hsrr1, bit_narrow _ _ (by omega) (by omega), bit_or, bit_and, hbits k (by omega) hlo hhi, Bool.and_false,
        Bool.or_false]
    exact hslice
  · show interruptMsr .program u = _
    rw [hshape]
    rfl
  · show u.narrow (u.vectorBase + 0x700) &&& ~~~ 3 = _
    rw [hshape]
    rfl
  · show u.gpr = _
    rw [hshape]
  · show u.mem = _
    rw [hshape]
  · exact (cause_fpecr_eq (.inr (hcfg ▸ hnone))).trans (hfpecr hnone)

/-- Going on in sequence from there. -/
theorem FloatWrites.advanced (h : FloatWrites s u) :
    u.advance.lastInterrupt = s.lastInterrupt ∧ u.advance.msr = s.msr ∧ u.advance.srr0 = s.srr0 ∧
    u.advance.srr1 = s.srr1 ∧ u.advance.pc = s.codeAddress (s.pc + 4) ∧ u.advance.gpr = s.gpr ∧ u.advance.mem = s.mem ∧
    (s.cfg.fpecrPresent = false → u.advance.fpecr = s.fpecr) := by
  obtain ⟨hshape, hfpecr⟩ := h
  refine ⟨?_, ?_, ?_, ?_, ?_, ?_, ?_, hfpecr⟩
  · show u.lastInterrupt = _
    rw [hshape]
  · show u.msr = _
    rw [hshape]
  · show u.srr0 = _
    rw [hshape]
  · show u.srr1 = _
    rw [hshape]
  · show u.nextPc = _
    rw [hshape]
    rfl
  · show u.gpr = _
    rw [hshape]
  · show u.mem = _
    rw [hshape]

/-- The MSR with floating-point enabled exceptions ignored. -/
def msrIgnored (s : State) : Dword := s.msr &&& ~~~ 0x900

theorem admission_ignored {i : Instr} (h : admission i s = .execute) : admission i (s.withMsr (msrIgnored s)) = .execute := by
  have hbit (k : Nat) (hk : bit (~~~ 0x900 : Dword) k = true) : (s.withMsr (msrIgnored s)).msrBit k = s.msrBit k := by
    show bit (s.msr &&& ~~~ 0x900) k = bit s.msr k
    rw [bit_and, hk, Bool.and_true]
  obtain ⟨himpl, hpriv, hfp, hform, hhere⟩ := (admission_execute_iff i s).mp h
  exact (admission_execute_iff i _).mpr ⟨himpl, fun hp => (hbit msrPR (by decide)).trans (hpriv hp),
    fun hf => (hbit msrFP (by decide)).trans (hfp hf), hform, hhere⟩

theorem fpFinish_ignored (rc : Bool) (u : State) :
    fpFinish rc (u.withMsr (msrIgnored s)) = .next ((u.recordFp rc).withMsr (msrIgnored s)).advance := by
  have hbit (k : Nat) (hk : bit (~~~ 0x900 : Dword) k = false) : (u.withMsr (msrIgnored s)).msrBit k = false := by
    show bit (s.msr &&& ~~~ 0x900) k = false
    rw [bit_and, hk, Bool.and_false]
  rw [fpFinish_of_ignored (hbit msrFE0 (by decide)) (hbit msrFE1 (by decide))]
  cases rc <;> rfl

end

/-- Settles O43: the end of the instruction decides between the interrupt and the next instruction, in one state. -/
theorem floatEnabledException : Obligations.FloatEnabledException := by
  intro s t i hi hne hadm henabled hlast h
  obtain ⟨rc, before, hends⟩ := endsInFinish_of_writesFpscr hi hne
  obtain ⟨hexec, hwrites, hmsr⟩ := hends s
  obtain ⟨hexec', -, -⟩ := hends (s.withMsr (msrIgnored s))
  have hrecorded := hwrites.recordFp rc
  have hother : exec i (s.withMsr (msrIgnored s)) =
      .next (((before s).recordFp rc).withMsr (msrIgnored s)).advance := by
    rw [hexec', admitted_of_execute (admission_ignored hadm), hmsr, fpFinish_ignored rc]
  rw [hexec, admitted_of_execute hadm] at h
  have hcases := fpFinish_cases h
  generalize (before s).recordFp rc = u at hrecorded hother hcases
  have hlast' : ((u.withMsr (msrIgnored s)).advance).lastInterrupt = none := by
    show u.lastInterrupt = none
    rw [hrecorded.shape]
    exact hlast
  have hfex : u.fpEnabledException = bit u.fpscr 1 := by
    have hmsr' : u.msr = s.msr := by rw [hrecorded.shape]
    rw [State.fpEnabledException, State.msrBit, State.msrBit, hmsr']
    exact (congrArg (· && bit u.fpscr 1) henabled).trans (Bool.true_and _)
  rcases hcases with ⟨hno, rfl⟩ | ⟨hyes, rfl⟩
  · obtain ⟨hl, hm, h0, h1, hpc, hgpr, hmem, hfpecr⟩ := hrecorded.advanced
    refine ⟨fun hset => absurd (hset.symm.trans (hfex.symm.trans hno)) (by decide),
      fun _ => ⟨hl.trans hlast, hm, h0, h1, hpc⟩, _, hother, hlast', rfl, rfl, rfl, rfl, hgpr, hmem, hfpecr⟩
  · obtain ⟨⟨h0, h1, hm, hpc⟩, hgpr, hmem, hfpecr⟩ := hrecorded.interrupted
    refine ⟨fun _ => ⟨rfl, h0, h1, hm, hpc⟩, fun hclear => absurd (hclear.symm.trans (hfex.symm.trans hyes)) (by decide),
      _, hother, hlast', rfl, rfl, rfl, rfl, hgpr, hmem, hfpecr⟩

end Sys2Proof.Machine


/-! SUPPORT. Patterns and values (45_float_arith.md R550, 46_float_convert_compare_status.md R609). The idea: a pattern is its
sign, exponent and fraction, as numbers, and the magnitude grows with the pattern without its sign. -/

namespace Sys2Proof.Machine

open Laws

/-! ## Patterns from their fields -/

/-- The pattern with these fields. -/
def pattern (neg : Bool) (e f : Nat) : Dword := fpSigned neg (BitVec.ofNat 64 (e * 2 ^ 52 + f))

theorem bit_fpSigned (neg : Bool) (d : Dword) : bit (fpSigned neg d) 0 = neg := by
  rw [fpSigned, bit_withBit d neg (by omega) (by omega), if_pos rfl]

theorem slice_fpSigned (neg : Bool) (d : Dword) {i n : Nat} (hi : 1 ≤ i) (hn : i + n ≤ 64) :
    slice (fpSigned neg d) i n = slice d i n :=
  slice_congr hn fun k hlo hhi => by rw [fpSigned, bit_withBit d neg (by omega) (by omega), if_neg (by omega)]

theorem toNat_slice {w : Nat} (v : BitVec w) (i n : Nat) : (slice v i n).toNat = v.toNat / 2 ^ (w - i - n) % 2 ^ n := by
  rw [slice, BitVec.extractLsb'_toNat, Nat.shiftRight_eq_div_pow]

theorem bit_pattern (neg : Bool) (e f : Nat) : bit (pattern neg e f) 0 = neg := bit_fpSigned ..

theorem fpExponent_pattern (neg : Bool) {e f : Nat} (he : e < 2048) (hf : f < 2 ^ 52) :
    fpExponent (pattern neg e f) = e := by
  rw [fpExponent, pattern, slice_fpSigned neg _ (by omega) (by omega), toNat_slice, BitVec.toNat_ofNat]
  omega

theorem fpFraction_pattern (neg : Bool) {e f : Nat} (hf : f < 2 ^ 52) : fpFraction (pattern neg e f) = f := by
  rw [fpFraction, pattern, slice_fpSigned neg _ (by omega) (by omega), toNat_slice, BitVec.toNat_ofNat]
  omega

/-- A pattern is made of its fields. -/
theorem pattern_fields (d : Dword) : pattern (bit d 0) (fpExponent d) (fpFraction d) = d := by
  have he := fpExponent_lt d
  have hf := fpFraction_lt d
  have hlow : slice (BitVec.ofNat 64 (fpExponent d * 2 ^ 52 + fpFraction d)) 1 63 = slice d 1 63 := by
    apply BitVec.eq_of_toNat_eq
    rw [slice_magnitude d, toNat_slice, BitVec.toNat_ofNat]
    omega
  rw [pattern, fpSigned, withBit_zero_eq, hlow]
  exact sign_append d

/-! ## Packing -/

/-- The pattern of a magnitude below the normal numbers. -/
theorem fpPack_of_subnormal {neg : Bool} {mag : Nat} {exp : Int} (hm : 0 < mag) (h : exp + mag.log2 < -1022) :
    fpPack neg mag exp = pattern neg 0 (mag * 2 ^ (exp + 1074).toNat) := by
  rw [fpPack, if_neg (by omega)]
  dsimp only
  rw [if_pos h, pattern, Nat.zero_mul, Nat.zero_add]

/-- The pattern of a normal number: the fraction with its leading bit carries into the exponent. -/
theorem fpPack_of_normal {neg : Bool} {mag : Nat} {exp : Int} (hm : 0 < mag) (h : -1022 ≤ exp + mag.log2) :
    fpPack neg mag exp = pattern neg (exp + mag.log2 + 1022).toNat
      (if 52 ≤ mag.log2 then mag / 2 ^ (mag.log2 - 52) else mag * 2 ^ (52 - mag.log2)) := by
  rw [fpPack, if_neg (by omega)]
  dsimp only
  rw [if_neg (by omega)]
  rfl

theorem pattern_carry (neg : Bool) (e f : Nat) : pattern neg e (2 ^ 52 + f) = pattern neg (e + 1) f := by
  rw [pattern, pattern, show e * 2 ^ 52 + (2 ^ 52 + f) = (e + 1) * 2 ^ 52 + f by omega]

/-- A finite value packs to the pattern it was read from. -/
theorem fpPack_fpValue {d : Dword} {n : Bool} {m : Nat} {x : Int} (h : fpValue d = .finite n m x) :
    fpPack n m x = d ∧ 0 < m := by
  have hlt := fpFraction_lt d
  rcases fpValue_cases d with ⟨he, hf, hv⟩ | ⟨he, hf, hv⟩ | ⟨he, hf, hv⟩ | ⟨he, hf, hv⟩ | ⟨he, hf, hv⟩ <;>
    rw [hv] at h <;> cases h
  · have hpos : 0 < fpFraction d := Nat.pos_of_ne_zero hf
    have hlog : (fpFraction d).log2 < 52 := (Nat.log2_lt hf).mpr hlt
    refine ⟨?_, hpos⟩
    rw [fpPack_of_subnormal hpos (by omega)]
    conv_rhs => rw [← pattern_fields d, he]
    simp
  · have hlog : (2 ^ 52 + fpFraction d).log2 = 52 := by
      rw [Nat.log2_eq_iff (by omega)]
      omega
    refine ⟨?_, by omega⟩
    rw [fpPack_of_normal (by omega) (by omega), hlog, if_pos (by omega), Nat.sub_self, Nat.pow_zero, Nat.div_one,
      pattern_carry]
    conv_rhs => rw [← pattern_fields d]
    congr 1
    omega


/-! ## Order -/

/-- The magnitude of a finite pattern in units of 2^-1074. -/
def unitsOf (e f : Nat) : Nat := if e = 0 then f else (2 ^ 52 + f) * 2 ^ (e - 1)

theorem unitsOf_lt {e f e' f' : Nat} (hf : f < 2 ^ 52) (h : e * 2 ^ 52 + f < e' * 2 ^ 52 + f') (hf' : f' < 2 ^ 52) :
    unitsOf e f < unitsOf e' f' := by
  rcases Nat.lt_or_ge e e' with hlt | hge
  · have hsmall : unitsOf e f < 2 ^ 52 * 2 ^ e := by
      unfold unitsOf
      split
      · next h0 => simpa [h0] using hf
      · next h0 =>
        calc (2 ^ 52 + f) * 2 ^ (e - 1) < (2 ^ 52 * 2) * 2 ^ (e - 1) :=
              Nat.mul_lt_mul_of_pos_right (by omega) (Nat.two_pow_pos _)
          _ = 2 ^ 52 * 2 ^ e := by rw [Nat.mul_assoc, ← Nat.pow_succ', Nat.succ_eq_add_one, Nat.sub_add_cancel (by omega)]
    have hlarge : 2 ^ 52 * 2 ^ e ≤ unitsOf e' f' := by
      rw [unitsOf, if_neg (by omega)]
      exact Nat.mul_le_mul (Nat.le_add_right ..) (Nat.pow_le_pow_right (by omega) (by omega))
    exact hsmall.trans_le hlarge
  · obtain rfl : e = e' := by omega
    unfold unitsOf
    split
    · omega
    · exact Nat.mul_lt_mul_of_pos_right (by omega) (Nat.two_pow_pos _)

/-- Magnitudes are ordered as their patterns are. -/
theorem unitsOf_lt_iff {e f e' f' : Nat} (hf : f < 2 ^ 52) (hf' : f' < 2 ^ 52) :
    unitsOf e f < unitsOf e' f' ↔ e * 2 ^ 52 + f < e' * 2 ^ 52 + f' := by
  refine ⟨fun h => ?_, fun h => unitsOf_lt hf h hf'⟩
  by_contra hge
  rcases Nat.lt_or_eq_of_le (Nat.le_of_not_lt hge) with hlt | heq
  · exact absurd (unitsOf_lt hf' hlt hf) (by omega)
  · obtain ⟨rfl, rfl⟩ : e' = e ∧ f' = f := by omega
    exact absurd h (by omega)

/-- A number with its sign. -/
def signedBy (neg : Bool) (n : Nat) : Int := if neg then -(n : Int) else n

/-- Numbers with a sign, 0 with either, are ordered as other numbers with these signs whose magnitudes are so ordered. -/
theorem signedBy_lt_iff {n n' : Bool} {x y x' y' : Nat} (hlt : x < y ↔ x' < y') (hgt : y < x ↔ y' < x')
    (hx : x = 0 ↔ x' = 0) (hy : y = 0 ↔ y' = 0) :
    signedBy n x < signedBy n' y ↔ signedBy n x' < signedBy n' y' := by
  cases n <;> cases n' <;> simp only [signedBy, Bool.false_eq_true, if_false, if_true] <;> omega

/-- Step 1 of a comparison of two values (R609), in the words of `PatternsAndValues`: finite values scaled by 2^1074. -/
def FpValue.scaled : FpValue → Int
  | .finite neg m e => (if neg then -1 else 1) * (m : Int) * 2 ^ (e + 1074).toNat
  | _ => 0

theorem scaled_fpValue {d : Dword} (h : fpExponent d ≠ 2047) :
    (fpValue d).scaled = signedBy (bit d 0) (unitsOf (fpExponent d) (fpFraction d)) := by
  rcases fpValue_cases d with ⟨he, hf, hv⟩ | ⟨he, hf, hv⟩ | ⟨he, hf, hv⟩ | ⟨he, hf, hv⟩ | ⟨he, hf, hv⟩
  · exact absurd he h
  · exact absurd he h
  · rw [hv, he, hf]
    cases bit d 0 <;> rfl
  · rw [hv, he, FpValue.scaled, unitsOf, if_pos rfl]
    cases bit d 0 <;> simp [signedBy]
  · rw [hv, FpValue.scaled, unitsOf, if_neg he,
      show ((fpExponent d : Int) - 1075 + 1074).toNat = fpExponent d - 1 by omega]
    cases bit d 0
    · simp [signedBy]
    · simp only [signedBy, if_true]
      push_cast
      ring

theorem fpOrder_eq (d : Dword) : fpOrder d = signedBy (bit d 0) (fpExponent d * 2 ^ 52 + fpFraction d) := by
  rw [fpOrder, slice_magnitude]
  rfl

/-- One value is below another (R609): with an infinity among them by its sign, else by the scaled values. -/
def FpValue.below (v w : FpValue) : Prop :=
  if v.isInf || w.isInf then v ≠ w ∧ (v = .inf true ∨ w = .inf false) else v.scaled < w.scaled

theorem isInf_of_exponent {d : Dword} (h : fpExponent d ≠ 2047) : (fpValue d).isInf = false := by
  rcases fpValue_cases d with ⟨he, hf, hv⟩ | ⟨he, hf, hv⟩ | ⟨he, hf, hv⟩ | ⟨he, hf, hv⟩ | ⟨he, hf, hv⟩ <;>
    simp_all [FpValue.isInf]

/-- A pattern that is no NaN is an infinity, or has a smaller exponent field. -/
theorem inf_or_exponent {d : Dword} (h : (fpValue d).isNan = false) :
    (fpExponent d = 2047 ∧ fpFraction d = 0 ∧ fpValue d = .inf (bit d 0)) ∨ fpExponent d < 2047 := by
  have hlt := fpExponent_lt d
  rcases fpValue_cases d with hinf | ⟨he, hf, hv⟩ | ⟨he, hf, hv⟩ | ⟨he, hf, hv⟩ | ⟨he, hf, hv⟩
  · exact .inl hinf
  · rw [hv] at h
    exact absurd h (by simp [FpValue.isNan])
  · exact .inr (by omega)
  · exact .inr (by omega)
  · exact .inr (by omega)

theorem value_ne_inf {d : Dword} {n : Bool} (h : (fpValue d).isInf = false) : fpValue d ≠ .inf n :=
  fun heq => absurd (heq ▸ h) (by simp [FpValue.isInf])

/-- `fpOrder` orders the patterns as their values are ordered. -/
theorem fpOrder_lt_iff {a b : Dword} (ha : (fpValue a).isNan = false) (hb : (fpValue b).isNan = false) :
    fpOrder a < fpOrder b ↔ (fpValue a).below (fpValue b) := by
  have hfa := fpFraction_lt a
  have hfb := fpFraction_lt b
  rw [fpOrder_eq, fpOrder_eq]
  rcases inf_or_exponent ha with ⟨hea, hfa0, hva⟩ | hea <;> rcases inf_or_exponent hb with ⟨heb, hfb0, hvb⟩ | heb
  · rw [hea, hfa0, heb, hfb0, hva, hvb]
    cases bit a 0 <;> cases bit b 0 <;> simp [FpValue.below, FpValue.isInf, signedBy]
  · have hinf := isInf_of_exponent (d := b) (by omega)
    rw [hea, hfa0, FpValue.below, hinf, hva]
    simp only [FpValue.isInf, Bool.true_or, if_true, FpValue.inf.injEq, value_ne_inf hinf, or_false,
      ne_eq, (value_ne_inf hinf).symm, not_false_eq_true, true_and]
    cases bit a 0 <;> cases bit b 0 <;> simp [signedBy] <;> omega
  · have hinf := isInf_of_exponent (d := a) (by omega)
    rw [heb, hfb0, FpValue.below, hinf, hvb]
    simp only [FpValue.isInf, Bool.or_true, if_true, FpValue.inf.injEq, value_ne_inf hinf, false_or,
      ne_eq, not_false_eq_true, true_and]
    cases bit a 0 <;> cases bit b 0 <;> simp [signedBy] <;> omega
  · rw [FpValue.below, isInf_of_exponent (by omega), isInf_of_exponent (by omega)]
    simp only [Bool.or_self, Bool.false_eq_true, if_false]
    rw [scaled_fpValue (by omega), scaled_fpValue (by omega)]
    have hunits : ∀ d, fpFraction d < 2 ^ 52 →
        (unitsOf (fpExponent d) (fpFraction d) = 0 ↔ fpExponent d * 2 ^ 52 + fpFraction d = 0) := by
      intro d hf
      have h := unitsOf_lt_iff (e := 0) (f := 0) (e' := fpExponent d) (f' := fpFraction d) (by omega) hf
      have hzero : unitsOf 0 0 = 0 := rfl
      omega
    exact (signedBy_lt_iff (unitsOf_lt_iff hfa hfb) (unitsOf_lt_iff hfb hfa) (hunits a hfa) (hunits b hfb)).symm

/-- The comparison result names the order of the two patterns (R609). -/
theorem fpCompare_of_no_nan {a b : Dword} (ha : (fpValue a).isNan = false) (hb : (fpValue b).isNan = false) :
    (fpCompare a b = 0b1000 ↔ fpOrder a < fpOrder b) ∧ (fpCompare a b = 0b0100 ↔ fpOrder b < fpOrder a) ∧
      (fpCompare a b = 0b0010 ↔ ¬ fpOrder a < fpOrder b ∧ ¬ fpOrder b < fpOrder a) := by
  rw [fpCompare, ha, hb, if_neg (by simp)]
  rcases lt_trichotomy (fpOrder a) (fpOrder b) with h | h | h
  · simp [h, h.not_gt]
  · simp [h]
  · simp [h, h.not_gt]

/-- Settles O36: the value reads the fields, packing gives them back, and the order of the patterns is that of the values. -/
theorem patternsAndValues : Obligations.PatternsAndValues := by
  unfold Obligations.PatternsAndValues
  refine ⟨fun d => ?_, fun a b => ?_⟩
  · intro e f neg
    refine ⟨?_, ?_, ?_, ?_, ?_, fun n m x h => fpPack_fpValue h⟩ <;>
      rcases fpValue_cases d with ⟨he, hf, hv⟩ | ⟨he, hf, hv⟩ | ⟨he, hf, hv⟩ | ⟨he, hf, hv⟩ | ⟨he, hf, hv⟩ <;>
      simp_all [e, f, neg, fpExponent, fpFraction]
  · intro signed scaled below
    have hbelow : ∀ v w : FpValue, below v w ↔ v.below w := fun v w => by
      cases v <;> cases w <;> rfl
    refine ⟨fun h => ?_, fun ha hb => ?_⟩
    · rw [fpCompare, if_pos (by simpa using h)]
    · rw [hbelow, hbelow, ← fpOrder_lt_iff ha hb, ← fpOrder_lt_iff hb ha]
      exact fpCompare_of_no_nan ha hb

end Sys2Proof.Machine


/-! SUPPORT. Rounding (45_float_arith.md R553, 46_float_convert_compare_status.md R600 and R601). The idea: `roundAt` takes one
of the two neighbouring whole numbers of units, and everything the rules say of it compares the exact value with multiples
of half a unit. -/

namespace Sys2Proof.Machine

open Laws

/-! ## Rounding to whole units -/

theorem rounding_cases (rn : BitVec 2) : rn = 0 ∨ rn = 1 ∨ rn = 2 ∨ rn = 3 := by
  revert rn
  decide

theorem roundAt_exact (rn : BitVec 2) (neg : Bool) (mag : Nat) {exp ulp : Int} (h : ulp ≤ exp) :
    roundAt rn neg mag exp ulp = { mag := mag * 2 ^ (exp - ulp).toNat, exp := ulp, fr := false, fi := false } :=
  if_pos h

/-- Below the unit the magnitude is one of its two neighbours, with a rest of less than a unit. -/
theorem roundAt_below (rn : BitVec 2) (neg : Bool) (mag : Nat) {exp ulp : Int} (h : exp < ulp) :
    roundAt rn neg mag exp ulp =
      { mag := mag / 2 ^ (ulp - exp).toNat + (roundsUp rn neg (mag / 2 ^ (ulp - exp).toNat % 2 == 1)
          (mag % 2 ^ (ulp - exp).toNat) (2 ^ (ulp - exp).toNat)).toNat,
        exp := ulp,
        fr := roundsUp rn neg (mag / 2 ^ (ulp - exp).toNat % 2 == 1) (mag % 2 ^ (ulp - exp).toNat) (2 ^ (ulp - exp).toNat),
        fi := mag % 2 ^ (ulp - exp).toNat != 0 } := by
  rw [roundAt, if_neg (by omega)]
  dsimp only
  cases roundsUp rn neg (mag / 2 ^ (ulp - exp).toNat % 2 == 1) (mag % 2 ^ (ulp - exp).toNat) (2 ^ (ulp - exp).toNat) <;> rfl

/-- When rounding goes up, mode by mode (R553). -/
theorem roundsUp_iff (rn : BitVec 2) (neg odd : Bool) (rest unit : Nat) :
    roundsUp rn neg odd rest unit = true ↔ rest ≠ 0 ∧
      ((rn = 0 ∧ (unit < 2 * rest ∨ 2 * rest = unit ∧ odd = true)) ∨ (rn = 2 ∧ neg = false) ∨ (rn = 3 ∧ neg = true)) := by
  rw [roundsUp]
  rcases rounding_cases rn with rfl | rfl | rfl | rfl <;> simp

/-- Settles O34: the rest decides, mode by mode. -/
theorem roundingIsCorrect : Obligations.RoundingIsCorrect := by
  intro rn neg mag k exp r unit
  have hunit : 0 < unit := Nat.two_pow_pos k
  rcases Nat.eq_zero_or_pos k with rfl | hk
  · have hr : r = { mag := mag, exp := exp + (0 : Nat), fr := false, fi := false } := by
      simp [r, roundAt_exact rn neg mag (show exp + ((0 : Nat) : Int) ≤ exp by omega)]
    have hone : unit = 1 := rfl
    rw [hr, hone]
    cases neg <;> simp
  · have hr := roundAt_below rn neg mag (exp := exp) (ulp := exp + k) (by omega)
    rw [show (exp + (k : Int) - exp).toNat = k by omega] at hr
    change r = _ at hr
    change r = Rounded.mk (mag / unit + (roundsUp rn neg (mag / unit % 2 == 1) (mag % unit) unit).toNat) _
      (roundsUp rn neg (mag / unit % 2 == 1) (mag % unit) unit) (mag % unit != 0) at hr
    have hup := roundsUp_iff rn neg (mag / unit % 2 == 1) (mag % unit) unit
    have hmag : mag / unit * unit + mag % unit = mag := Nat.div_add_mod' mag unit
    have hrest : mag % unit < unit := Nat.mod_lt _ hunit
    generalize roundsUp rn neg (mag / unit % 2 == 1) (mag % unit) unit = up at hr hup
    generalize mag / unit = low at *
    generalize mag % unit = rest at *
    rw [hr]
    clear_value unit
    have hnext : (low + 1) * unit = low * unit + unit := by ring
    cases up
    · simp only [Bool.toNat_false, Nat.add_zero]
      generalize low * unit = p at *
      rcases rounding_cases rn with rfl | rfl | rfl | rfl <;> cases neg <;> simp at hup ⊢ <;> omega
    · simp only [Bool.toNat_true, hnext]
      generalize low * unit = p at *
      rcases rounding_cases rn with rfl | rfl | rfl | rfl <;> cases neg <;> simp at hup ⊢ <;> omega


/-! ## Rounding of reals -/

theorem roundAt_of_le (rn : BitVec 2) (neg : Bool) (mag : Nat) {exp ulp : Int} (h : ulp ≤ exp) :
    roundAt rn neg mag exp ulp = roundAt rn neg (mag * 2 ^ (exp - ulp).toNat) ulp (ulp + (0 : Nat)) := by
  rw [roundAt_exact rn neg mag h, roundAt_exact rn neg _ (by omega)]
  simp

theorem zpow_two_add_natCast (exp : Int) (k : Nat) : (2 : ℝ) ^ (exp + k) = (2 ^ k : Nat) * 2 ^ exp := by
  rw [zpow_add₀ two_ne_zero, zpow_natCast, mul_comm]
  push_cast
  rfl

theorem zpow_two_pos (e : Int) : (0 : ℝ) < 2 ^ e := zpow_pos two_pos e

/-- Rounding at a unit a whole number of binary places up names the neighbour, and FR and FI compare it with the value. -/
theorem roundAt_roundsTo_units (rn : BitVec 2) (neg : Bool) (mag k : Nat) (exp : Int) :
    let r := roundAt rn neg mag exp (exp + k)
    roundsTo rn neg (mag * 2 ^ exp) (exp + k) (r.mag * 2 ^ (exp + k : Int)) ∧
      (r.fr = true ↔ (mag : ℝ) * 2 ^ exp < r.mag * 2 ^ (exp + k : Int)) ∧
      (r.fi = true ↔ (r.mag : ℝ) * 2 ^ (exp + k : Int) ≠ mag * 2 ^ exp) := by
  intro r
  obtain ⟨-, hfi, hfr, hhi, hlo, hnear, hzero, hup, hdown⟩ := roundingIsCorrect rn neg mag k exp
  have hc : (0 : ℝ) < 2 ^ exp := zpow_two_pos exp
  generalize hunit : 2 ^ k = unit at *
  have hulp : (2 : ℝ) ^ (exp + k : Int) = unit * 2 ^ exp := by rw [zpow_two_add_natCast, hunit]
  have hy : (r.mag : ℝ) * 2 ^ (exp + k : Int) = (r.mag * unit : Nat) * 2 ^ exp := by
    rw [hulp]
    push_cast
    ring
  have hle (a b : Nat) : (a : ℝ) * 2 ^ exp ≤ b * 2 ^ exp ↔ a ≤ b := by rw [mul_le_mul_iff_left₀ hc, Nat.cast_le]
  have hlt (a b : Nat) : (a : ℝ) * 2 ^ exp < b * 2 ^ exp ↔ a < b := by rw [mul_lt_mul_iff_left₀ hc, Nat.cast_lt]
  have hdist : |((r.mag * unit : Nat) : ℝ) * 2 ^ exp - mag * 2 ^ exp| =
      |((r.mag * unit : Nat) : ℝ) - mag| * 2 ^ exp := by rw [← sub_mul, abs_mul, abs_of_pos hc]
  refine ⟨⟨r.mag, rfl, ?_, ?_, ?_, ?_, ?_⟩, ?_, ?_⟩
  · rw [hy, hdist, hulp, mul_lt_mul_iff_left₀ hc, abs_lt, neg_lt_sub_iff_lt_add, sub_lt_iff_lt_add]
    exact ⟨by rw [add_comm]; exact_mod_cast hhi, by rw [add_comm]; exact_mod_cast hlo⟩
  · intro h0
    obtain ⟨hle1, hle2, htie⟩ := hnear h0
    have h1 : (2 : ℝ) * mag ≤ 2 * (r.mag * unit : Nat) + unit := by exact_mod_cast hle1
    have h2 : (2 : ℝ) * (r.mag * unit : Nat) ≤ 2 * mag + unit := by exact_mod_cast hle2
    rw [hy, hdist, hulp, mul_div_right_comm, mul_le_mul_iff_left₀ hc, mul_left_inj' hc.ne']
    refine ⟨abs_le.mpr ⟨by linarith, by linarith⟩, fun h => htie ?_⟩
    rcases eq_or_eq_neg_of_abs_eq h with heq | heq
    · refine .inr ?_
      have : (2 : ℝ) * (r.mag * unit : Nat) = 2 * mag + unit := by linarith
      exact_mod_cast this
    · refine .inl ?_
      have : (2 : ℝ) * mag = 2 * (r.mag * unit : Nat) + unit := by linarith
      exact_mod_cast this
  · intro h1
    rw [hy, hle]
    exact hzero h1
  · intro h2
    rw [hy, hle, hle]
    exact hup h2
  · intro h3
    rw [hy, hle, hle]
    exact hdown h3
  · rw [hfr, hy, hlt]
  · rw [hfi, hy]
    exact not_congr (by rw [mul_left_inj' hc.ne', Nat.cast_inj])

/-- `x` and `m` compare in the same way with every multiple of `u`. -/
def SameSide (x m u : ℝ) : Prop := ∀ j : ℤ, (x < j * u ↔ m < j * u) ∧ (j * u < x ↔ j * u < m)

theorem SameSide.refl (x u : ℝ) : SameSide x x u := fun _ => ⟨Iff.rfl, Iff.rfl⟩

/-- It is so of the multiples of a larger power of two. -/
theorem SameSide.mono {x m : ℝ} {a b : Int} (h : SameSide x m (2 ^ a)) (hab : a ≤ b) : SameSide x m (2 ^ b) := by
  intro j
  have hb : (j : ℝ) * 2 ^ b = (j * 2 ^ (b - a).toNat : ℤ) * 2 ^ a := by
    have hpow := zpow_two_add_natCast a (b - a).toNat
    rw [show a + ((b - a).toNat : Int) = b by omega] at hpow
    rw [hpow]
    push_cast
    ring
  rw [hb]
  exact h _

section
variable {x m : ℝ} {a : Int} (h : SameSide x m (2 ^ a))
include h

theorem SameSide.lt_zpow {b : Int} (hab : a ≤ b) : x < 2 ^ b ↔ m < 2 ^ b := by
  simpa using ((h.mono hab) 1).1

theorem SameSide.pos_iff : 0 < x ↔ 0 < m := by
  simpa using (h 0).2

theorem SameSide.abs_sub_lt (p q : ℤ) : |p * (2 : ℝ) ^ a - x| < q * 2 ^ a ↔ |p * (2 : ℝ) ^ a - m| < q * 2 ^ a := by
  have hlo := (h (p - q)).2
  have hhi := (h (p + q)).1
  push_cast [sub_mul, add_mul] at hlo hhi
  rw [abs_lt, abs_lt, neg_lt_sub_iff_lt_add, neg_lt_sub_iff_lt_add, sub_lt_comm, sub_lt_comm (b := m), hlo, add_comm, hhi,
    add_comm]

theorem SameSide.abs_sub_le (p q : ℤ) : |p * (2 : ℝ) ^ a - x| ≤ q * 2 ^ a ↔ |p * (2 : ℝ) ^ a - m| ≤ q * 2 ^ a := by
  have hlo := (h (p - q)).1
  have hhi := (h (p + q)).2
  push_cast [sub_mul, add_mul] at hlo hhi
  rw [abs_le, abs_le, neg_le_sub_iff_le_add, neg_le_sub_iff_le_add, sub_le_comm, sub_le_comm (b := m), ← not_lt, ← not_lt,
    ← not_lt, ← not_lt, hlo, hhi]

end

/-- What rounding names depends only on the side of each multiple of half a unit. -/
theorem SameSide.roundsTo {x m y : ℝ} {ulp : Int} (h : SameSide x m (2 ^ (ulp - 1))) {rn : BitVec 2} {neg : Bool}
    (hm : roundsTo rn neg m ulp y) : Machine.roundsTo rn neg x ulp y := by
  obtain ⟨k, rfl, hdist, h0, h1, h2, h3⟩ := hm
  have hhalf : (2 : ℝ) ^ ulp = 2 * 2 ^ (ulp - 1) := by
    rw [← zpow_one_add₀ two_ne_zero]
    congr 1
    omega
  have hy : (k : ℝ) * 2 ^ ulp = (2 * k : ℤ) * 2 ^ (ulp - 1) := by
    rw [hhalf]
    push_cast
    ring
  have hunit : (2 : ℝ) ^ ulp = (2 : ℤ) * 2 ^ (ulp - 1) := by exact_mod_cast hhalf
  have hhalfunit : (2 : ℝ) ^ ulp / 2 = (1 : ℤ) * 2 ^ (ulp - 1) := by
    rw [hhalf]
    push_cast
    ring
  have hle : (k : ℝ) * 2 ^ ulp ≤ x ↔ (k : ℝ) * 2 ^ ulp ≤ m := by
    rw [hy, ← not_lt, ← not_lt, (h (2 * k)).1]
  have hge : x ≤ (k : ℝ) * 2 ^ ulp ↔ m ≤ (k : ℝ) * 2 ^ ulp := by
    rw [hy, ← not_lt, ← not_lt, (h (2 * k)).2]
  refine ⟨k, rfl, ?_, fun hrn => ?_, fun hrn => hle.mpr (h1 hrn), fun hrn => ?_, fun hrn => ?_⟩
  · rw [hy, hunit, h.abs_sub_lt, ← hy, ← hunit]
    exact hdist
  · obtain ⟨hnear, htie⟩ := h0 hrn
    rw [hy, hhalfunit] at hnear htie ⊢
    refine ⟨(h.abs_sub_le _ _).mpr hnear, fun heq => htie ?_⟩
    exact le_antisymm hnear (not_lt.mp fun hlt => absurd ((h.abs_sub_lt _ _).mpr hlt) (by rw [heq]; exact lt_irrefl _))
  · rw [hle, hge]
    exact h2 hrn
  · rw [hle, hge]
    exact h3 hrn

/-- `roundAt` rounds every value that lies with its magnitude between the same multiples of half a unit. -/
theorem roundAt_spec {x : ℝ} {mag : Nat} {exp ulp : Int} (rn : BitVec 2) (neg : Bool)
    (h : SameSide x (mag * 2 ^ exp) (2 ^ (ulp - 1))) :
    roundsTo rn neg x ulp ((roundAt rn neg mag exp ulp).mag * 2 ^ ulp) ∧
      ((roundAt rn neg mag exp ulp).fr = true ↔ x < (roundAt rn neg mag exp ulp).mag * 2 ^ ulp) ∧
      ((roundAt rn neg mag exp ulp).fi = true ↔ ((roundAt rn neg mag exp ulp).mag : ℝ) * 2 ^ ulp ≠ x) := by
  have hexact : roundsTo rn neg (mag * 2 ^ exp) ulp ((roundAt rn neg mag exp ulp).mag * 2 ^ ulp) ∧
      ((roundAt rn neg mag exp ulp).fr = true ↔ (mag : ℝ) * 2 ^ exp < (roundAt rn neg mag exp ulp).mag * 2 ^ ulp) ∧
      ((roundAt rn neg mag exp ulp).fi = true ↔
        ((roundAt rn neg mag exp ulp).mag : ℝ) * 2 ^ ulp ≠ mag * 2 ^ exp) := by
    rcases le_or_gt ulp exp with hle | hlt
    · have hunits := roundAt_roundsTo_units rn neg (mag * 2 ^ (exp - ulp).toNat) 0 ulp
      have hmag : ((mag * 2 ^ (exp - ulp).toNat : Nat) : ℝ) * 2 ^ ulp = mag * 2 ^ exp := by
        have hpow := zpow_two_add_natCast ulp (exp - ulp).toNat
        rw [show ulp + ((exp - ulp).toNat : Int) = exp by omega] at hpow
        rw [hpow]
        push_cast
        ring
      rw [hmag, ← roundAt_of_le rn neg mag hle, Nat.cast_zero, add_zero] at hunits
      exact hunits
    · have hunits := roundAt_roundsTo_units rn neg mag (ulp - exp).toNat exp
      rwa [show exp + ((ulp - exp).toNat : Int) = ulp by omega] at hunits
  obtain ⟨hrounds, hfr, hfi⟩ := hexact
  have hside := (h.mono (show ulp - 1 ≤ ulp by omega)) (roundAt rn neg mag exp ulp).mag
  rw [Int.cast_natCast] at hside
  refine ⟨h.roundsTo hrounds, hfr.trans hside.1.symm, hfi.trans ?_⟩
  rw [ne_iff_lt_or_gt, ne_iff_lt_or_gt, hside.1, hside.2]


/-! ## Conversion to an integer -/

/-- Rounding to a whole number, over the rationals. -/
theorem roundAt_integer (rn : BitVec 2) (neg : Bool) (mag : Nat) (exp : Int) {x : ℚ} (hx : x = mag * 2 ^ exp) :
    let r := roundAt rn neg mag exp 0
    |(r.mag : ℚ) - x| < 1 ∧ (rn = 0 → |(r.mag : ℚ) - x| ≤ 1 / 2 ∧ (|(r.mag : ℚ) - x| = 1 / 2 → r.mag % 2 = 0)) ∧
      (rn = 1 → (r.mag : ℚ) ≤ x) ∧ (rn = 2 → if neg then (r.mag : ℚ) ≤ x else x ≤ r.mag) ∧
      (rn = 3 → if neg then x ≤ r.mag else (r.mag : ℚ) ≤ x) ∧
      (r.fr = true ↔ x < r.mag) ∧ (r.fi = true ↔ (r.mag : ℚ) ≠ x) := by
  intro r
  have hreal : (mag : ℝ) * 2 ^ exp = (x : ℝ) := by
    rw [hx]
    push_cast
    rfl
  have hspec := roundAt_spec (ulp := 0) rn neg (SameSide.refl (mag * 2 ^ exp) _)
  rw [hreal, zpow_zero, mul_one] at hspec
  obtain ⟨⟨k, hk, hdist, h0, h1, h2, h3⟩, hfr, hfi⟩ := hspec
  have hmag : k = r.mag := by
    rw [zpow_zero, mul_one] at hk
    exact_mod_cast hk.symm
  rw [zpow_zero] at hdist h0
  change |(r.mag : ℝ) - x| < 1 at hdist
  refine ⟨by exact_mod_cast hdist, fun hrn => ?_, fun hrn => by exact_mod_cast h1 hrn,
    fun hrn => by exact_mod_cast h2 hrn, fun hrn => by exact_mod_cast h3 hrn, hfr.trans (by exact_mod_cast Iff.rfl),
    hfi.trans (by exact_mod_cast Iff.rfl)⟩
  obtain ⟨hnear, htie⟩ := h0 hrn
  have hcast : |((roundAt rn neg mag exp 0).mag : ℝ) - x| = (|(r.mag : ℚ) - x| : ℚ) := by
    push_cast
    rfl
  rw [hcast] at hnear htie
  refine ⟨(Rat.cast_le (K := ℝ)).mp (hnear.trans_eq (by norm_num)), fun heq => hmag ▸ htie ?_⟩
  rw [heq]
  norm_num

/-- A 64-bit integer pattern holds the integer. -/
theorem integerPattern_wide {v : Int} (free : Dword) (hlo : -2 ^ 63 ≤ v) (hhi : v < 2 ^ 63) :
    (integerPattern 64 free v).toInt = v := by
  rw [integerPattern, if_neg (by omega), BitVec.toInt_ofInt, Int.bmod_def]
  split <;> omega

/-- The low-order word of a 32-bit integer pattern holds the integer. -/
theorem integerPattern_word {v : Int} (free : Dword) (hlo : -2 ^ 31 ≤ v) (hhi : v < 2 ^ 31) :
    ((integerPattern 32 free v).setWidth 32).toInt = v := by
  rw [integerPattern, if_pos rfl, BitVec.setWidth_append, dif_pos (by omega), BitVec.setWidth_eq, lowWord,
    BitVec.toInt_setWidth, BitVec.toNat_ofInt, Int.bmod_def]
  split <;> omega

section
variable {q : Rounded} {neg : Bool} {y x : ℚ} {k : Int}

/-- A rounded magnitude with its sign is as near to the signed value as the magnitude to its own. -/
theorem abs_signed_sub (hk : k = if neg then -(q.mag : Int) else q.mag) (hx : x = if neg then -y else y) :
    |(k : ℚ) - x| = |(q.mag : ℚ) - y| := by
  subst hk hx
  cases neg
  · simp
  · rw [← abs_neg]
    congr 1
    simp
    ring

theorem abs_signed (hk : k = if neg then -(q.mag : Int) else q.mag) (hx : x = if neg then -y else y) (hy : 0 ≤ y) :
    |(k : ℚ)| = q.mag ∧ |x| = y := by
  subst hk hx
  cases neg <;> simp [abs_of_nonneg hy]

theorem signed_le_iff (hk : k = if neg then -(q.mag : Int) else q.mag) (hx : x = if neg then -y else y) :
    (x ≤ k ↔ if neg then (q.mag : ℚ) ≤ y else y ≤ q.mag) ∧ (k ≤ x ↔ if neg then y ≤ q.mag else (q.mag : ℚ) ≤ y) := by
  subst hk hx
  cases neg <;> simp

end

/-- Settles O41: `roundAt` at a unit of 1 gives the neighbouring integer the mode names; whether it fits decides the rest. -/
theorem integerConversion : Obligations.IntegerConversion := by
  intro wide v rn free b n r delivers least greatest invalid
  have hdelivers {k : Int} {d : Dword} (hv : r.value = some d) (hd : d = integerPattern n free k)
      (hlo : -2 ^ (n - 1) ≤ k) (hhi : k < 2 ^ (n - 1)) : delivers k := by
    refine ⟨d, hv, ?_⟩
    subst hd
    cases wide
    · exact integerPattern_word free hlo hhi
    · exact integerPattern_wide free hlo hhi
  have hpos : (0 : Int) < 2 ^ (n - 1) := by positivity
  have hinvalid {exc : Word} {neg : Bool} (hr : r = integerInvalid v exc n free neg) : invalid (exc ||| 0x100) neg := by
    have hfields : r.exceptions = exc ||| 0x100 ∧ r.fr = false ∧ r.fi = false := by
      rw [hr, integerInvalid]
      split <;> exact ⟨rfl, rfl, rfl⟩
    refine ⟨hfields.1, hfields.2.1, hfields.2.2, ?_⟩
    rw [integerInvalid] at hr
    cases hve : bit v 24
    · rw [if_neg (by simp [fpVE, hve])] at hr
      refine if_neg Bool.false_ne_true ▸ hdelivers (congrArg FpResult.value hr) rfl ?_ ?_ <;>
        cases neg <;> simp only [least, greatest, if_true, Bool.false_eq_true, if_false] <;> omega
    · rw [if_pos (show fpVE v = true from hve)] at hr
      rw [if_pos rfl]
      exact ⟨congrArg FpResult.value hr, congrArg FpResult.fprf hr⟩
  have hrounded {neg : Bool} {q : Rounded} (hr : r = integerRounded v n free neg q) :
      (least ≤ (if neg then -q.mag else q.mag : Int) → (if neg then -q.mag else q.mag : Int) ≤ greatest →
        r.exceptions = fpInexact q.fi ∧ r.fi = q.fi ∧ r.fr = q.fr ∧ delivers (if neg then -q.mag else q.mag)) ∧
      ((if neg then -q.mag else q.mag : Int) < least ∨ greatest < (if neg then -q.mag else q.mag : Int) →
        invalid 0x100 neg) := by
    rw [integerRounded] at hr
    generalize (if neg then -q.mag else q.mag : Int) = k at *
    refine ⟨fun hlo hhi => ?_, fun hout => ?_⟩
    · have hfits : -2 ^ (n - 1) ≤ k ∧ k < 2 ^ (n - 1) := ⟨hlo, by omega⟩
      rw [if_pos hfits] at hr
      exact ⟨congrArg FpResult.exceptions hr, congrArg FpResult.fi hr, congrArg FpResult.fr hr,
        hdelivers (congrArg FpResult.value hr) rfl hfits.1 hfits.2⟩
    · rw [if_neg (by omega)] at hr
      exact hinvalid hr
  have hr : r = toInteger v rn n free b := rfl
  rw [toInteger] at hr
  refine ⟨fun hb => ?_, fun hb => ?_, fun neg hb => ?_, fun neg hb => ?_, fun neg m e hb => ?_⟩
  · rw [hb] at hr
    exact hinvalid hr
  · rw [hb] at hr
    exact hinvalid hr
  · rw [hb] at hr
    exact hinvalid hr
  · rw [hb] at hr
    obtain ⟨hfits, -⟩ := hrounded hr
    simp only [Nat.cast_zero, neg_zero, ite_self] at hfits
    obtain ⟨hexc, hfi, hfr, hval⟩ := hfits (by omega) (by omega)
    exact ⟨hexc, hfr, hfi, hval⟩
  · intro x
    rw [hb] at hr
    obtain ⟨hfits, hout⟩ := hrounded hr
    obtain ⟨hdist, h0, h1, h2, h3, hfr, hfi⟩ := roundAt_integer rn neg m e rfl
    clear_value r
    generalize roundAt rn neg m e 0 = q at *
    have hx : x = if neg then -((m : ℚ) * 2 ^ e) else (m : ℚ) * 2 ^ e := by
      cases neg <;> simp [x]
    clear_value x
    generalize hk : (if neg then -q.mag else q.mag : Int) = k at hfits hout
    replace hk := hk.symm
    have habs := abs_signed_sub hk hx
    obtain ⟨hle, hge⟩ := signed_le_iff hk hx
    obtain ⟨hmag, habsx⟩ := abs_signed hk hx (by positivity)
    have heq : (k : ℚ) = x ↔ (q.mag : ℚ) = m * 2 ^ e := by
      rw [← sub_eq_zero, ← abs_eq_zero, habs, abs_eq_zero, sub_eq_zero]
    refine ⟨k, habs ▸ hdist, fun hrn => ?_, fun hrn => ?_, fun hrn => hle.mpr (h2 hrn), fun hrn => hge.mpr (h3 hrn),
      fun hlo hhi => ?_, hout⟩
    · obtain ⟨hnear, htie⟩ := h0 hrn
      refine ⟨habs ▸ hnear, fun h => ?_⟩
      have heven := htie (habs ▸ h)
      cases neg <;> simp at hk <;> omega
    · rw [hmag, habsx]
      exact h1 hrn
    · obtain ⟨hexc, hfi', hfr', hval⟩ := hfits hlo hhi
      rw [hmag, habsx, hfi', hfr', hexc]
      refine ⟨?_, hfi.trans (not_congr heq).symm, hfr, hval⟩
      by_cases hexact : (k : ℚ) = x
      · rw [if_pos hexact, Bool.eq_false_iff.mpr fun h => hfi.mp h (heq.mp hexact)]
        rfl
      · rw [if_neg hexact, hfi.mpr fun h => hexact (heq.mpr h)]
        rfl

end Sys2Proof.Machine


/-! SUPPORT. Quotients and square roots (45_float_arith.md R566, R576). The idea: a lowest sticky bit below a whole number of
binary places says whether anything is left. -/

namespace Sys2Proof.Machine

open Laws

theorem div_two_add_toNat (n : Nat) (b : Bool) : (2 * n + b.toNat) / 2 = n := by
  cases b
  · simp
  · simp
    omega

theorem mod_two_add_toNat (n : Nat) (b : Bool) : (2 * n + b.toNat) % 2 = 1 ↔ b = true := by
  cases b <;> simp

/-- The invariant of the search for the root, bit by bit. -/
theorem sqrtFrom_spec (n k : Nat) {r : Nat} (hlo : r * r ≤ n) (hhi : n < (r + 2 ^ k) * (r + 2 ^ k)) :
    sqrtFrom n k r * sqrtFrom n k r ≤ n ∧ n < (sqrtFrom n k r + 1) * (sqrtFrom n k r + 1) := by
  induction k generalizing r with
  | zero => exact ⟨hlo, hhi⟩
  | succ k ih =>
    rw [sqrtFrom]
    split
    · next h =>
      refine ih h ?_
      rwa [Nat.add_assoc, ← Nat.two_mul, ← Nat.pow_succ']
    · next h => exact ih hlo (Nat.lt_of_not_le h)

theorem isqrt_spec {n : Nat} (h : n < 2 ^ 260) : isqrt n * isqrt n ≤ n ∧ n < (isqrt n + 1) * (isqrt n + 1) :=
  sqrtFrom_spec n 130 (Nat.zero_le n) (by rw [Nat.zero_add, ← Nat.pow_add]; exact h)

/-- The quotient, cut to 128 binary places, with its sticky bit. -/
theorem divFinite_spec (neg : Bool) (ma : Nat) {mb : Nat} (ea eb : Int) (hb : 0 < mb) :
    ∃ m : Nat, divFinite neg ma ea mb eb = .finite neg m (ea - eb - 129) ∧
      m / 2 * mb ≤ ma * 2 ^ 128 ∧ ma * 2 ^ 128 < (m / 2 + 1) * mb ∧ (m % 2 = 1 ↔ m / 2 * mb ≠ ma * 2 ^ 128) := by
  refine ⟨2 * (ma * 2 ^ 128 / mb) + (ma * 2 ^ 128 % mb != 0).toNat, ?_, ?_⟩
  · rw [divFinite, withSticky, show ea - eb - 128 - 1 = ea - eb - 129 by omega]
  · rw [div_two_add_toNat, mod_two_add_toNat]
    generalize ma * 2 ^ 128 = n
    have hdiv : n / mb * mb + n % mb = n := Nat.div_add_mod' n mb
    have hmod := Nat.mod_lt n hb
    rw [Nat.add_one_mul, bne_iff_ne]
    omega

/-- Halving the exponent leaves an even one. -/
theorem evenExponent_spec (mag : Nat) (exp : Int) :
    ∃ (v : Nat) (e : Int), evenExponent mag exp = (v, 2 * e) ∧
      ((v = mag ∧ exp = 2 * e) ∨ (v = 2 * mag ∧ exp = 2 * e + 1)) := by
  unfold evenExponent
  split
  · exact ⟨mag, exp / 2, by rw [Int.mul_ediv_cancel' (by omega)], .inl ⟨rfl, by omega⟩⟩
  · exact ⟨2 * mag, (exp - 1) / 2, by rw [Int.mul_ediv_cancel' (by omega)], .inr ⟨rfl, by omega⟩⟩

/-- The root, cut to 64 binary places, with its sticky bit. -/
theorem sqrtFinite_spec {mag : Nat} (exp : Int) (hmag : mag < 2 ^ 131) :
    ∃ (m v : Nat) (e : Int), sqrtFinite mag exp = .finite false m (e - 65) ∧
      ((v = mag ∧ exp = 2 * e) ∨ (v = 2 * mag ∧ exp = 2 * e + 1)) ∧
      m / 2 * (m / 2) ≤ v * 2 ^ 128 ∧ v * 2 ^ 128 < (m / 2 + 1) * (m / 2 + 1) ∧
      (m % 2 = 1 ↔ m / 2 * (m / 2) ≠ v * 2 ^ 128) := by
  obtain ⟨v, e, heven, hv⟩ := evenExponent_spec mag exp
  have hroot := isqrt_spec (n := v * 2 ^ 128) (by omega)
  refine ⟨2 * isqrt (v * 2 ^ 128) + (isqrt (v * 2 ^ 128) * isqrt (v * 2 ^ 128) != v * 2 ^ 128).toNat, v, e, ?_, hv, ?_⟩
  · rw [sqrtFinite, heven]
    dsimp only
    rw [withSticky, Int.mul_ediv_cancel_left _ (by omega), show e - 64 - 1 = e - 65 by omega]
  · rw [div_two_add_toNat, mod_two_add_toNat, bne_iff_ne]
    exact ⟨hroot.1, hroot.2, Iff.rfl⟩

/-- Settles O35: division with remainder, and the invariant of the search for the root. -/
theorem quotientsAndRoots : Obligations.QuotientsAndRoots :=
  ⟨fun neg ma _ ea eb hb => divFinite_spec neg ma ea eb hb, fun _ h => isqrt_spec h,
    fun _ exp hmag => sqrtFinite_spec exp hmag⟩

end Sys2Proof.Machine


/-! SUPPORT. The floating-point loads and stores (44_float_load_store_move.md R501 to R519). The idea: DOUBLE and SINGLE are
arithmetic on the sign, exponent and fraction of a pattern, so each conversion is a statement about three numbers. -/

namespace Sys2Proof.Machine

open Laws

/-! ## Patterns as numbers -/

theorem toNat_append_add {m n : Nat} (x : BitVec m) (y : BitVec n) : (x ++ y).toNat = x.toNat * 2 ^ n + y.toNat := by
  rw [BitVec.toNat_append, ← Nat.shiftLeft_add_eq_or_of_lt y.isLt, Nat.shiftLeft_eq]

theorem toNat_b1 (b : Bool) : (b1 b).toNat = b.toNat := by
  cases b <;> rfl

theorem eq_of_toNat_eq {a b : Bool} (h : a.toNat = b.toNat) : a = b := by
  revert h
  cases a <;> cases b <;> simp

theorem toNat_bit {w : Nat} (v : BitVec w) {i : Nat} (hi : i < w) : (bit v i).toNat = v.toNat / 2 ^ (w - i - 1) % 2 := by
  rw [← toNat_b1, ← slice_one v hi, toNat_slice, Nat.pow_one]

theorem toNat_pattern (neg : Bool) {e f : Nat} (he : e < 2048) (hf : f < 2 ^ 52) :
    (pattern neg e f).toNat = neg.toNat * 2 ^ 63 + e * 2 ^ 52 + f := by
  have hmag := slice_magnitude (pattern neg e f)
  have hbit := toNat_bit (pattern neg e f) (i := 0) (by omega)
  have hlt := (pattern neg e f).isLt
  rw [bit_pattern] at hbit
  rw [fpExponent_pattern neg he hf, fpFraction_pattern neg hf, toNat_slice] at hmag
  omega

/-- A double pattern as a number. -/
theorem toNat_fields (d : Dword) : d.toNat = (bit d 0).toNat * 2 ^ 63 + fpExponent d * 2 ^ 52 + fpFraction d := by
  conv_lhs => rw [← pattern_fields d]
  exact toNat_pattern _ (fpExponent_lt d) (fpFraction_lt d)

/-- A single pattern as a number. -/
theorem toNat_word_fields (w : Word) :
    w.toNat = (bit w 0).toNat * 2 ^ 31 + (slice w 1 8).toNat * 2 ^ 23 + (slice w 9 23).toNat := by
  have hlt := w.isLt
  rw [toNat_bit w (by omega), toNat_slice, toNat_slice]
  omega

theorem fpValue_pattern (neg : Bool) {e f : Nat} (he0 : e ≠ 0) (he : e < 2047) (hf : f < 2 ^ 52) :
    fpValue (pattern neg e f) = .finite neg (2 ^ 52 + f) ((e : Int) - 1075) := by
  rw [fpValue, fpExponent_pattern neg (by omega) hf, fpFraction_pattern neg hf, bit_pattern]
  rw [if_neg (by omega), if_neg he0]

/-! ## DOUBLE -/

/-- The bits of DOUBLE as a number. -/
theorem toNat_widened (w : Word) (x : Bool) :
    (slice w 0 2 ++ b1 x ++ b1 x ++ b1 x ++ slice w 2 30 ++ 0#29).toNat =
      (w.toNat / 2 ^ 30 * 8 + x.toNat * 7) * 2 ^ 59 + w.toNat % 2 ^ 30 * 2 ^ 29 := by
  have hlt := w.isLt
  simp only [toNat_append_add, toNat_b1, toNat_slice, BitVec.toNat_ofNat]
  omega

/-- DOUBLE of a word that is no denormal: the exponent re-biased, the fraction extended with zeros. -/
theorem doubleOf_of_normal {w : Word} (h : (slice w 1 8).toNat ≠ 0 ∨ (slice w 9 23).toNat = 0) :
    doubleOf w = pattern (bit w 0)
      (if (slice w 1 8).toNat = 0 then 0 else if (slice w 1 8).toNat = 255 then 2047 else (slice w 1 8).toNat + 896)
      ((slice w 9 23).toNat * 2 ^ 29) := by
  have he := (slice w 1 8).isLt
  have hf := (slice w 9 23).isLt
  have hw := toNat_word_fields w
  have hbit := toNat_bit w (i := 1) (by omega)
  have hb0 := (bit w 0).toNat_lt
  have hzero : slice w 1 8 = 0#8 ↔ (slice w 1 8).toNat = 0 := BitVec.toNat_inj.symm
  have hones : slice w 1 8 = 255#8 ↔ (slice w 1 8).toNat = 255 := BitVec.toNat_inj.symm
  have hfrac : slice w 9 23 = 0#23 ↔ (slice w 9 23).toNat = 0 := BitVec.toNat_inj.symm
  rw [doubleOf]
  simp only [hzero, hones, hfrac, ne_eq]
  rw [if_neg (by omega)]
  apply BitVec.eq_of_toNat_eq
  rw [toNat_widened, toNat_pattern _ (by split <;> [omega; (split <;> omega)]) (by omega)]
  generalize (slice w 9 23).toNat = f at *
  generalize (slice w 1 8).toNat = e at *
  by_cases h0 : e = 0
  · rw [if_pos (.inl h0), if_pos h0]
    omega
  · by_cases h255 : e = 255
    · rw [if_pos (.inr h255), if_neg h0, if_pos h255]
      omega
    · rw [if_neg (by omega), if_neg h0, if_neg h255]
      have hnot : (!bit w 1).toNat = 1 - (bit w 1).toNat := by cases bit w 1 <;> rfl
      omega

/-- DOUBLE of a denormal: its leading bit becomes the leading bit of a normalized number. -/
theorem doubleOf_of_denormal {w : Word} (he : (slice w 1 8).toNat = 0) (hf : (slice w 9 23).toNat ≠ 0) :
    doubleOf w = pattern (bit w 0) (874 + (slice w 9 23).toNat.log2)
        ((slice w 9 23).toNat * 2 ^ (52 - (slice w 9 23).toNat.log2) - 2 ^ 52) ∧
      (slice w 9 23).toNat.log2 ≤ 22 ∧ 2 ^ 52 ≤ (slice w 9 23).toNat * 2 ^ (52 - (slice w 9 23).toNat.log2) ∧
      (slice w 9 23).toNat * 2 ^ (52 - (slice w 9 23).toNat.log2) < 2 ^ 53 := by
  have hlt := (slice w 9 23).isLt
  have hzero : slice w 1 8 = 0#8 ↔ (slice w 1 8).toNat = 0 := BitVec.toNat_inj.symm
  have hfrac : slice w 9 23 = 0#23 ↔ (slice w 9 23).toNat = 0 := BitVec.toNat_inj.symm
  rw [doubleOf]
  simp only [hzero, hfrac, ne_eq]
  rw [if_pos ⟨he, hf⟩]
  generalize (slice w 9 23).toNat = f at *
  have hlog : f.log2 < 23 := (Nat.log2_lt hf).mpr hlt
  have hlo : 2 ^ f.log2 ≤ f := Nat.log2_self_le hf
  have hhi : f < 2 ^ (f.log2 + 1) := Nat.lt_log2_self
  have hone : 2 ^ f.log2 * 2 ^ (52 - f.log2) = 2 ^ 52 := by rw [← Nat.pow_add, Nat.add_sub_of_le (by omega)]
  have hge : 2 ^ 52 ≤ f * 2 ^ (52 - f.log2) := hone ▸ Nat.mul_le_mul_right _ hlo
  refine ⟨?_, by omega, hge, ?_⟩
  · rw [fpPack_of_normal (by omega) (by omega), if_neg (by omega),
      show f * 2 ^ (52 - f.log2) = 2 ^ 52 + (f * 2 ^ (52 - f.log2) - 2 ^ 52) by omega, pattern_carry,
      Nat.add_sub_cancel_left]
    congr 1
    omega
  · calc f * 2 ^ (52 - f.log2) < 2 ^ (f.log2 + 1) * 2 ^ (52 - f.log2) :=
          Nat.mul_lt_mul_of_pos_right hhi (Nat.two_pow_pos _)
      _ = 2 ^ 53 := by rw [← Nat.pow_add]; congr 1; omega

/-! ## SINGLE -/

/-- SINGLE of a zero or of a pattern with a large exponent drops bits. -/
theorem toNat_singleOf_of_large {d : Dword} (free : Word) (h : 896 < fpExponent d ∨ slice d 1 63 = 0) :
    (singleOf free d).toNat = d.toNat / 2 ^ 62 * 2 ^ 30 + d.toNat / 2 ^ 29 % 2 ^ 30 := by
  have hlt := d.isLt
  rw [singleOf, if_pos (show 896 < fpExponent d ∨ slice d 1 63 = 0#63 from h), toNat_append_add, toNat_slice, toNat_slice]
  omega

/-- SINGLE of a number in the range of the denormals shifts the fraction with its leading bit. -/
theorem toNat_singleOf_of_denormal {d : Dword} (free : Word) (hlo : 874 ≤ fpExponent d) (hhi : fpExponent d ≤ 896) :
    (singleOf free d).toNat = (bit d 0).toNat * 2 ^ 31 + (2 ^ 52 + fpFraction d) / 2 ^ (926 - fpExponent d) ∧
      (2 ^ 52 + fpFraction d) / 2 ^ (926 - fpExponent d) < 2 ^ 23 := by
  have hf := fpFraction_lt d
  have hpow : 2 ^ (897 - fpExponent d) * 2 ^ 29 = 2 ^ (926 - fpExponent d) := by
    rw [← Nat.pow_add]
    congr 1
    omega
  have hbound : (2 ^ 52 + fpFraction d) / 2 ^ (926 - fpExponent d) < 2 ^ 23 := by
    apply Nat.div_lt_of_lt_mul
    calc 2 ^ 52 + fpFraction d < 2 ^ 30 * 2 ^ 23 := by omega
      _ ≤ 2 ^ (926 - fpExponent d) * 2 ^ 23 := Nat.mul_le_mul_right _ (Nat.pow_le_pow_right (by omega) (by omega))
  have hne : ¬ (896 < fpExponent d ∨ slice d 1 63 = 0#63) := fun h => by
    rcases h with h | h
    · omega
    · have hzero := (slice_eq_zero_iff d).mp h
      omega
  refine ⟨?_, hbound⟩
  rw [singleOf, if_neg hne, if_pos hlo, toNat_append_add, toNat_append_add, toNat_b1, BitVec.toNat_ofNat, BitVec.toNat_ofNat,
    Nat.div_div_eq_div_mul, hpow, Nat.mod_eq_of_lt hbound, Nat.zero_mod]
  ring

/-! ## Which patterns have a single format -/

/-- The patterns with a single format, by their fields. -/
theorem singleRepresentable_iff (d : Dword) : singleRepresentable d = true ↔
    (fpExponent d = 2047 ∧ fpFraction d % 2 ^ 29 = 0) ∨ (fpExponent d = 0 ∧ fpFraction d = 0) ∨
    (897 ≤ fpExponent d ∧ fpExponent d ≤ 1150 ∧ fpFraction d % 2 ^ 29 = 0) ∨
    (874 ≤ fpExponent d ∧ fpExponent d ≤ 896 ∧ (2 ^ 52 + fpFraction d) % 2 ^ (926 - fpExponent d) = 0) := by
  have hlt := fpFraction_lt d
  have helt := fpExponent_lt d
  rw [singleRepresentable]
  rcases fpValue_cases d with ⟨he, hf, hv⟩ | ⟨he, hf, hv⟩ | ⟨he, hf, hv⟩ | ⟨he, hf, hv⟩ | ⟨he, hf, hv⟩ <;> rw [hv]
  · exact iff_of_true rfl (.inl ⟨he, by rw [hf, Nat.zero_mod]⟩)
  · have hlow : slice d 35 29 = 0 ↔ fpFraction d % 2 ^ 29 = 0 := by
      rw [← BitVec.toNat_inj, fpFraction, toNat_slice, toNat_slice]
      show _ = 0 ↔ _
      omega
    simp only [beq_iff_eq, hlow]
    omega
  · exact iff_of_true rfl (.inr (.inl ⟨he, hf⟩))
  · have hlog : (fpFraction d).log2 < 52 := (Nat.log2_lt hf).mpr hlt
    simp only [Bool.and_eq_true, decide_eq_true_eq]
    omega
  · have hlog : (2 ^ 52 + fpFraction d).log2 = 52 := by
      rw [Nat.log2_eq_iff (by omega)]
      omega
    simp only [Bool.and_eq_true, decide_eq_true_eq, hlog]
    rcases le_or_gt 897 (fpExponent d) with hbig | hsmall
    · rw [show (max ((fpExponent d : Int) - 1075 + (52 : Nat)) (-126) - 23 - ((fpExponent d : Int) - 1075)).toNat = 29 by
        omega]
      omega
    · rw [show (max ((fpExponent d : Int) - 1075 + (52 : Nat)) (-126) - 23 - ((fpExponent d : Int) - 1075)).toNat =
        926 - fpExponent d by omega]
      generalize (2 ^ 52 + fpFraction d) % 2 ^ (926 - fpExponent d) = rest
      omega

/-! ## There and back -/

/-- SINGLE gives back the word DOUBLE was made of. -/
theorem singleOf_doubleOf (free w : Word) : singleOf free (doubleOf w) = w := by
  have hw := toNat_word_fields w
  have hlt := w.isLt
  have he := (slice w 1 8).isLt
  have hf := (slice w 9 23).isLt
  have hb0 := (bit w 0).toNat_lt
  apply BitVec.eq_of_toNat_eq
  by_cases hden : (slice w 1 8).toNat = 0 ∧ (slice w 9 23).toNat ≠ 0
  · obtain ⟨hd, hlog, hlo, hhi⟩ := doubleOf_of_denormal hden.1 hden.2
    have hexp : fpExponent (doubleOf w) = 874 + (slice w 9 23).toNat.log2 := by
      rw [hd, fpExponent_pattern _ (by omega) (by omega)]
    have hfrac : 2 ^ 52 + fpFraction (doubleOf w) = (slice w 9 23).toNat * 2 ^ (52 - (slice w 9 23).toNat.log2) := by
      rw [hd, fpFraction_pattern _ (by omega)]
      omega
    have hsign : bit (doubleOf w) 0 = bit w 0 := by rw [hd, bit_pattern]
    rw [(toNat_singleOf_of_denormal free (by omega) (by omega)).1, hexp, hfrac, hsign,
      show 926 - (874 + (slice w 9 23).toNat.log2) = 52 - (slice w 9 23).toNat.log2 by omega,
      Nat.mul_div_cancel _ (Nat.two_pow_pos _)]
    omega
  · have hd := doubleOf_of_normal (w := w) (by omega)
    have hlarge : 896 < fpExponent (doubleOf w) ∨ slice (doubleOf w) 1 63 = 0 := by
      rw [slice_eq_zero_iff, hd, fpExponent_pattern _ (by split <;> [omega; (split <;> omega)]) (by omega),
        fpFraction_pattern _ (by omega)]
      split <;> [omega; (split <;> omega)]
    rw [toNat_singleOf_of_large free hlarge, hd,
      toNat_pattern _ (by split <;> [omega; (split <;> omega)]) (by omega)]
    generalize (slice w 1 8).toNat = e at *
    by_cases h0 : e = 0
    · rw [if_pos h0]
      omega
    · by_cases h255 : e = 255
      · rw [if_neg h0, if_pos h255]
        omega
      · rw [if_neg h0, if_neg h255]
        omega

/-- The pattern DOUBLE gives has a single format. -/
theorem singleRepresentable_doubleOf (w : Word) : singleRepresentable (doubleOf w) = true := by
  have he := (slice w 1 8).isLt
  have hf := (slice w 9 23).isLt
  rw [singleRepresentable_iff]
  by_cases hden : (slice w 1 8).toNat = 0 ∧ (slice w 9 23).toNat ≠ 0
  · obtain ⟨hd, hlog, hlo, hhi⟩ := doubleOf_of_denormal hden.1 hden.2
    refine .inr (.inr (.inr ?_))
    rw [hd, fpExponent_pattern _ (by omega) (by omega), fpFraction_pattern _ (by omega)]
    refine ⟨by omega, by omega, ?_⟩
    rw [Nat.add_sub_cancel' hlo, show 926 - (874 + (slice w 9 23).toNat.log2) = 52 - (slice w 9 23).toNat.log2 by omega]
    exact Nat.mul_mod_left ..
  · rw [doubleOf_of_normal (by omega), fpExponent_pattern _ (by split <;> [omega; (split <;> omega)]) (by omega),
      fpFraction_pattern _ (by omega)]
    generalize (slice w 1 8).toNat = e at *
    by_cases h0 : e = 0
    · rw [if_pos h0]
      exact .inr (.inl (by omega))
    · by_cases h255 : e = 255
      · rw [if_neg h0, if_pos h255]
        exact .inl (by omega)
      · rw [if_neg h0, if_neg h255]
        exact .inr (.inr (.inl (by omega)))

/-- The fields of a word with exponent 0, from its number. -/
theorem word_fields_of_toNat {w : Word} {b : Bool} {g : Nat} (h : w.toNat = b.toNat * 2 ^ 31 + g) (hg : g < 2 ^ 23) :
    bit w 0 = b ∧ (slice w 1 8).toNat = 0 ∧ (slice w 9 23).toNat = g := by
  have hw := toNat_word_fields w
  have hb := b.toNat_lt
  have hb0 := (bit w 0).toNat_lt
  have he := (slice w 1 8).isLt
  have hf := (slice w 9 23).isLt
  exact ⟨eq_of_toNat_eq (by omega), by omega, by omega⟩

/-- DOUBLE gives back the pattern SINGLE was made of, if it has a single format. -/
theorem doubleOf_singleOf {d : Dword} (free : Word) (h : singleRepresentable d = true) : doubleOf (singleOf free d) = d := by
  have hd := toNat_fields d
  have hf := fpFraction_lt d
  have hb0 := (bit d 0).toNat_lt
  have hw := toNat_word_fields (singleOf free d)
  have he' := (slice (singleOf free d) 1 8).isLt
  have hf' := (slice (singleOf free d) 9 23).isLt
  have hb0' := (bit (singleOf free d) 0).toNat_lt
  refine Eq.trans ?_ (pattern_fields d)
  rcases (singleRepresentable_iff d).mp h with ⟨he, hfrac⟩ | ⟨he, hfrac⟩ | ⟨hlo, hhi, hfrac⟩ | ⟨hlo, hhi, hrest⟩
  · have hs := toNat_singleOf_of_large free (d := d) (.inl (by omega))
    have hsign : bit (singleOf free d) 0 = bit d 0 := eq_of_toNat_eq (by omega)
    rw [doubleOf_of_normal (by omega), if_neg (by omega), if_pos (by omega), hsign]
    congr 1 <;> omega
  · have hs := toNat_singleOf_of_large free (d := d) (.inr ((slice_eq_zero_iff d).mpr ⟨he, hfrac⟩))
    have hsign : bit (singleOf free d) 0 = bit d 0 := eq_of_toNat_eq (by omega)
    rw [doubleOf_of_normal (by omega), if_pos (by omega), hsign]
    congr 1 <;> omega
  · have hs := toNat_singleOf_of_large free (d := d) (.inl (by omega))
    have hsign : bit (singleOf free d) 0 = bit d 0 := eq_of_toNat_eq (by omega)
    rw [doubleOf_of_normal (by omega), if_neg (by omega), if_neg (by omega), hsign]
    congr 1 <;> omega
  · obtain ⟨hs, hsmall⟩ := toNat_singleOf_of_denormal free hlo hhi
    obtain ⟨hsign, hzero, hg⟩ := word_fields_of_toNat hs hsmall
    have hexact : (slice (singleOf free d) 9 23).toNat * 2 ^ (926 - fpExponent d) = 2 ^ 52 + fpFraction d := by
      rw [hg, Nat.div_mul_cancel (Nat.dvd_of_mod_eq_zero hrest)]
    have hg0 : (slice (singleOf free d) 9 23).toNat ≠ 0 := fun h0 => by
      rw [h0, Nat.zero_mul] at hexact
      omega
    have hlog : (slice (singleOf free d) 9 23).toNat.log2 = fpExponent d - 874 := by
      have h52 : 2 ^ (fpExponent d - 874) * 2 ^ (926 - fpExponent d) = 2 ^ 52 := by
        rw [← Nat.pow_add, show fpExponent d - 874 + (926 - fpExponent d) = 52 by omega]
      have h53 : 2 ^ (fpExponent d - 874 + 1) * 2 ^ (926 - fpExponent d) = 2 ^ 53 := by
        rw [← Nat.pow_add, show fpExponent d - 874 + 1 + (926 - fpExponent d) = 53 by omega]
      rw [Nat.log2_eq_iff hg0]
      constructor
      · refine Nat.le_of_mul_le_mul_right (c := 2 ^ (926 - fpExponent d)) ?_ (Nat.two_pow_pos _)
        rw [h52, hexact]
        exact Nat.le_add_right ..
      · refine Nat.lt_of_mul_lt_mul_right (a := 2 ^ (926 - fpExponent d)) ?_
        rw [h53, hexact]
        omega
    rw [(doubleOf_of_denormal hzero hg0).1, hlog, hsign, show 52 - (fpExponent d - 874) = 926 - fpExponent d by omega,
      hexact, Nat.add_sub_cancel_left, Nat.add_sub_cancel' hlo]

/-! ## O30 -/

/-- The magnitude DOUBLE has is that of the single. -/
theorem doubleOf_has {w : Word} {E F : Nat} {x : ℚ} (hd : doubleOf w = pattern (bit w 0) E F) (h0 : E ≠ 0) (hE : E < 2047)
    (hF : F < 2 ^ 52) (hx : ((2 ^ 52 + F : Nat) : ℚ) * 2 ^ ((E : Int) - 1075) = x) :
    ∃ m k, fpValue (doubleOf w) = .finite (bit w 0) m k ∧ (m : ℚ) * 2 ^ k = x :=
  ⟨2 ^ 52 + F, (E : Int) - 1075, by rw [hd, fpValue_pattern _ h0 hE hF], hx⟩

/-- Settles O30: the bodies of the instructions, and DOUBLE and SINGLE as arithmetic on the fields. -/
theorem floatLoadsAndStores : Obligations.FloatLoadsAndStores := by
  refine ⟨fun s fr ra rb d hfp => ?_, fun w => ?_, fun d free => ?_,
    fun w free => ⟨singleOf_doubleOf free w, singleRepresentable_doubleOf w⟩, fun d free h => doubleOf_singleOf free h⟩
  · intro base di loaded stored loads loadsU stores storesU
    have hls {i : Instr} {off : Dword} (h : exec i s = loadSingle i fr (base + off) s) : loads i off 4 :=
      fun _ hok => h.trans (memRead_of_ok hok _)
    have hld {i : Instr} {off : Dword} (h : exec i s = loadDouble i fr (base + off) s) : loads i off 8 :=
      fun _ hok => h.trans (memRead_of_ok hok _)
    have hss {i : Instr} {off : Dword} (h : exec i s = storeSingle i fr (base + off) s) : stores i off 4 :=
      fun _ hok => h.trans ((memWrite_of_ok hok _).trans (by rw [stored_of_ok hok]; rfl))
    have hsd {i : Instr} {off : Dword} (h : exec i s = storeDouble i fr (base + off) s) : stores i off 8 :=
      fun _ hok => h.trans ((memWrite_of_ok hok _).trans (by rw [stored_of_ok hok]; rfl))
    have hlsu {i : Instr} {off : Dword} (h : exec i s = loadSingleUpdate i fr ra (s.x ra + off) s) : loadsU i off 4 :=
      fun _ hok => h.trans (memRead_of_ok hok _)
    have hldu {i : Instr} {off : Dword} (h : exec i s = loadDoubleUpdate i fr ra (s.x ra + off) s) : loadsU i off 8 :=
      fun _ hok => h.trans (memRead_of_ok hok _)
    have hssu {i : Instr} {off : Dword} (h : exec i s = storeSingleUpdate i fr ra (s.x ra + off) s) : storesU i off 4 :=
      fun _ hok => h.trans ((memWrite_of_ok hok _).trans (by rw [stored_of_ok hok]; rfl))
    have hsdu {i : Instr} {off : Dword} (h : exec i s = storeDoubleUpdate i fr ra (s.x ra + off) s) : storesU i off 8 :=
      fun _ hok => h.trans ((memWrite_of_ok hok _).trans (by rw [stored_of_ok hok]; rfl))
    clear_value loads loadsU stores storesU
    refine ⟨hls (exec_float rfl hfp rfl rfl rfl rfl), hls (exec_float rfl hfp rfl rfl rfl rfl),
      hld (exec_float rfl hfp rfl rfl rfl rfl), hld (exec_float rfl hfp rfl rfl rfl rfl),
      hss (exec_float rfl hfp rfl rfl rfl rfl), hss (exec_float rfl hfp rfl rfl rfl rfl),
      hsd (exec_float rfl hfp rfl rfl rfl rfl), hsd (exec_float rfl hfp rfl rfl rfl rfl), fun h0 => ?_, fun hgr reals hok => ?_⟩
    · have hv := updateValid_of_ne h0
      exact ⟨hlsu (exec_float rfl hfp rfl rfl hv rfl), hlsu (exec_float rfl hfp rfl rfl hv rfl),
        hldu (exec_float rfl hfp rfl rfl hv rfl), hldu (exec_float rfl hfp rfl rfl hv rfl),
        hssu (exec_float rfl hfp rfl rfl hv rfl), hssu (exec_float rfl hfp rfl rfl hv rfl),
        hsdu (exec_float rfl hfp rfl rfl hv rfl), hsdu (exec_float rfl hfp rfl rfl hv rfl)⟩
    · have hexec : exec (.stfiwx fr ra rb) s = storeInteger (.stfiwx fr ra rb) fr (eaX s ra rb) s :=
        exec_float rfl hfp (implemented_of_present rfl hgr) rfl rfl rfl
      exact hexec.trans ((memWrite_of_ok hok _).trans (by rw [stored_of_ok hok]; rfl))
  · intro e f neg has
    have he : e < 256 := (slice w 1 8).isLt
    have hf : f < 2 ^ 23 := (slice w 9 23).isLt
    have hnormal (h : e ≠ 0 ∨ f = 0) : doubleOf w = pattern neg (if e = 0 then 0 else if e = 255 then 2047 else e + 896)
        (f * 2 ^ 29) := doubleOf_of_normal h
    refine ⟨fun h0 hf0 => ?_, fun h0 hf0 => ?_, fun h0 h255 => ?_, fun h255 hf0 => ?_, fun h255 hf0 => ?_⟩
    · rw [hnormal (.inr hf0), if_pos h0, hf0]
      cases neg <;> decide
    · obtain ⟨hd, hlog, hlo, hhi⟩ := doubleOf_of_denormal h0 hf0
      refine doubleOf_has hd (by omega) (by omega) (by omega) ?_
      rw [Nat.add_sub_cancel' hlo, Nat.cast_mul, Nat.cast_pow, Nat.cast_ofNat, ← zpow_natCast, mul_assoc,
        ← zpow_add₀ two_ne_zero]
      congr 2
      omega
    · have hd := hnormal (.inl h0)
      rw [if_neg h0, if_neg h255] at hd
      refine doubleOf_has hd (by omega) (by omega) (by omega) ?_
      rw [show 2 ^ 52 + f * 2 ^ 29 = (2 ^ 23 + f) * 2 ^ 29 by ring, Nat.cast_mul, Nat.cast_pow 2 29, Nat.cast_ofNat,
        ← zpow_natCast, mul_assoc, ← zpow_add₀ two_ne_zero,
        show ((29 : Nat) : Int) + (((e + 896 : Nat) : Int) - 1075) = (e : Int) - 150 by omega]
    · rw [hnormal (.inr hf0), if_neg (by omega), if_pos h255, hf0]
      cases neg <;> decide
    · rw [hnormal (.inl (by omega)), if_neg (by omega), if_pos h255]
      apply BitVec.eq_of_toNat_eq
      rw [toNat_pattern _ (by omega) (by omega)]
      rw [toNat_append_add, toNat_append_add, toNat_append_add, slice_one w (by omega), toNat_b1, BitVec.toNat_ofNat,
        BitVec.toNat_ofNat, Nat.zero_mod]
      ring
  · intro e
    have hzero : slice d 1 63 = 0 ↔ e = 0 ∧ fpFraction d = 0 := slice_eq_zero_iff d
    refine ⟨fun h => if_pos h, fun hlo hhi => ?_, fun hlo hne => ?_⟩
    · obtain ⟨hs, hsmall⟩ := toNat_singleOf_of_denormal free hlo hhi
      obtain ⟨hsign, hexp, hfrac⟩ := word_fields_of_toNat hs hsmall
      refine ⟨hsign, ?_⟩
      rw [slice_split _ 1 8 23 (by omega), toNat_append_add, hexp, hfrac, Nat.zero_mul, Nat.zero_add]
      rfl
    · have hlarge : ¬ (896 < fpExponent d ∨ slice d 1 63 = 0#63) := by
        rintro (h | h)
        · have : 896 < e := h
          omega
        · exact hne h
      have hsmall : ¬ 874 ≤ fpExponent d := Nat.not_le.mpr hlo
      rw [singleOf, if_neg hlarge, if_neg hsmall]

end Sys2Proof.Machine


/-! SUPPORT. Delivering an exact value (45_float_arith.md R553 to R555, R558 step 3). The idea: everything the rules say of a
value compares it with multiples of half a unit of its last place, so the magnitude the model rounds may stand for every real
number on the same side of each of these. -/

namespace Sys2Proof.Machine

open Laws

/-! ## Sizes of magnitudes -/

theorem zpow_two_le_iff {a b : Int} : (2 : ℝ) ^ a ≤ 2 ^ b ↔ a ≤ b := zpow_le_zpow_iff_right₀ one_lt_two

theorem zpow_two_lt_iff {a b : Int} : (2 : ℝ) ^ a < 2 ^ b ↔ a < b := zpow_lt_zpow_iff_right₀ one_lt_two

/-- A power of two in units of a smaller one. -/
theorem zpow_two_eq_natCast_mul (b : Int) (n : Nat) : (2 : ℝ) ^ b = (2 ^ n : Nat) * 2 ^ (b - n) := by
  rw [← zpow_two_add_natCast, Int.sub_add_cancel]

/-- The place of the leading bit of a magnitude. -/
theorem mag_bounds {mag : Nat} (exp : Int) (h : 0 < mag) :
    (2 : ℝ) ^ (exp + mag.log2) ≤ mag * 2 ^ exp ∧ (mag : ℝ) * 2 ^ exp < 2 ^ (exp + mag.log2 + 1) := by
  have hlo : 2 ^ mag.log2 ≤ mag := Nat.log2_self_le (by omega)
  have hhi : mag < 2 ^ (mag.log2 + 1) := Nat.lt_log2_self
  have hpos := zpow_two_pos exp
  rw [show exp + mag.log2 + 1 = exp + ((mag.log2 + 1 : Nat) : Int) by omega, zpow_two_add_natCast, zpow_two_add_natCast]
  exact ⟨mul_le_mul_of_nonneg_right (Nat.cast_le.mpr hlo) hpos.le, mul_lt_mul_of_pos_right (Nat.cast_lt.mpr hhi) hpos⟩

section
variable {x : ℝ} {top : Int} (hlo : (2 : ℝ) ^ top ≤ x) (hhi : x < 2 ^ (top + 1))
include hlo hhi

theorem lt_zpow_iff_of_top (b : Int) : x < 2 ^ b ↔ top < b := by
  refine ⟨fun h => zpow_two_lt_iff.mp (hlo.trans_lt h), fun h => hhi.trans_le (zpow_two_le_iff.mpr (by omega))⟩

theorem zpow_le_iff_of_top (b : Int) : 2 ^ b ≤ x ↔ b ≤ top := by
  rw [← not_lt, lt_zpow_iff_of_top hlo hhi, not_lt]

end

/-- A rounded value is not beyond the next power of two. -/
theorem mag_le_of_lt {k n : Nat} {x : ℝ} {b : Int} (hhi : x < 2 ^ b) (hdist : |k * (2 : ℝ) ^ (b - n) - x| < 2 ^ (b - n)) :
    k ≤ 2 ^ n := by
  have hpos := zpow_two_pos (b - n)
  rw [zpow_two_eq_natCast_mul b n] at hhi
  have hlt : (k : ℝ) * 2 ^ (b - n) < (2 ^ n + 1 : Nat) * 2 ^ (b - n) := by
    rw [Nat.cast_add_one, add_one_mul]
    linarith [(abs_lt.mp hdist).2]
  exact Nat.lt_add_one_iff.mp (Nat.cast_lt.mp ((mul_lt_mul_iff_left₀ hpos).mp hlt))

/-- A rounded value is not below the power of two under the exact one. -/
theorem le_mag_of_le {k n : Nat} {x : ℝ} {b : Int} (hlo : 2 ^ b ≤ x) (hdist : |k * (2 : ℝ) ^ (b - n) - x| < 2 ^ (b - n)) :
    2 ^ n ≤ k := by
  have hpos := zpow_two_pos (b - n)
  rw [zpow_two_eq_natCast_mul b n] at hlo
  have hlt : ((2 ^ n : Nat) : ℝ) * 2 ^ (b - n) < (k + 1 : Nat) * 2 ^ (b - n) := by
    rw [Nat.cast_add_one, add_one_mul]
    linarith [(abs_lt.mp hdist).1]
  exact Nat.lt_add_one_iff.mp (Nat.cast_lt.mp ((mul_lt_mul_iff_left₀ hpos).mp hlt))

/-! ## The value of a packed magnitude -/

/-- A rounded magnitude in the range of the doubles packs to a pattern of its value. -/
theorem fpValue_fpPack (neg : Bool) {mag : Nat} {exp : Int} (hmag : 0 < mag) (hle : mag ≤ 2 ^ 53) (hlo : -1074 ≤ exp)
    (hhi : exp + mag.log2 ≤ 1023) :
    ∃ (m : Nat) (e : Int), fpValue (fpPack neg mag exp) = .finite neg m e ∧ (m : ℝ) * 2 ^ e = mag * 2 ^ exp := by
  have hlog_lo : 2 ^ mag.log2 ≤ mag := Nat.log2_self_le (by omega)
  have hlog_hi : mag < 2 ^ (mag.log2 + 1) := Nat.lt_log2_self
  rcases lt_or_ge (exp + mag.log2) (-1022) with hsub | hnorm
  · refine ⟨mag * 2 ^ (exp + 1074).toNat, -1074, ?_, ?_⟩
    · have hsmall : mag * 2 ^ (exp + 1074).toNat < 2 ^ 52 := by
        calc mag * 2 ^ (exp + 1074).toNat < 2 ^ (mag.log2 + 1) * 2 ^ (exp + 1074).toNat :=
              Nat.mul_lt_mul_of_pos_right hlog_hi (Nat.two_pow_pos _)
          _ = 2 ^ (mag.log2 + 1 + (exp + 1074).toNat) := (Nat.pow_add ..).symm
          _ ≤ 2 ^ 52 := Nat.pow_le_pow_right (by omega) (by omega)
      have hne : mag * 2 ^ (exp + 1074).toNat ≠ 0 := Nat.mul_ne_zero (by omega) (Nat.two_pow_pos _).ne'
      rw [fpPack_of_subnormal hmag hsub, fpValue, fpExponent_pattern neg (by omega) hsmall, fpFraction_pattern neg hsmall,
        bit_pattern, if_neg (by omega), if_pos rfl, if_neg hne]
    · have hpow := zpow_two_add_natCast (-1074) (exp + 1074).toNat
      rw [show -1074 + ((exp + 1074).toNat : Int) = exp by omega] at hpow
      rw [hpow]
      push_cast
      ring
  · obtain ⟨f, hf, hpack⟩ : ∃ f : Nat, f * 2 ^ mag.log2 = mag * 2 ^ 52 ∧
        fpPack neg mag exp = pattern neg (exp + mag.log2 + 1022).toNat f := by
      refine ⟨_, ?_, fpPack_of_normal hmag hnorm⟩
      split
      · next h =>
        rcases eq_or_ne mag.log2 52 with hl | hl
        · rw [hl, Nat.sub_self, Nat.pow_zero, Nat.div_one]
        · have h53 : mag.log2 = 53 := by
            have : 2 ^ mag.log2 ≤ 2 ^ 53 := hlog_lo.trans hle
            have := (Nat.pow_le_pow_iff_right (a := 2) (by omega)).mp this
            omega
          rw [h53] at hlog_lo ⊢
          obtain rfl : mag = 2 ^ 53 := by omega
          rfl
      · next h => rw [Nat.mul_assoc, ← Nat.pow_add, Nat.sub_add_cancel (by omega)]
    have hflo : 2 ^ 52 ≤ f := by
      refine Nat.le_of_mul_le_mul_right (c := 2 ^ mag.log2) ?_ (Nat.two_pow_pos _)
      rw [hf, Nat.mul_comm]
      exact Nat.mul_le_mul_right _ hlog_lo
    have hfhi : f < 2 ^ 53 := by
      refine Nat.lt_of_mul_lt_mul_right (a := 2 ^ mag.log2) ?_
      rw [hf]
      calc mag * 2 ^ 52 < 2 ^ (mag.log2 + 1) * 2 ^ 52 := Nat.mul_lt_mul_of_pos_right hlog_hi (by omega)
        _ = 2 ^ 53 * 2 ^ mag.log2 := by rw [Nat.pow_succ]; ring
    refine ⟨f, exp + mag.log2 - 52, ?_, ?_⟩
    · rw [hpack, show f = 2 ^ 52 + (f - 2 ^ 52) by omega, pattern_carry,
        fpValue_pattern neg (by omega) (by omega) (by omega)]
      congr 1
      omega
    · have hpow := zpow_two_add_natCast (exp - 52) mag.log2
      have hpow52 := zpow_two_eq_natCast_mul exp 52
      rw [show exp - 52 + (mag.log2 : Int) = exp + mag.log2 - 52 by omega] at hpow
      rw [hpow, hpow52, ← mul_assoc, ← Nat.cast_mul, hf, Nat.cast_mul, mul_assoc]
      rfl


/-! ## The two formats -/

/-- The precision of an instruction (R553). -/
def precisionOf (single : Bool) : Precision := if single then .single else .double

/-- The parameters of the two formats, as numbers (R553, R555). -/
theorem precisionOf_cases (single : Bool) :
    (single = true ∧ (precisionOf single).bits = 24 ∧ (precisionOf single).emin = -126 ∧ (precisionOf single).emax = 127 ∧
      (precisionOf single).adjust = 192) ∨
    (single = false ∧ (precisionOf single).bits = 53 ∧ (precisionOf single).emin = -1022 ∧
      (precisionOf single).emax = 1023 ∧ (precisionOf single).adjust = 1536) := by
  cases single
  · exact .inr ⟨rfl, rfl, rfl, rfl, rfl⟩
  · exact .inl ⟨rfl, rfl, rfl, rfl, rfl⟩

/-! ## What is delivered -/

/-- The value of a result is a number of this sign and magnitude. -/
def Delivers (out : Bool) (r : FpResult) (y : ℝ) : Prop :=
  ∃ (d : Dword) (m : Nat) (e : Int), r.value = some d ∧ fpValue d = .finite out m e ∧ m * (2 : ℝ) ^ e = y

theorem delivers_fpPack {out : Bool} {r : FpResult} {mag : Nat} {exp : Int} (hv : r.value = some (fpPack out mag exp))
    (hmag : 0 < mag) (hle : mag ≤ 2 ^ 53) (hlo : -1074 ≤ exp) (hhi : exp + mag.log2 ≤ 1023) :
    Delivers out r (mag * 2 ^ exp) := by
  obtain ⟨m, e, hd, he⟩ := fpValue_fpPack out hmag hle hlo hhi
  exact ⟨_, m, e, hv, hd, he⟩

/-- The exceptions of a result are `exc`, with `inexact` where its value `y` is not `x`. -/
def Raised (r : FpResult) (exc inexact : Word) (x y : ℝ) : Prop :=
  (y = x → r.exceptions = exc) ∧ (y ≠ x → r.exceptions = exc ||| inexact)

theorem raised_of_fi {r : FpResult} {fi : Bool} {exc inexact : Word} {x y : ℝ} (hfi : fi = true ↔ y ≠ x)
    (hexc : r.exceptions = exc ||| (if fi then inexact else 0)) : Raised r exc inexact x y := by
  refine ⟨fun h => ?_, fun h => ?_⟩
  · rw [hexc, if_neg fun hf => hfi.mp hf h]
    exact BitVec.or_zero
  · rw [hexc, if_pos (hfi.mpr h)]

section
variable {p : Precision} {v : Word} {free flip neg : Bool} {mag : Nat} {exp : Int}

theorem fpDeliver_overflow_enabled (h : fpRange p (fpRN v) neg mag exp = .overflow) (hoe : bit v 25 = true) :
    fpDeliver p v free flip neg mag exp =
      { value := some (fpPack (neg != flip) (roundUnbounded p (fpRN v) neg mag exp).mag
          ((roundUnbounded p (fpRN v) neg mag exp).exp - p.adjust)),
        fprf := some (fprfNormal (neg != flip)),
        exceptions := fpOX ||| fpInexact (roundUnbounded p (fpRN v) neg mag exp).fi,
        fr := (roundUnbounded p (fpRN v) neg mag exp).fr, fi := (roundUnbounded p (fpRN v) neg mag exp).fi } := by
  have hflag : fpOE v = true := hoe
  rw [fpDeliver, h]
  exact if_pos hflag

theorem fpDeliver_overflow_disabled (h : fpRange p (fpRN v) neg mag exp = .overflow) (hoe : bit v 25 = false) :
    fpDeliver p v free flip neg mag exp =
      if overflowsToInf (fpRN v) neg then
        { value := some (fpInf (neg != flip)), fprf := some (fprfInf (neg != flip)), exceptions := fpOX ||| fpXX,
          fr := free, fi := true }
      else
        { value := some (fpSigned (neg != flip) p.max), fprf := some (fprfNormal (neg != flip)),
          exceptions := fpOX ||| fpXX, fr := free, fi := true } := by
  have hflag : ¬ fpOE v = true := by rw [fpOE, hoe]; exact Bool.false_ne_true
  rw [fpDeliver, h]
  exact if_neg hflag

theorem fpDeliver_tiny_enabled (h : fpRange p (fpRN v) neg mag exp = .tiny) (hue : bit v 26 = true) :
    fpDeliver p v free flip neg mag exp =
      { value := some (fpPack (neg != flip) (roundUnbounded p (fpRN v) neg mag exp).mag
          ((roundUnbounded p (fpRN v) neg mag exp).exp + p.adjust)),
        fprf := some (fprfNormal (neg != flip)),
        exceptions := fpUX ||| fpInexact (roundUnbounded p (fpRN v) neg mag exp).fi,
        fr := (roundUnbounded p (fpRN v) neg mag exp).fr, fi := (roundUnbounded p (fpRN v) neg mag exp).fi } := by
  have hflag : fpUE v = true := hue
  rw [fpDeliver, h]
  exact if_pos hflag

theorem fpDeliver_tiny_disabled (h : fpRange p (fpRN v) neg mag exp = .tiny) (hue : bit v 26 = false) :
    fpDeliver p v free flip neg mag exp =
      { value := some (fpPack (neg != flip) (roundBounded p (fpRN v) neg mag exp).mag
          (roundBounded p (fpRN v) neg mag exp).exp),
        fprf := some (fprfFinite p (neg != flip) (roundBounded p (fpRN v) neg mag exp).mag
          (roundBounded p (fpRN v) neg mag exp).exp),
        exceptions := (if (roundBounded p (fpRN v) neg mag exp).fi then fpUX else 0) |||
          fpInexact (roundBounded p (fpRN v) neg mag exp).fi,
        fr := (roundBounded p (fpRN v) neg mag exp).fr, fi := (roundBounded p (fpRN v) neg mag exp).fi } := by
  have hflag : ¬ fpUE v = true := by rw [fpUE, hue]; exact Bool.false_ne_true
  rw [fpDeliver, h]
  exact if_neg hflag

theorem fpDeliver_inRange (h : fpRange p (fpRN v) neg mag exp = .inRange) :
    fpDeliver p v free flip neg mag exp =
      { value := some (fpPack (neg != flip) (roundUnbounded p (fpRN v) neg mag exp).mag
          (roundUnbounded p (fpRN v) neg mag exp).exp),
        fprf := some (fprfFinite p (neg != flip) (roundUnbounded p (fpRN v) neg mag exp).mag
          (roundUnbounded p (fpRN v) neg mag exp).exp),
        exceptions := fpInexact (roundUnbounded p (fpRN v) neg mag exp).fi,
        fr := (roundUnbounded p (fpRN v) neg mag exp).fr, fi := (roundUnbounded p (fpRN v) neg mag exp).fi } := by
  rw [fpDeliver, h]

end

/-- The three classes of FPRF of a finite value (R552). -/
theorem fprfFinite_of_normal {p : Precision} {out : Bool} {mag : Nat} {exp : Int} (hmag : 0 < mag)
    (h : p.emin ≤ exp + mag.log2) : fprfFinite p out mag exp = fprfNormal out := by
  rw [fprfFinite, if_neg (by omega), if_neg (by omega)]

theorem fprfFinite_of_denormal {p : Precision} {out : Bool} {mag : Nat} {exp : Int} (hmag : 0 < mag)
    (h : exp + mag.log2 < p.emin) : fprfFinite p out mag exp = if out then 0b11000 else 0b10100 := by
  rw [fprfFinite, if_neg (by omega), if_pos h]

theorem overflowsToInf_iff (rn : BitVec 2) (neg : Bool) :
    overflowsToInf rn neg = true ↔ rn = 0 ∨ (rn = 2 ∧ neg = false) ∨ (rn = 3 ∧ neg = true) := by
  rw [overflowsToInf]
  rcases rounding_cases rn with rfl | rfl | rfl | rfl <;> simp

theorem tiny_exceptions (fi : Bool) :
    (if fi then fpUX else 0) ||| fpInexact fi = 0 ||| (if fi then 0x0A000000 else 0) := by
  cases fi <;> decide

/-! ## The rounded magnitudes -/

theorem roundAt_eta (rn : BitVec 2) (neg : Bool) (mag : Nat) (exp ulp : Int) :
    roundAt rn neg mag exp ulp =
      { mag := (roundAt rn neg mag exp ulp).mag, exp := ulp, fr := (roundAt rn neg mag exp ulp).fr,
        fi := (roundAt rn neg mag exp ulp).fi } := by
  unfold roundAt
  split <;> rfl

section
variable {p : Precision} {neg : Bool} {mag : Nat} {exp : Int} {x : ℝ} (hmag : 0 < mag) (hbits : 1 ≤ p.bits)
  (hside : SameSide x (mag * 2 ^ exp) (2 ^ (exp + mag.log2 - p.bits)))
include hmag hside

/-- The leading bit of the exact value. -/
theorem SameSide.top_bounds : (2 : ℝ) ^ (exp + mag.log2) ≤ x ∧ x < 2 ^ (exp + mag.log2 + 1) := by
  obtain ⟨hlo, hhi⟩ := mag_bounds exp hmag
  exact ⟨not_lt.mp fun h => absurd ((hside.lt_zpow (by omega)).mp h) (not_lt.mpr hlo),
    (hside.lt_zpow (by omega)).mpr hhi⟩

include hbits

/-- Rounding with unbounded exponent range. -/
theorem roundUnbounded_spec (rn : BitVec 2) :
    ∃ (k : Nat) (fr fi : Bool),
      roundUnbounded p rn neg mag exp = { mag := k, exp := exp + mag.log2 - p.bits + 1, fr := fr, fi := fi } ∧
      roundsTo rn neg x (exp + mag.log2 - p.bits + 1) (k * 2 ^ (exp + mag.log2 - p.bits + 1)) ∧
      (fr = true ↔ x < k * 2 ^ (exp + mag.log2 - p.bits + 1)) ∧
      (fi = true ↔ (k : ℝ) * 2 ^ (exp + mag.log2 - p.bits + 1) ≠ x) ∧
      2 ^ (p.bits - 1) ≤ k ∧ k ≤ 2 ^ p.bits := by
  obtain ⟨hlo, hhi⟩ := hside.top_bounds hmag
  obtain ⟨hrounds, hfr, hfi⟩ := roundAt_spec (ulp := exp + mag.log2 - p.bits + 1) rn neg
    (by rwa [show exp + mag.log2 - p.bits + 1 - 1 = exp + mag.log2 - (p.bits : Int) by omega])
  refine ⟨_, _, _, ?_, hrounds, hfr, hfi, ?_, ?_⟩
  · exact roundAt_eta ..
  · obtain ⟨k, -, hdist, -⟩ := hrounds
    refine le_mag_of_le hlo ?_
    rwa [show exp + mag.log2 - ((p.bits - 1 : Nat) : Int) = exp + mag.log2 - p.bits + 1 by omega]
  · obtain ⟨k, -, hdist, -⟩ := hrounds
    refine mag_le_of_lt hhi ?_
    rwa [show exp + mag.log2 + 1 - (p.bits : Int) = exp + mag.log2 - p.bits + 1 by omega]

/-- Rounding of a tiny value as a denormalized number. -/
theorem roundBounded_spec (rn : BitVec 2) (htiny : exp + mag.log2 < p.emin) :
    ∃ (k : Nat) (fr fi : Bool),
      roundBounded p rn neg mag exp = { mag := k, exp := p.emin - p.bits + 1, fr := fr, fi := fi } ∧
      roundsTo rn neg x (p.emin - p.bits + 1) (k * 2 ^ (p.emin - p.bits + 1)) ∧
      (fr = true ↔ x < k * 2 ^ (p.emin - p.bits + 1)) ∧
      (fi = true ↔ (k : ℝ) * 2 ^ (p.emin - p.bits + 1) ≠ x) ∧ k ≤ 2 ^ (p.bits - 1) := by
  obtain ⟨hlo, hhi⟩ := hside.top_bounds hmag
  obtain ⟨hrounds, hfr, hfi⟩ := roundAt_spec (ulp := p.emin - p.bits + 1) rn neg (hside.mono (by omega))
  have hmax : max (exp + mag.log2) p.emin = p.emin := by omega
  refine ⟨_, _, _, ?_, hrounds, hfr, hfi, ?_⟩
  · rw [roundBounded, hmax]
    exact roundAt_eta ..
  · obtain ⟨k, -, hdist, -⟩ := hrounds
    refine mag_le_of_lt ((lt_zpow_iff_of_top hlo hhi p.emin).mpr htiny) ?_
    rwa [show p.emin - ((p.bits - 1 : Nat) : Int) = p.emin - p.bits + 1 by omega]

end

/-- A result in a format stands for every exact value on the same side of each multiple of half a unit of its last place. -/
theorem fpDeliver_deliversExact (single : Bool) (v : Word) (free flip neg : Bool) {mag : Nat} {exp : Int} {x : ℝ}
    (hmag : 0 < mag) (hside : SameSide x (mag * 2 ^ exp) (2 ^ (exp + mag.log2 - (precisionOf single).bits))) :
    deliversExact single v free flip neg x (fpDeliver (precisionOf single) v free flip neg mag exp) := by
  have hp := precisionOf_cases single
  obtain ⟨hlo, hhi⟩ := hside.top_bounds hmag
  obtain ⟨k, fr, fi, hr, hrounds, hfr, hfi, hklo, hkhi⟩ := roundUnbounded_spec hmag (by omega) hside (fpRN v)
  have hk53 : 2 ^ (precisionOf single).bits ≤ 2 ^ 53 := Nat.pow_le_pow_right (by omega) (by omega)
  have hkpos : 0 < k := (Nat.two_pow_pos _).trans_le hklo
  have hloglo : (precisionOf single).bits - 1 ≤ k.log2 := (Nat.le_log2 hkpos.ne').mpr hklo
  have hloghi : k.log2 ≤ (precisionOf single).bits := by
    have hlt : k < 2 ^ ((precisionOf single).bits + 1) := hkhi.trans_lt (Nat.pow_lt_pow_right (by omega) (by omega))
    have := (Nat.log2_lt hkpos.ne').mpr hlt
    omega
  have hrange : fpRange (precisionOf single) (fpRN v) neg mag exp =
      if (precisionOf single).emax < exp + mag.log2 - (precisionOf single).bits + 1 + k.log2 then .overflow
      else if exp + mag.log2 < (precisionOf single).emin then .tiny else .inRange := by
    rw [fpRange, hr]
  obtain ⟨hylo, hyhi⟩ := mag_bounds (exp + mag.log2 - (precisionOf single).bits + 1) hkpos
  have hover := zpow_le_iff_of_top hylo hyhi ((precisionOf single).emax + 1)
  have htiny := lt_zpow_iff_of_top hlo hhi (precisionOf single).emin
  generalize hres : fpDeliver (precisionOf single) v free flip neg mag exp = r
  unfold deliversExact
  intro bits emin emax adjust largest rn out signed delivers told raised normal
  have hbits : bits = (precisionOf single).bits := by cases single <;> rfl
  have hemin : emin = (precisionOf single).emin := by cases single <;> rfl
  have hemax : emax = (precisionOf single).emax := by cases single <;> rfl
  have hadjust : adjust = (precisionOf single).adjust := by cases single <;> rfl
  have hnormal : normal = some (fprfNormal out) := rfl
  have hlargest : signed largest = fpSigned out (precisionOf single).max := by
    simp only [signed, largest]
    generalize out = o
    cases o <;> cases single <;> decide
  have hinf : signed 0x7FF0000000000000 = fpInf out := by
    simp only [signed]
    generalize out = o
    cases o <;> decide
  have hzero : signed 0 = fpSigned out 0 := by
    simp only [signed]
    generalize out = o
    cases o <;> decide
  clear_value bits emin emax adjust normal
  subst hbits hemin hemax hadjust hnormal
  refine ⟨exp + mag.log2, k * 2 ^ (exp + mag.log2 - (precisionOf single).bits + 1), hlo, hhi, hrounds, fun hy hoe => ?_,
    fun hy hoe htop => ?_, fun hx hue htop => ?_, fun hx hue => ?_, fun hx hy => ?_⟩
  · have hrg : fpRange (precisionOf single) (fpRN v) neg mag exp = .overflow := by
      rw [hrange, if_pos (by have := hover.mp hy; omega)]
    rw [fpDeliver_overflow_disabled hrg hoe] at hres
    have hiff : overflowsToInf (fpRN v) neg = true ↔ (rn = 0 ∨ (rn = 2 ∧ neg = false) ∨ (rn = 3 ∧ neg = true)) :=
      overflowsToInf_iff _ neg
    by_cases hmode : overflowsToInf (fpRN v) neg = true
    · rw [if_pos hmode] at hres
      subst hres
      refine ⟨rfl, rfl, rfl, ?_⟩
      rw [if_pos (hiff.mp hmode), hinf]
      exact ⟨rfl, rfl⟩
    · rw [if_neg hmode] at hres
      subst hres
      refine ⟨rfl, rfl, rfl, ?_⟩
      rw [if_neg fun h => hmode (hiff.mpr h), hlargest]
      exact ⟨rfl, rfl⟩
  · have hy' := hover.mp hy
    have hrg : fpRange (precisionOf single) (fpRN v) neg mag exp = .overflow := by
      rw [hrange, if_pos (by omega)]
    rw [fpDeliver_overflow_enabled hrg hoe, hr] at hres
    subst hres
    refine ⟨raised_of_fi hfi rfl, ⟨hfr, hfi⟩, rfl, ?_⟩
    rw [mul_div_assoc, ← zpow_sub₀ two_ne_zero]
    exact delivers_fpPack rfl hkpos (hkhi.trans hk53) (by omega) (by omega)
  · have hx' := htiny.mp hx
    have hrg : fpRange (precisionOf single) (fpRN v) neg mag exp = .tiny := by
      rw [hrange, if_neg (by omega), if_pos hx']
    rw [fpDeliver_tiny_enabled hrg hue, hr] at hres
    subst hres
    refine ⟨raised_of_fi hfi rfl, ⟨hfr, hfi⟩, rfl, ?_⟩
    rw [mul_assoc, ← zpow_add₀ two_ne_zero]
    exact delivers_fpPack rfl hkpos (hkhi.trans hk53) (by omega) (by omega)
  · have hx' := htiny.mp hx
    have hrg : fpRange (precisionOf single) (fpRN v) neg mag exp = .tiny := by
      rw [hrange, if_neg (by omega), if_pos hx']
    obtain ⟨j, fr', fi', hd, hrounds', hfr', hfi', hjhi⟩ := roundBounded_spec hmag (by omega) hside (fpRN v) hx'
    rw [fpDeliver_tiny_disabled hrg hue, hd] at hres
    subst hres
    refine ⟨j * 2 ^ ((precisionOf single).emin - (precisionOf single).bits + 1), hrounds', raised_of_fi hfi' ?_,
      ⟨hfr', hfi'⟩, fun hz => ?_, fun hz => ?_⟩
    · exact tiny_exceptions fi'
    · obtain rfl : j = 0 := by
        rcases mul_eq_zero.mp hz with h | h
        · exact_mod_cast h
        · exact absurd h (zpow_two_pos _).ne'
      rw [hzero]
      exact ⟨rfl, rfl⟩
    · have hj : 0 < j := Nat.pos_of_ne_zero fun h => hz (by rw [h, Nat.cast_zero, zero_mul])
      have hjlog : j.log2 ≤ (precisionOf single).bits - 1 := by
        have hlt : j < 2 ^ (precisionOf single).bits :=
          hjhi.trans_lt (Nat.pow_lt_pow_right (by omega) (by omega))
        have := (Nat.log2_lt hj.ne').mpr hlt
        omega
      have hj53 : j ≤ 2 ^ 53 := hjhi.trans (Nat.pow_le_pow_right (by omega) (by omega))
      obtain ⟨hzlo, hzhi⟩ := mag_bounds ((precisionOf single).emin - (precisionOf single).bits + 1) hj
      have hden := lt_zpow_iff_of_top hzlo hzhi (precisionOf single).emin
      refine ⟨delivers_fpPack rfl hj hj53 (by omega) (by omega), fun h => ?_, fun h => ?_⟩
      · exact congrArg some (fprfFinite_of_denormal hj (hden.mp h))
      · exact congrArg some (fprfFinite_of_normal hj (not_lt.mp fun hlt => absurd (hden.mpr hlt) (not_lt.mpr h)))
  · have hx' : ¬ exp + mag.log2 < (precisionOf single).emin := fun h => absurd (htiny.mpr h) (not_lt.mpr hx)
    have hy' : ¬ (precisionOf single).emax + 1 ≤ exp + mag.log2 - (precisionOf single).bits + 1 + k.log2 :=
      fun h => absurd (hover.mpr h) (not_le.mpr hy)
    have hrg : fpRange (precisionOf single) (fpRN v) neg mag exp = .inRange := by
      rw [hrange, if_neg (by omega), if_neg hx']
    rw [fpDeliver_inRange hrg, hr] at hres
    subst hres
    refine ⟨raised_of_fi hfi ?_, ⟨hfr, hfi⟩, ?_, delivers_fpPack rfl hkpos (hkhi.trans hk53) (by omega) (by omega)⟩
    · cases fi <;> rfl
    · have hemin : (precisionOf single).emin ≤ exp + mag.log2 - (precisionOf single).bits + 1 + k.log2 := by omega
      exact congrArg some (fprfFinite_of_normal hkpos hemin)

/-- Settles O38: an exact magnitude stands for itself. -/
theorem overflowAndUnderflow : Obligations.OverflowAndUnderflow :=
  fun single v free flip neg _ _ hmag => fpDeliver_deliversExact single v free flip neg hmag (SameSide.refl _ _)

end Sys2Proof.Machine


/-! SUPPORT. The exact results (45_float_arith.md R551 to R558, R560 to R577). The idea: what an operation gives before rounding
stands for a real number, exactly or by a sticky bit far below every rounding position, and `fpDeliver_deliversExact` says
how such a number is delivered. -/

namespace Sys2Proof.Machine

open Laws

/-! ## Values as reals -/

/-- A magnitude with its sign. -/
noncomputable def signedReal (neg : Bool) (x : ℝ) : ℝ := if neg then -x else x

theorem signedReal_inj {n m : Bool} {x y : ℝ} (hx : 0 < x) (hy : 0 < y) (h : signedReal n x = signedReal m y) :
    n = m ∧ x = y := by
  cases n <;> cases m <;> simp [signedReal] at h ⊢ <;> linarith

theorem signedReal_ne_zero {n : Bool} {x : ℝ} (hx : 0 < x) : signedReal n x ≠ 0 := by
  cases n <;> simp [signedReal, hx.ne']

theorem signedReal_mul (n m : Bool) (x y : ℝ) : signedReal n x * signedReal m y = signedReal (n != m) (x * y) := by
  cases n <;> cases m <;> simp [signedReal]

theorem signedReal_div (n m : Bool) (x y : ℝ) : signedReal n x / signedReal m y = signedReal (n != m) (x / y) := by
  cases n <;> cases m <;> simp [signedReal, neg_div, div_neg]

/-- The real number a value is; 0 for what is no number. -/
noncomputable def FpValue.real : FpValue → ℝ
  | .finite neg m e => signedReal neg (m * 2 ^ e)
  | _ => 0

/-- The sign of a value that is no NaN. -/
def FpValue.sign : FpValue → Bool
  | .nan _ => false
  | .inf n => n
  | .zero n => n
  | .finite n _ _ => n

/-- The value is a zero or a finite number. -/
def FpValue.IsNumber (v : FpValue) : Prop := (∃ n, v = .zero n) ∨ ∃ n m e, 0 < m ∧ v = .finite n m e

/-- The classes of a pattern, with its sign and the size of a finite magnitude. -/
theorem fpValue_classes (d : Dword) :
    (∃ q, fpValue d = .nan q) ∨ fpValue d = .inf (bit d 0) ∨ fpValue d = .zero (bit d 0) ∨
      ∃ m e, 0 < m ∧ m < 2 ^ 53 ∧ fpValue d = .finite (bit d 0) m e := by
  have hf := fpFraction_lt d
  rcases fpValue_cases d with ⟨-, -, hv⟩ | ⟨-, -, hv⟩ | ⟨-, -, hv⟩ | ⟨-, hne, hv⟩ | ⟨-, -, hv⟩
  · exact .inr (.inl hv)
  · exact .inl ⟨_, hv⟩
  · exact .inr (.inr (.inl hv))
  · exact .inr (.inr (.inr ⟨_, _, by omega, by omega, hv⟩))
  · exact .inr (.inr (.inr ⟨_, _, by omega, by omega, hv⟩))

/-- A pattern that is no NaN and no infinity is a number with the sign of the pattern. -/
theorem isNumber_fpValue {d : Dword} (hnan : (fpValue d).isNan = false) (hinf : (fpValue d).isInf = false) :
    (fpValue d).IsNumber ∧ (fpValue d).sign = bit d 0 := by
  rcases fpValue_classes d with ⟨q, hv⟩ | hv | hv | ⟨m, e, hm, -, hv⟩ <;> rw [hv] at hnan hinf ⊢
  · exact absurd hnan (by simp [FpValue.isNan])
  · exact absurd hinf (by simp [FpValue.isInf])
  · exact ⟨.inl ⟨_, rfl⟩, rfl⟩
  · exact ⟨.inr ⟨_, _, _, hm, rfl⟩, rfl⟩

theorem inf_of_isInf {d : Dword} (h : (fpValue d).isInf = true) : fpValue d = .inf (bit d 0) := by
  rcases fpValue_classes d with ⟨q, hv⟩ | hv | hv | ⟨m, e, -, -, hv⟩
  · exact absurd h (by simp [hv, FpValue.isInf])
  · exact hv
  · exact absurd h (by simp [hv, FpValue.isInf])
  · exact absurd h (by simp [hv, FpValue.isInf])

theorem FpValue.IsNumber.negated {v : FpValue} (h : v.IsNumber) :
    v.negated.IsNumber ∧ v.negated.real = -v.real ∧ v.negated.sign = !v.sign := by
  rcases h with ⟨n, rfl⟩ | ⟨n, m, e, hm, rfl⟩
  · exact ⟨.inl ⟨_, rfl⟩, neg_zero.symm, rfl⟩
  · exact ⟨.inr ⟨_, _, _, hm, rfl⟩, by cases n <;> simp [FpValue.negated, FpValue.real, signedReal], rfl⟩

/-! ## What an exact result stands for -/

/-- The result before rounding stands for `X`, well enough to be rounded to `bits` bits; a zero has the sign `z`. -/
def Represents (bits : Nat) (r : FpExact) (X : ℝ) (z : Bool) : Prop :=
  match r with
  | .finite n m e => 0 < m ∧ ∃ x, X = signedReal n x ∧ SameSide x (m * 2 ^ e) (2 ^ (e + m.log2 - bits))
  | .zero n => X = 0 ∧ n = z
  | _ => False

theorem represents_finite (bits : Nat) (n : Bool) {m : Nat} (e : Int) (z : Bool) (hm : 0 < m) :
    Represents bits (.finite n m e) (signedReal n (m * 2 ^ e)) z :=
  ⟨hm, _, rfl, SameSide.refl _ _⟩

/-- A number stands for itself. -/
theorem FpValue.IsNumber.represents {v : FpValue} (h : v.IsNumber) (bits : Nat) :
    Represents bits v.exact v.real v.sign := by
  rcases h with ⟨n, rfl⟩ | ⟨n, m, e, hm, rfl⟩
  · exact ⟨rfl, rfl⟩
  · exact represents_finite bits n e n hm

/-! ## Sums -/

theorem scaled_mag (m : Nat) {e k : Int} (h : k ≤ e) : ((m * 2 ^ (e - k).toNat : Nat) : ℝ) * 2 ^ k = m * 2 ^ e := by
  have hpow := zpow_two_add_natCast k (e - k).toNat
  rw [show k + ((e - k).toNat : Int) = e by omega] at hpow
  rw [hpow]
  push_cast
  ring

/-- The sum of two finite numbers. -/
theorem addFinite_represents (bits : Nat) (rn : BitVec 2) (sa sb : Bool) {ma mb : Nat} (ea eb : Int) (ha : 0 < ma)
    (hb : 0 < mb) :
    Represents bits (addFinite rn sa ma ea sb mb eb) (signedReal sa (ma * 2 ^ ea) + signedReal sb (mb * 2 ^ eb))
      (if sa = sb then sa else rn == 3) := by
  rw [← scaled_mag ma (k := min ea eb) (by omega), ← scaled_mag mb (k := min ea eb) (by omega), addFinite]
  have hapos : 0 < ma * 2 ^ (ea - min ea eb).toNat := Nat.mul_pos ha (Nat.two_pow_pos _)
  have hbpos : 0 < mb * 2 ^ (eb - min ea eb).toNat := Nat.mul_pos hb (Nat.two_pow_pos _)
  generalize ma * 2 ^ (ea - min ea eb).toNat = a at *
  generalize mb * 2 ^ (eb - min ea eb).toNat = b at *
  generalize min ea eb = e
  have hsum {n : Bool} {m : Nat} {X : ℝ} (hm : 0 < m) (hX : X = signedReal n (m * 2 ^ e)) (z : Bool) :
      Represents bits (.finite n m e) X z := hX ▸ represents_finite bits n e z hm
  split
  · next h =>
    subst h
    refine hsum (by omega) ?_ _
    cases sa <;> simp [signedReal] <;> ring
  · next h =>
    split
    · next hab =>
      subst hab
      refine ⟨?_, rfl⟩
      cases sa <;> cases sb <;> simp_all [signedReal]
    · split
      · next hlt =>
        refine hsum (by omega) ?_ _
        rw [Nat.cast_sub hlt.le]
        cases sa <;> cases sb <;> simp_all [signedReal] <;> ring
      · next hab hlt =>
        refine hsum (by omega) ?_ _
        rw [Nat.cast_sub (by omega)]
        cases sa <;> cases sb <;> simp_all [signedReal] <;> ring

/-- The sum of two numbers. -/
theorem fpAdd_represents (bits : Nat) (rn : BitVec 2) {a b : FpValue} (ha : a.IsNumber) (hb : b.IsNumber) :
    Represents bits (fpAdd rn a b) (a.real + b.real) (if a.sign = b.sign then a.sign else rn == 3) := by
  rcases ha with ⟨x, rfl⟩ | ⟨x, m, e, hm, rfl⟩ <;> rcases hb with ⟨y, rfl⟩ | ⟨y, k, f, hk, rfl⟩
  · exact ⟨add_zero 0, rfl⟩
  · rw [show FpValue.real (.zero x) = 0 from rfl, zero_add]
    exact represents_finite bits y f _ hk
  · rw [show FpValue.real (.zero y) = 0 from rfl, add_zero]
    exact represents_finite bits x e _ hm
  · exact addFinite_represents bits rn x y e f hm hk

/-! ## Products -/

/-- The product of two numbers is a number. -/
theorem productOf_isNumber {a c : FpValue} (ha : a.IsNumber) (hc : c.IsNumber) :
    (productOf a c).IsNumber ∧ (productOf a c).real = a.real * c.real ∧ (productOf a c).sign = (a.sign != c.sign) ∧
      timesInvalid a c = false := by
  rcases ha with ⟨x, rfl⟩ | ⟨x, m, e, hm, rfl⟩ <;> rcases hc with ⟨y, rfl⟩ | ⟨y, k, f, hk, rfl⟩
  · exact ⟨.inl ⟨_, rfl⟩, (mul_zero _).symm, rfl, rfl⟩
  · exact ⟨.inl ⟨_, rfl⟩, (zero_mul _).symm, rfl, rfl⟩
  · exact ⟨.inl ⟨_, rfl⟩, (mul_zero _).symm, rfl, rfl⟩
  · refine ⟨.inr ⟨_, _, _, Nat.mul_pos hm hk, rfl⟩, ?_, rfl, rfl⟩
    rw [productOf, FpValue.real, FpValue.real, FpValue.real, signedReal_mul, Nat.cast_mul, zpow_add₀ two_ne_zero]
    congr 1
    ring

/-! ## Sticky bits -/

/-- An odd magnitude that stands for a value between its neighbours is on the same side of every even one. -/
theorem sameSide_of_sticky {x : ℝ} {m : Nat} {E a : Int} (heven : m % 2 = 0 → x = m * 2 ^ E)
    (hodd : m % 2 = 1 → ((m : ℝ) - 1) * 2 ^ E < x ∧ x < (m + 1) * 2 ^ E) (ha : E + 1 ≤ a) :
    SameSide x (m * 2 ^ E) (2 ^ a) := by
  rcases Nat.mod_two_eq_zero_or_one m with h | h
  · rw [heven h]
    exact SameSide.refl _ _
  · obtain ⟨hlo, hhi⟩ := hodd h
    refine SameSide.mono (a := E + 1) (fun j => ?_) ha
    have hpos := zpow_two_pos E
    have hj : (j : ℝ) * 2 ^ (E + 1) = (2 * j : ℤ) * 2 ^ E := by
      rw [zpow_add₀ two_ne_zero, zpow_one]
      push_cast
      ring
    rw [hj]
    rcases lt_or_gt_of_ne (show (m : ℤ) ≠ 2 * j by omega) with hlt | hgt
    · have hstep : ((m : ℝ) + 1) * 2 ^ E ≤ (2 * j : ℤ) * 2 ^ E :=
        mul_le_mul_of_nonneg_right (by exact_mod_cast hlt) hpos.le
      have hm : (m : ℝ) * 2 ^ E < (2 * j : ℤ) * 2 ^ E := by linarith
      exact ⟨iff_of_true (hhi.trans_le hstep) hm, iff_of_false (not_lt.mpr (hhi.trans_le hstep).le) (not_lt.mpr hm.le)⟩
    · have hstep : ((2 * j : ℤ) : ℝ) * 2 ^ E ≤ ((m : ℝ) - 1) * 2 ^ E :=
        mul_le_mul_of_nonneg_right (by rw [le_sub_iff_add_le]; exact_mod_cast hgt) hpos.le
      have hm : ((2 * j : ℤ) : ℝ) * 2 ^ E < m * 2 ^ E := by linarith
      exact ⟨iff_of_false (not_lt.mpr (hstep.trans_lt hlo).le) (not_lt.mpr hm.le), iff_of_true (hstep.trans_lt hlo) hm⟩


/-- A magnitude cut to a whole number with a sticky bit stands for the value it was cut from. -/
theorem sticky_represents {bits : Nat} (hbits : bits ≤ 53) (n : Bool) {m : Nat} (E : Int) {t : ℝ}
    (hlo : ((m / 2 : Nat) : ℝ) ≤ t) (hhi : t < (m / 2 : Nat) + 1) (hodd : m % 2 = 1 ↔ ((m / 2 : Nat) : ℝ) ≠ t)
    (hbig : 2 ^ 54 ≤ m / 2) (z : Bool) : Represents bits (.finite n m E) (signedReal n (t * 2 ^ (E + 1))) z := by
  have hlog : 55 ≤ m.log2 := (Nat.le_log2 (by omega)).mpr (by omega)
  have htwo : (2 : ℝ) ^ (E + 1) = 2 * 2 ^ E := by rw [add_comm, zpow_one_add₀ two_ne_zero]
  have hpos := zpow_two_pos E
  refine ⟨by omega, _, rfl, sameSide_of_sticky (fun heven => ?_) (fun h => ?_) (by omega)⟩
  · have ht : ((m / 2 : Nat) : ℝ) = t := by
      by_contra hne
      exact absurd (hodd.mpr hne) (by omega)
    have hm : (m : ℝ) = 2 * (m / 2 : Nat) := by exact_mod_cast (show m = 2 * (m / 2) by omega)
    rw [htwo, ← ht, hm]
    ring
  · have hm : (m : ℝ) = 2 * (m / 2 : Nat) + 1 := by exact_mod_cast (show m = 2 * (m / 2) + 1 by omega)
    have hne : ((m / 2 : Nat) : ℝ) < t := lt_of_le_of_ne hlo (hodd.mp h)
    have hlow : ((m / 2 : Nat) : ℝ) * 2 ^ E < t * 2 ^ E := mul_lt_mul_of_pos_right hne hpos
    have hhigh : t * 2 ^ E < ((m / 2 : Nat) + 1) * 2 ^ E := mul_lt_mul_of_pos_right hhi hpos
    rw [htwo, hm]
    constructor <;> nlinarith

/-- The quotient of two finite numbers. -/
theorem divFinite_represents {bits : Nat} (hbits : bits ≤ 53) (x y : Bool) {ma mb : Nat} (ea eb : Int) (ha : 0 < ma)
    (hb : 0 < mb) (hb53 : mb < 2 ^ 53) (z : Bool) :
    Represents bits (divFinite (x != y) ma ea mb eb) (signedReal x (ma * 2 ^ ea) / signedReal y (mb * 2 ^ eb)) z := by
  obtain ⟨m, hm, hlo, hhi, hodd⟩ := divFinite_spec (x != y) ma ea eb hb
  have hbpos : (0 : ℝ) < mb := Nat.cast_pos.mpr hb
  have hquot : (ma * 2 ^ ea / (mb * 2 ^ eb) : ℝ) = ma * 2 ^ 128 / mb * 2 ^ (ea - eb - 129 + 1) := by
    rw [show ea - eb - 129 + 1 = ea - eb - (128 : Nat) by omega, zpow_sub₀ two_ne_zero, zpow_sub₀ two_ne_zero, zpow_natCast]
    field_simp
  rw [hm, signedReal_div, hquot]
  refine sticky_represents hbits _ _ ?_ ?_ (hodd.trans (not_congr ?_)) ?_ z
  · rw [le_div_iff₀ hbpos]
    exact_mod_cast hlo
  · rw [div_lt_iff₀ hbpos]
    exact_mod_cast hhi
  · rw [eq_div_iff hbpos.ne']
    exact_mod_cast Iff.rfl
  · by_contra hsmall
    have hprod : (m / 2 + 1) * mb ≤ 2 ^ 54 * 2 ^ 53 := Nat.mul_le_mul (by omega) hb53.le
    omega

/-- The quotient of two numbers, the divisor not 0. -/
theorem fpDiv_represents {bits : Nat} (hbits : bits ≤ 53) {a : FpValue} (ha : a.IsNumber) {y : Bool} {mb : Nat} {eb : Int}
    (hb : 0 < mb) (hb53 : mb < 2 ^ 53) :
    Represents bits (fpDiv a (.finite y mb eb)) (a.real / (FpValue.finite y mb eb).real) (a.sign != y) := by
  rcases ha with ⟨x, rfl⟩ | ⟨x, m, e, hm, rfl⟩
  · exact ⟨zero_div _, rfl⟩
  · exact divFinite_represents hbits x y e eb hm hb hb53 _

/-- The root of a positive finite number. -/
theorem sqrtFinite_represents {bits : Nat} (hbits : bits ≤ 53) {mag : Nat} (exp : Int) (hmag : 0 < mag)
    (hmag53 : mag < 2 ^ 53) (z : Bool) : Represents bits (sqrtFinite mag exp) (Real.sqrt (mag * 2 ^ exp)) z := by
  obtain ⟨m, v, e, hm, hv, hlo, hhi, hodd⟩ := sqrtFinite_spec exp (show mag < 2 ^ 131 by omega)
  have hvpos : 0 < v := by omega
  have hroot : Real.sqrt (mag * 2 ^ exp) = Real.sqrt (v * 2 ^ 128) * 2 ^ (e - 65 + 1) := by
    have hsq : (mag * 2 ^ exp : ℝ) = v * 2 ^ 128 * (2 ^ (e - 65 + 1)) ^ 2 := by
      have hpow : ((2 : ℝ) ^ (e - 65 + 1)) ^ 2 * 2 ^ 128 = 2 ^ (2 * e) := by
        rw [← zpow_natCast, ← zpow_natCast, ← zpow_mul, ← zpow_add₀ two_ne_zero]
        congr 1
        push_cast
        ring
      rw [mul_assoc, mul_comm ((2 : ℝ) ^ 128), hpow]
      rcases hv with ⟨rfl, rfl⟩ | ⟨rfl, rfl⟩
      · rfl
      · rw [zpow_add₀ two_ne_zero]
        push_cast
        ring
    rw [hsq, Real.sqrt_mul (by positivity), Real.sqrt_sq (zpow_two_pos _).le]
  have hsq : (0 : ℝ) ≤ v * 2 ^ 128 := by positivity
  rw [hm, hroot]
  refine sticky_represents hbits false _ ?_ ?_ (hodd.trans (not_congr ?_)) ?_ z
  · rw [Real.le_sqrt (Nat.cast_nonneg _) hsq, sq]
    exact_mod_cast hlo
  · rw [Real.sqrt_lt' (by positivity), sq]
    exact_mod_cast hhi
  · rw [eq_comm, eq_comm (a := ((m / 2 : Nat) : ℝ)), Real.sqrt_eq_iff_mul_self_eq hsq (Nat.cast_nonneg _)]
    exact_mod_cast Iff.rfl
  · by_contra hsmall
    have hprod : (m / 2 + 1) * (m / 2 + 1) ≤ 2 ^ 54 * 2 ^ 54 := Nat.mul_le_mul (by omega) (by omega)
    omega

/-! ## Delivering them -/

/-- A result without exception: value, FPRF, FR and FI. -/
def Exactly (d : Dword) (fprf : BitVec 5) (r : FpResult) : Prop :=
  r.value = some d ∧ r.fprf = some fprf ∧ r.exceptions = 0 ∧ r.fr = false ∧ r.fi = false

/-- An infinity of this sign. -/
def IsInfinity (neg : Bool) : FpResult → Prop :=
  Exactly (if neg then 0xFFF0000000000000 else 0x7FF0000000000000) (if neg then 0b01001 else 0b00101)

/-- A zero of this sign. -/
def IsZeroResult (neg : Bool) : FpResult → Prop :=
  Exactly (if neg then 0x8000000000000000 else 0) (if neg then 0b10010 else 0b00010)

/-- The result delivers the exact real number, rounded once; a zero has the sign `z`. -/
def Gives (v : Word) (free one flip z : Bool) (exact : ℝ) (r : FpResult) : Prop :=
  (∀ (neg : Bool) (x : ℝ), 0 < x → exact = (if neg then -x else x) → deliversExact one v free flip neg x r) ∧
    (exact = 0 → IsZeroResult z r)

section
variable {v : Word} {free : Bool} {ds : List Dword} {imz : Bool}
  (hds : (ds.any fun d => (fpValue d).isNan) = false)
include hds

/-- Without a NaN operand the exact result decides. -/
theorem fpArith_of_no_nan (p : Precision) (flip : Bool) (e : FpExact) :
    fpArith p v free flip ds imz e =
      match fpFlipped flip e with
      | .invalid vx => fpInvalid v vx fpQnan
      | .zeroDivide n => fpZeroDivide v n
      | .inf n => fpExactResult (fpInf n) (fprfInf n)
      | .zero n => fpExactResult (fpSigned n 0) (fprfFinite p n 0 0)
      | .finite n m e => fpDeliver p v free flip n m e := by
  rw [fpArith, hds]
  rfl

theorem isInfinity_of_inf (p : Precision) (flip n : Bool) :
    IsInfinity (n != flip) (fpArith p v free flip ds imz (.inf n)) := by
  rw [fpArith_of_no_nan hds]
  cases n <;> cases flip <;> exact ⟨rfl, rfl, rfl, rfl, rfl⟩

theorem isZero_of_zero (p : Precision) (flip n : Bool) :
    IsZeroResult (n != flip) (fpArith p v free flip ds imz (.zero n)) := by
  rw [fpArith_of_no_nan hds]
  cases n <;> cases flip <;> exact ⟨rfl, rfl, rfl, rfl, rfl⟩

/-- What stands for a real number is delivered as that number. -/
theorem gives_of_represents {one flip z : Bool} {e : FpExact} {X : ℝ}
    (h : Represents (precisionOf one).bits e X z) :
    Gives v free one flip (z != flip) X (fpArith (precisionOf one) v free flip ds imz e) := by
  cases e with
  | finite n m k =>
    obtain ⟨hm, x, rfl, hside⟩ := h
    have hx : 0 < x := hside.pos_iff.mpr (mul_pos (Nat.cast_pos.mpr hm) (zpow_two_pos k))
    refine ⟨fun neg y hy hX => ?_, fun h0 => absurd h0 (signedReal_ne_zero hx)⟩
    obtain ⟨rfl, rfl⟩ := signedReal_inj hx hy hX
    rw [fpArith_of_no_nan hds]
    exact fpDeliver_deliversExact one v free flip n hm hside
  | zero n =>
    obtain ⟨rfl, rfl⟩ := h
    refine ⟨fun neg y hy hX => ?_, fun _ => isZero_of_zero hds _ flip n⟩
    cases neg <;> simp at hX <;> linarith
  | _ => exact absurd h id

end

/-- `fcfid` delivers as an exact result in double format does: no 64-bit integer overflows or is tiny. -/
theorem fromInteger_eq (v : Word) (free : Bool) {b : Dword} (hb : b ≠ 0) :
    fromInteger v b = fpDeliver (precisionOf false) v free false (bit b 0) b.toInt.natAbs 0 := by
  have hpos : 0 < b.toInt.natAbs := Int.natAbs_pos.mpr fun h => hb (BitVec.toInt_inj.mp (h.trans (by decide)))
  have hle : b.toInt.natAbs ≤ 2 ^ 63 := by
    have h1 := b.toInt_lt
    have h2 := b.le_toInt
    omega
  have hlog : b.toInt.natAbs.log2 ≤ 63 := by
    have hlt := (Nat.log2_lt hpos.ne').mpr (show b.toInt.natAbs < 2 ^ 64 by omega)
    omega
  obtain ⟨k, fr, fi, hr, -, -, -, hklo, hkhi⟩ := roundUnbounded_spec (p := .double) (neg := bit b 0) hpos (by decide)
    (SameSide.refl _ _) (fpRN v)
  have hkpos : 0 < k := (Nat.two_pow_pos _).trans_le hklo
  have hklog : 52 ≤ k.log2 := (Nat.le_log2 hkpos.ne').mpr hklo
  have hklog' : k.log2 ≤ 53 := by
    have hlt := (Nat.log2_lt hkpos.ne').mpr (hkhi.trans_lt (show 2 ^ 53 < 2 ^ 54 by omega))
    omega
  have hbits : (Precision.double.bits : Int) = 53 := rfl
  have hemax : Precision.double.emax = 1023 := rfl
  have hemin : Precision.double.emin = -1022 := rfl
  have hrange : fpRange .double (fpRN v) (bit b 0) b.toInt.natAbs 0 = .inRange := by
    rw [fpRange, hr]
    dsimp only
    rw [if_neg (by omega), if_neg (by omega)]
  have hout : (bit b 0 != false) = bit b 0 := Bool.bne_false _
  rw [show precisionOf false = Precision.double from rfl, fpDeliver_inRange hrange, fromInteger, if_neg hb, hr, hout]
  dsimp only
  rw [fprfFinite_of_normal hkpos (by omega), hr]

theorem toInt_eq_signedReal (b : Dword) : (b.toInt : ℝ) = signedReal (bit b 0) ((b.toInt.natAbs : ℝ) * 2 ^ (0 : Int)) := by
  have hmsb : bit b 0 = decide (b.toInt < 0) := by
    rw [← BitVec.msb_eq_toInt]
    rfl
  have hcast : ((b.toInt.natAbs : ℝ)) = ((b.toInt.natAbs : ℤ) : ℝ) := rfl
  rw [hmsb, zpow_zero, mul_one, signedReal, hcast]
  by_cases h : b.toInt < 0
  · rw [if_pos (by simpa using h)]
    exact_mod_cast (show b.toInt = -(b.toInt.natAbs : ℤ) by omega)
  · rw [if_neg (by simpa using h)]
    exact_mod_cast (show b.toInt = (b.toInt.natAbs : ℤ) by omega)

/-- `fcfid` delivers its integer. -/
theorem fromInteger_gives (v : Word) (free : Bool) (b : Dword) :
    Gives v free false false false (b.toInt : ℝ) (fromInteger v b) := by
  by_cases hb : b = 0
  · subst hb
    refine ⟨fun neg x hx h => ?_, fun _ => ⟨rfl, rfl, rfl, rfl, rfl⟩⟩
    cases neg <;> simp at h <;> linarith
  · have hpos : 0 < b.toInt.natAbs := Int.natAbs_pos.mpr fun h => hb (BitVec.toInt_inj.mp (h.trans (by decide)))
    have hx : (0 : ℝ) < (b.toInt.natAbs : ℝ) * 2 ^ (0 : Int) := mul_pos (Nat.cast_pos.mpr hpos) (zpow_two_pos 0)
    rw [toInt_eq_signedReal, fromInteger_eq v free hb]
    refine ⟨fun neg y hy h => ?_, fun h => absurd h (signedReal_ne_zero hx)⟩
    obtain ⟨hneg, rfl⟩ := signedReal_inj hx hy h
    rw [← hneg]
    exact fpDeliver_deliversExact false v free false (bit b 0) hpos (SameSide.refl _ _)

/-! ## Infinite operands -/

theorem fpAdd_inf_left (rn : BitVec 2) (x : Bool) {b : FpValue} (hb : b.IsNumber) : fpAdd rn (.inf x) b = .inf x := by
  rcases hb with ⟨y, rfl⟩ | ⟨y, m, e, -, rfl⟩ <;> rfl

theorem fpAdd_inf_right (rn : BitVec 2) {a : FpValue} (ha : a.IsNumber) (y : Bool) : fpAdd rn a (.inf y) = .inf y := by
  rcases ha with ⟨x, rfl⟩ | ⟨x, m, e, -, rfl⟩ <;> rfl

theorem fpAdd_inf_inf (rn : BitVec 2) {x y : Bool} (h : x = y) : fpAdd rn (.inf x) (.inf y) = .inf x :=
  if_pos h

theorem fpDiv_inf_left (x : Bool) {b : FpValue} (hb : b.IsNumber) : fpDiv (.inf x) b = .inf (x != b.sign) := by
  rcases hb with ⟨y, rfl⟩ | ⟨y, m, e, -, rfl⟩ <;> rfl

theorem fpDiv_inf_right {a : FpValue} (ha : a.IsNumber) (y : Bool) : fpDiv a (.inf y) = .zero (a.sign != y) := by
  rcases ha with ⟨x, rfl⟩ | ⟨x, m, e, -, rfl⟩ <;> rfl

/-- A pattern that is no NaN and no zero. -/
theorem nonzero_classes {d : Dword} (hnan : (fpValue d).isNan = false) (hzero : (fpValue d).isZero = false) :
    fpValue d = .inf (bit d 0) ∨ ∃ m e, fpValue d = .finite (bit d 0) m e := by
  rcases fpValue_classes d with ⟨q, hv⟩ | hv | hv | ⟨m, e, -, -, hv⟩
  · exact absurd hnan (by simp [hv, FpValue.isNan])
  · exact .inl hv
  · exact absurd hzero (by simp [hv, FpValue.isZero])
  · exact .inr ⟨m, e, hv⟩

/-- An infinite factor beside one that is no NaN and no zero makes an infinite product. -/
theorem productOf_infinite {a b : Dword}
    (h : (fpValue a).isInf = true ∧ (fpValue b).isNan = false ∧ (fpValue b).isZero = false ∨
      ((fpValue a).isNan = false ∧ (fpValue a).isZero = false) ∧ (fpValue b).isInf = true) :
    productOf (fpValue a) (fpValue b) = .inf (bit a 0 != bit b 0) ∧ timesInvalid (fpValue a) (fpValue b) = false ∧
      (fpValue a).isNan = false ∧ (fpValue b).isNan = false := by
  rcases h with ⟨ha, hnan, hzero⟩ | ⟨⟨hnan, hzero⟩, hb⟩
  · rw [inf_of_isInf ha]
    rcases nonzero_classes hnan hzero with hv | ⟨m, e, hv⟩ <;> rw [hv] <;> exact ⟨rfl, rfl, rfl, rfl⟩
  · rw [inf_of_isInf hb]
    rcases nonzero_classes hnan hzero with hv | ⟨m, e, hv⟩ <;> rw [hv] <;> exact ⟨rfl, rfl, rfl, rfl⟩

/-! ## O39 -/

theorem no_nan_pair {a b : Dword} (ha : (fpValue a).isNan = false) (hb : (fpValue b).isNan = false) :
    ([a, b].any fun d => (fpValue d).isNan) = false := by
  simp [ha, hb]

theorem no_nan_triple {a b c : Dword} (ha : (fpValue a).isNan = false) (hb : (fpValue b).isNan = false)
    (hc : (fpValue c).isNan = false) : ([a, b, c].any fun d => (fpValue d).isNan) = false := by
  simp [ha, hb, hc]

theorem no_nan_single {b : Dword} (hb : (fpValue b).isNan = false) : ([b].any fun d => (fpValue d).isNan) = false := by
  simp [hb]

theorem isNan_of_isInf {d : Dword} (h : (fpValue d).isInf = true) : (fpValue d).isNan = false := by
  rw [inf_of_isInf h]
  rfl

/-- The third operand of a multiply-add, as it is added. -/
theorem addend_isNumber {b : FpValue} (hb : b.IsNumber) (minus : Bool) :
    (if minus then b.negated else b).IsNumber ∧ (if minus then b.negated else b).real = (if minus then -b.real else b.real) ∧
      (if minus then b.negated else b).sign = (b.sign != minus) := by
  obtain ⟨hnum, hreal, hsign⟩ := hb.negated
  cases minus
  · exact ⟨hb, rfl, (Bool.bne_false _).symm⟩
  · exact ⟨hnum, hreal, by rw [if_pos rfl, hsign]; cases b.sign <;> rfl⟩

section
variable (v : Word) (free one : Bool) {a b : Dword} (ha : (fpValue a).isNan = false ∧ (fpValue a).isInf = false)
  (hb : (fpValue b).isNan = false ∧ (fpValue b).isInf = false)

/-- The sign of an exact zero sum (R558 step 1e). -/
def zeroSumSign (v : Word) (m n : Bool) : Bool := if m = n then m else slice v 30 2 == 3

include ha hb

theorem add_gives : Gives v free one false (zeroSumSign v (bit a 0) (bit b 0)) ((fpValue a).real + (fpValue b).real)
    (arith2 (precisionOf one) .add v free a b) := by
  obtain ⟨hna, hsa⟩ := isNumber_fpValue ha.1 ha.2
  obtain ⟨hnb, hsb⟩ := isNumber_fpValue hb.1 hb.2
  rw [← Bool.bne_false (zeroSumSign _ _ _), ← hsa, ← hsb]
  exact gives_of_represents (no_nan_pair ha.1 hb.1) (fpAdd_represents _ (fpRN v) hna hnb)

theorem sub_gives : Gives v free one false (zeroSumSign v (bit a 0) (!bit b 0)) ((fpValue a).real - (fpValue b).real)
    (arith2 (precisionOf one) .sub v free a b) := by
  obtain ⟨hna, hsa⟩ := isNumber_fpValue ha.1 ha.2
  obtain ⟨hnb, hsb⟩ := isNumber_fpValue hb.1 hb.2
  obtain ⟨hneg, hreal, hsign⟩ := hnb.negated
  rw [← Bool.bne_false (zeroSumSign _ _ _), ← hsa, ← hsb, ← hsign, sub_eq_add_neg, ← hreal]
  exact gives_of_represents (no_nan_pair ha.1 hb.1) (fpAdd_represents _ (fpRN v) hna hneg)

theorem mul_gives : Gives v free one false (bit a 0 != bit b 0) ((fpValue a).real * (fpValue b).real)
    (arith2 (precisionOf one) .mul v free a b) := by
  obtain ⟨hna, hsa⟩ := isNumber_fpValue ha.1 ha.2
  obtain ⟨hnb, hsb⟩ := isNumber_fpValue hb.1 hb.2
  obtain ⟨hnum, hreal, hsign, htimes⟩ := productOf_isNumber hna hnb
  rw [← Bool.bne_false (bit a 0 != bit b 0), ← hsa, ← hsb, ← hsign, ← hreal]
  refine gives_of_represents (no_nan_pair ha.1 hb.1) ?_
  rw [FpOp2.exact, fpMul, htimes]
  exact hnum.represents _

theorem div_gives (h0 : (fpValue b).real ≠ 0) :
    Gives v free one false (bit a 0 != bit b 0) ((fpValue a).real / (fpValue b).real)
      (arith2 (precisionOf one) .div v free a b) := by
  obtain ⟨hna, hsa⟩ := isNumber_fpValue ha.1 ha.2
  have hbits : (precisionOf one).bits ≤ 53 := by cases one <;> decide
  rcases fpValue_classes b with ⟨q, hv⟩ | hv | hv | ⟨m, e, hm, hm53, hv⟩
  · exact absurd hb.1 (by simp [hv, FpValue.isNan])
  · exact absurd hb.2 (by simp [hv, FpValue.isInf])
  · exact absurd (hv ▸ rfl) h0
  · rw [← Bool.bne_false (bit a 0 != bit b 0), ← hsa]
    refine gives_of_represents (no_nan_pair ha.1 hb.1) ?_
    rw [FpOp2.exact, hv]
    exact fpDiv_represents hbits hna hm hm53

theorem mulAdd_gives (minus flip : Bool) {c : Dword} (hc : (fpValue c).isNan = false ∧ (fpValue c).isInf = false) :
    Gives v free one flip (zeroSumSign v (bit a 0 != bit c 0) (bit b 0 != minus) != flip)
      ((fpValue a).real * (fpValue c).real + (if minus then -(fpValue b).real else (fpValue b).real))
      (arith3 (precisionOf one) minus flip v free a c b) := by
  obtain ⟨hna, hsa⟩ := isNumber_fpValue ha.1 ha.2
  obtain ⟨hnb, hsb⟩ := isNumber_fpValue hb.1 hb.2
  obtain ⟨hnc, hsc⟩ := isNumber_fpValue hc.1 hc.2
  obtain ⟨hnum, hreal, hsign, htimes⟩ := productOf_isNumber hna hnc
  obtain ⟨hnum', hreal', hsign'⟩ := addend_isNumber hnb minus
  rw [← hsa, ← hsb, ← hsc, ← hsign, ← hsign', ← hreal, ← hreal']
  refine gives_of_represents (no_nan_triple ha.1 hb.1 hc.1) ?_
  rw [fpMulAdd, htimes]
  exact fpAdd_represents _ (fpRN v) hnum hnum'

end

section
variable (v : Word) (free one : Bool) {b : Dword} (hb : (fpValue b).isNan = false ∧ (fpValue b).isInf = false)
include hb

theorem sqrt_gives (h0 : 0 ≤ (fpValue b).real) :
    Gives v free one false (bit b 0) (Real.sqrt (fpValue b).real) (arithSqrt (precisionOf one) v free b) := by
  have hbits : (precisionOf one).bits ≤ 53 := by cases one <;> decide
  rw [← Bool.bne_false (bit b 0)]
  refine gives_of_represents (no_nan_single hb.1) ?_
  rcases fpValue_classes b with ⟨q, hv⟩ | hv | hv | ⟨m, e, hm, hm53, hv⟩
  · exact absurd hb.1 (by simp [hv, FpValue.isNan])
  · exact absurd hb.2 (by simp [hv, FpValue.isInf])
  · rw [hv]
    exact ⟨Real.sqrt_zero, rfl⟩
  · rw [hv] at h0 ⊢
    cases hs : bit b 0
    · exact sqrtFinite_represents hbits e hm hm53 false
    · rw [hs] at h0
      have hpos : (0 : ℝ) < m * 2 ^ e := mul_pos (Nat.cast_pos.mpr hm) (zpow_two_pos e)
      exact absurd h0 (not_le.mpr (neg_lt_zero.mpr hpos))

theorem rsp_gives : Gives v free true false (bit b 0) (fpValue b).real (arithRsp v free b) := by
  obtain ⟨hnb, hsb⟩ := isNumber_fpValue hb.1 hb.2
  rw [← Bool.bne_false (bit b 0), ← hsb, arithRsp, hb.1, if_neg Bool.false_ne_true]
  exact gives_of_represents (no_nan_single hb.1) (hnb.represents _)

end


section
variable {v : Word} {free : Bool} {ds : List Dword} {imz : Bool} {p : Precision} {e : FpExact} {n : Bool}
  (hds : (ds.any fun d => (fpValue d).isNan) = false)
include hds

theorem isInfinity_of_exact (flip : Bool) (he : e = .inf n) : IsInfinity (n != flip) (fpArith p v free flip ds imz e) :=
  he ▸ isInfinity_of_inf hds p flip n

theorem isInfinity_of_exact_unflipped (he : e = .inf n) : IsInfinity n (fpArith p v free false ds imz e) := by
  have h := isInfinity_of_exact (p := p) (v := v) (free := free) (imz := imz) hds false he
  rwa [Bool.bne_false] at h

theorem isZero_of_exact_unflipped (he : e = .zero n) : IsZeroResult n (fpArith p v free false ds imz e) := by
  have h := isZero_of_zero (v := v) (free := free) (imz := imz) hds p false n
  rwa [Bool.bne_false, ← he] at h

end

/-- The third operand of a multiply-add is infinite with its sign inverted by the subtracting forms. -/
theorem addend_infinite {b : Dword} (hb : (fpValue b).isInf = true) (minus : Bool) :
    (if minus then (fpValue b).negated else fpValue b) = .inf (bit b 0 != minus) := by
  rw [inf_of_isInf hb]
  cases minus
  · rw [Bool.bne_false]
    rfl
  · rw [if_pos rfl, Bool.bne_true]
    rfl

/-- Settles O39: each operation before rounding stands for its exact real result (`Represents`), and an infinite operand
decides the result. -/
theorem exactResults : Obligations.ExactResults := by
  unfold Obligations.ExactResults
  intro single v free minus flip a b c p finite infinite nonzero exactly infinity zero real gives zeroSum
  have hp : p = precisionOf single := rfl
  have hgives {one flip z : Bool} {X : ℝ} {r : FpResult} (h : Gives v free one flip z X r) : gives one flip z X r := h
  have hinf {n : Bool} {r : FpResult} (h : IsInfinity n r) : infinity n r := h
  have hzero {n : Bool} {r : FpResult} (h : IsZeroResult n r) : zero n r := h
  have hreal (d : Dword) : real d = (fpValue d).real := by
    simp only [real]
    cases fpValue d with
    | finite n m e => cases n <;> simp [FpValue.real, signedReal]
    | _ => rfl
  have hzeroSum : zeroSum = zeroSumSign v := rfl
  rw [hreal a, hreal b, hreal c, hp, hzeroSum]
  clear_value gives infinity zero
  refine ⟨fun ha hb => ⟨hgives (add_gives v free single ha hb), hgives (sub_gives v free single ha hb),
      hgives (mul_gives v free single ha hb), fun h0 => hgives (div_gives v free single ha hb h0),
      fun hc => hgives (mulAdd_gives v free single ha hb minus flip hc)⟩,
    fun hb => ⟨fun h0 => hgives (sqrt_gives v free single hb h0), hgives (rsp_gives v free hb)⟩,
    hgives (fromInteger_gives v free b), fun ha hb => ?_, fun ha hb => ?_, fun ha hb => ⟨fun hs => ?_, fun hs => ?_⟩,
    fun h => ?_, fun h hadd => ?_, fun ha hc hb => ?_, fun hb => ⟨fun hs => ?_, ?_⟩⟩
  · obtain ⟨hnb, hsb⟩ := isNumber_fpValue hb.1 hb.2
    have hds := no_nan_pair (isNan_of_isInf ha) hb.1
    have hva := inf_of_isInf ha
    refine ⟨hinf (isInfinity_of_exact_unflipped hds ?_), hinf (isInfinity_of_exact_unflipped hds ?_),
      hinf (isInfinity_of_exact_unflipped hds ?_)⟩
    · rw [FpOp2.exact, hva]
      exact fpAdd_inf_left _ _ hnb
    · rw [FpOp2.exact, hva]
      exact fpAdd_inf_left _ _ hnb.negated.1
    · rw [FpOp2.exact, hva, fpDiv_inf_left _ hnb, hsb]
  · obtain ⟨hna, hsa⟩ := isNumber_fpValue ha.1 ha.2
    have hds := no_nan_pair ha.1 (isNan_of_isInf hb)
    have hvb := inf_of_isInf hb
    refine ⟨hinf (isInfinity_of_exact_unflipped hds ?_), hinf (isInfinity_of_exact_unflipped hds ?_),
      hzero (isZero_of_exact_unflipped hds ?_)⟩
    · rw [FpOp2.exact, hvb]
      exact fpAdd_inf_right _ hna _
    · rw [FpOp2.exact, hvb]
      exact fpAdd_inf_right _ hna _
    · rw [FpOp2.exact, hvb, fpDiv_inf_right hna, hsa]
  · refine hinf (isInfinity_of_exact_unflipped (no_nan_pair (isNan_of_isInf ha) (isNan_of_isInf hb)) ?_)
    rw [FpOp2.exact, inf_of_isInf ha, inf_of_isInf hb]
    exact fpAdd_inf_inf _ hs
  · refine hinf (isInfinity_of_exact_unflipped (no_nan_pair (isNan_of_isInf ha) (isNan_of_isInf hb)) ?_)
    rw [FpOp2.exact, inf_of_isInf ha, inf_of_isInf hb]
    exact fpAdd_inf_inf _ (Bool.eq_not.mpr hs)
  · obtain ⟨hprod, htimes, hna, hnb⟩ := productOf_infinite h
    refine hinf (isInfinity_of_exact_unflipped (no_nan_pair hna hnb) ?_)
    rw [FpOp2.exact, fpMul, htimes, hprod]
    rfl
  · obtain ⟨hprod, htimes, hna, hnc⟩ := productOf_infinite h
    have hnb : (fpValue b).isNan = false := hadd.elim And.left fun hb => isNan_of_isInf hb.1
    refine hinf (isInfinity_of_exact (no_nan_triple hna hnb hnc) flip ?_)
    rw [fpMulAdd, htimes, hprod, if_neg Bool.false_ne_true]
    rcases hadd with hb | ⟨hb, hs⟩
    · exact fpAdd_inf_left _ _ (addend_isNumber (isNumber_fpValue hb.1 hb.2).1 minus).1
    · rw [addend_infinite hb]
      exact fpAdd_inf_inf _ hs.symm
  · obtain ⟨hna, -⟩ := isNumber_fpValue ha.1 ha.2
    obtain ⟨hnc, -⟩ := isNumber_fpValue hc.1 hc.2
    obtain ⟨hnum, -, -, htimes⟩ := productOf_isNumber hna hnc
    refine hinf (isInfinity_of_exact (no_nan_triple ha.1 (isNan_of_isInf hb) hc.1) flip ?_)
    rw [fpMulAdd, htimes, addend_infinite hb, if_neg Bool.false_ne_true]
    exact fpAdd_inf_right _ hnum _
  · refine hinf (isInfinity_of_exact_unflipped (no_nan_single (isNan_of_isInf hb)) ?_)
    rw [inf_of_isInf hb, hs]
    rfl
  · have hnan := isNan_of_isInf hb
    refine hinf ?_
    rw [arithRsp, hnan, if_neg Bool.false_ne_true]
    refine isInfinity_of_exact_unflipped (no_nan_single hnan) ?_
    rw [inf_of_isInf hb]
    rfl

end Sys2Proof.Machine


/-! SUPPORT. Invalid operations and NaN operands (45_float_arith.md R555 to R558). The idea: with a NaN operand `fpArith` answers
by the first NaN, and without one by the class of the exact result, which the classes of the operands decide. -/

namespace Sys2Proof.Machine

open Laws

/-! ## The results -/

/-- An invalid operation with the QNaN `d`: no result if VE = 1 (R555 a). -/
def InvalidOp (v exc : Word) (d : Dword) (r : FpResult) : Prop :=
  r.exceptions = exc ∧ r.value = (if bit v 24 then none else some d) ∧
    r.fprf = (if bit v 24 then none else some 0b10001) ∧ r.fr = false ∧ r.fi = false

/-- A NaN passed on without exception. -/
def PassedNan (d : Dword) (r : FpResult) : Prop :=
  r.exceptions = 0 ∧ r.value = some d ∧ r.fprf = some 0b10001 ∧ r.fr = false ∧ r.fi = false

/-- A division by zero: no result if ZE = 1 (R555 b). -/
def ZeroDivideOp (v : Word) (neg : Bool) (r : FpResult) : Prop :=
  r.exceptions = 0x04000000 ∧
    r.value = (if bit v 27 then none else some (if neg then 0xFFF0000000000000 else 0x7FF0000000000000)) ∧
    r.fprf = if bit v 27 then none else some (if neg then 0b01001 else 0b00101)

theorem fpInvalid_invalidOp (v exc : Word) (d : Dword) : InvalidOp v exc d (fpInvalid v exc d) := by
  unfold InvalidOp fpInvalid fpVE
  cases bit v 24 <;> exact ⟨rfl, rfl, rfl, rfl, rfl⟩

theorem fpZeroDivide_zeroDivideOp (v : Word) (neg : Bool) :
    ZeroDivideOp v neg (fpZeroDivide v neg) ∧ (fpZeroDivide v neg).fr = false ∧ (fpZeroDivide v neg).fi = false := by
  unfold ZeroDivideOp fpZeroDivide fpZE
  cases bit v 27 <;> cases neg <;> exact ⟨⟨rfl, rfl, rfl⟩, rfl, rfl⟩

section
variable {v : Word} {free flip : Bool} {ds : List Dword} {imz : Bool} {p : Precision} {e : FpExact}

theorem invalidOp_of_exact (hds : (ds.any fun d => (fpValue d).isNan) = false) {vx : Word} (he : e = .invalid vx) :
    InvalidOp v vx 0x7FF8000000000000 (fpArith p v free flip ds imz e) := by
  rw [fpArith_of_no_nan hds, he]
  exact fpInvalid_invalidOp v vx fpQnan

theorem zeroDivideOp_of_exact (hds : (ds.any fun d => (fpValue d).isNan) = false) {n : Bool} (he : e = .zeroDivide n) :
    ZeroDivideOp v n (fpArith p v free flip ds imz e) ∧ (fpArith p v free flip ds imz e).fr = false ∧
      (fpArith p v free flip ds imz e).fi = false := by
  rw [fpArith_of_no_nan hds, he]
  exact fpZeroDivide_zeroDivideOp v n

/-- A NaN operand decides, with an exception or without. -/
theorem fpArith_of_nan (hds : (ds.any fun d => (fpValue d).isNan) = true) :
    fpArith p v free flip ds imz e =
      if snanException ds ||| (if imz then fpVXIMZ else 0) = 0 then fpExactResult (nanResult ds) fprfQnan
      else fpInvalid v (snanException ds ||| (if imz then fpVXIMZ else 0)) (nanResult ds) := by
  rw [fpArith, hds]
  rfl

theorem invalidOp_of_nan (hds : (ds.any fun d => (fpValue d).isNan) = true) {vx : Word} {d : Dword}
    (hvx : snanException ds ||| (if imz then fpVXIMZ else 0) = vx) (hne : vx ≠ 0) (hd : nanResult ds = d) :
    InvalidOp v vx d (fpArith p v free flip ds imz e) := by
  rw [fpArith_of_nan hds, hvx, if_neg hne, hd]
  exact fpInvalid_invalidOp v vx d

theorem passedNan_of_nan (hds : (ds.any fun d => (fpValue d).isNan) = true) {d : Dword}
    (hvx : snanException ds ||| (if imz then fpVXIMZ else 0) = 0) (hd : nanResult ds = d) :
    PassedNan d (fpArith p v free flip ds imz e) := by
  rw [fpArith_of_nan hds, if_pos hvx, hd]
  exact ⟨rfl, rfl, rfl, rfl, rfl⟩

end

/-! ## Quiet NaNs -/

/-- A NaN made quiet. -/
theorem withBit_quiet (d : Dword) : withBit d 12 true = d ||| 0x0008000000000000 := by
  apply BitVec.eq_of_getMsbD_eq
  intro k hk
  change bit (withBit d 12 true) k = bit (d ||| oneBit 64 12) k
  rw [bit_withBit d true (by omega) hk, bit_or, bit_oneBit hk (by omega)]
  by_cases h : k = 12 <;> simp [h]

/-- A double pattern cut to single format. -/
theorem withSlice_single (d : Dword) : withSlice d 35 0#29 = d &&& ~~~ 0x1FFFFFFF := by
  have hlow : ∀ k : Fin 64, bit (0x1FFFFFFF : Dword) k.val = decide (35 ≤ k.val) := by decide
  apply BitVec.eq_of_getMsbD_eq
  intro k hk
  change bit (withSlice d 35 0#29) k = bit (d &&& ~~~ 0x1FFFFFFF) k
  rw [bit_withSlice d 0#29 (by omega) hk, bit_and, bit_not _ hk, hlow ⟨k, hk⟩]
  by_cases h : 35 ≤ k
  · rw [if_pos (by omega)]
    simp [h, bit]
  · rw [if_neg (by omega)]
    simp [h]

theorem nan_of_isNan {d : Dword} (h : (fpValue d).isNan = true) : fpValue d = .nan (!bit d 12) := by
  rcases fpValue_cases d with ⟨-, -, hv⟩ | ⟨-, -, hv⟩ | ⟨-, -, hv⟩ | ⟨-, -, hv⟩ | ⟨-, -, hv⟩ <;>
    simp_all [FpValue.isNan]

theorem isNan_of_isSnan {d : Dword} (h : (fpValue d).isSnan = true) : (fpValue d).isNan = true := by
  cases hv : fpValue d <;> simp_all [FpValue.isNan, FpValue.isSnan]

/-- A quiet NaN is its own quiet form. -/
theorem withBit_of_quiet {d : Dword} (hnan : (fpValue d).isNan = true) (hsnan : (fpValue d).isSnan = false) :
    withBit d 12 true = d := by
  have hbit : bit d 12 = true := by
    rw [nan_of_isNan hnan] at hsnan
    simpa [FpValue.isSnan] using hsnan
  apply BitVec.eq_of_getMsbD_eq
  intro k hk
  change bit (withBit d 12 true) k = bit d k
  rw [bit_withBit d true (by omega) hk]
  split
  · next h => rw [h, hbit]
  · rfl


theorem zero_of_isZero {d : Dword} (h : (fpValue d).isZero = true) : fpValue d = .zero (bit d 0) := by
  rcases fpValue_classes d with ⟨q, hv⟩ | hv | hv | ⟨m, e, -, -, hv⟩
  · exact absurd h (by simp [hv, FpValue.isZero])
  · exact absurd h (by simp [hv, FpValue.isZero])
  · exact hv
  · exact absurd h (by simp [hv, FpValue.isZero])

theorem isNan_of_isZero {d : Dword} (h : (fpValue d).isZero = true) : (fpValue d).isNan = false := by
  rw [zero_of_isZero h]
  rfl

theorem finite_of_classes {d : Dword} (hnan : (fpValue d).isNan = false) (hinf : (fpValue d).isInf = false)
    (hzero : (fpValue d).isZero = false) : ∃ m e, fpValue d = .finite (bit d 0) m e := by
  rcases nonzero_classes hnan hzero with hv | hfin
  · exact absurd hinf (by simp [hv, FpValue.isInf])
  · exact hfin

/-! ## The invalid operations -/

theorem fpAdd_inf_opposite (rn : BitVec 2) {x y : Bool} (h : x ≠ y) : fpAdd rn (.inf x) (.inf y) = .invalid fpVXISI :=
  if_neg h

/-- Infinity times zero. -/
theorem no_nan_of_timesInvalid {a b : FpValue} (h : timesInvalid a b = true) : a.isNan = false ∧ b.isNan = false := by
  cases a <;> cases b <;> simp_all [timesInvalid, FpValue.isInf, FpValue.isZero, FpValue.isNan]

/-- A NaN makes no product of infinity and zero. -/
theorem timesInvalid_of_nan {a b : FpValue} (h : (a.isNan || b.isNan) = true) : timesInvalid a b = false := by
  cases a <;> cases b <;> simp_all [timesInvalid, FpValue.isInf, FpValue.isZero, FpValue.isNan]

/-- The product of values that are no NaN and not infinity times zero, one of them infinite. -/
theorem productOf_of_isInf {a c : Dword} (h : ((fpValue a).isInf || (fpValue c).isInf) = true)
    (htimes : timesInvalid (fpValue a) (fpValue c) = false) (ha : (fpValue a).isNan = false)
    (hc : (fpValue c).isNan = false) : productOf (fpValue a) (fpValue c) = .inf (bit a 0 != bit c 0) := by
  refine (productOf_infinite ?_).1
  cases hia : (fpValue a).isInf
  · rw [hia, Bool.false_or] at h
    refine .inr ⟨⟨ha, ?_⟩, h⟩
    by_contra hz
    rw [timesInvalid, h, Bool.not_eq_false _ |>.mp hz] at htimes
    simp at htimes
  · refine .inl ⟨rfl, hc, ?_⟩
    by_contra hz
    rw [timesInvalid, hia, Bool.not_eq_false _ |>.mp hz] at htimes
    simp at htimes

/-- The root or reciprocal root of a number below zero. -/
theorem roots_of_negative {b : Dword} (hs : bit b 0 = true) (hzero : (fpValue b).isZero = false)
    (hnan : (fpValue b).isNan = false) :
    fpSqrt (fpValue b) = .invalid fpVXSQRT ∧ fpRsqrt (fpValue b) = .invalid fpVXSQRT := by
  rcases nonzero_classes hnan hzero with hv | ⟨m, e, hv⟩ <;> rw [hv, hs] <;> exact ⟨rfl, rfl⟩

/-- Only positive finite operands have an estimate of the reciprocal root. -/
theorem frsqrteEstimated_of_not_positive {c x : Dword} {r : FpResult} (h : ∀ m e, fpValue x ≠ .finite false m e) :
    frsqrteEstimated c x r = r := by
  have hacc : frsqrteAccurate (fpValue c) (fpValue x) = false := by
    cases hx : fpValue x with
    | finite n m e =>
      cases n
      · exact absurd hx (h m e)
      · cases fpValue c <;> simp [frsqrteAccurate]
    | _ => cases fpValue c <;> simp [frsqrteAccurate]
  rw [frsqrteEstimated, hacc]

/-- Only a finite exact reciprocal has an estimate. -/
theorem fresEstimated_of_not_finite {v : Word} {e : FpExact} {c x : Dword} {r : FpResult}
    (h : ∀ n m k, e ≠ .finite n m k) : fresEstimated v e c x r = r := by
  cases e with
  | finite n m k => exact absurd rfl (h n m k)
  | _ => rfl

/-- The estimate instructions without an estimate: the result of the division, but for XX, FR and FI. -/
theorem arithRes_of_not_finite {v : Word} {freeFr freeFi : Bool} {b : Dword}
    (h : ∀ n m k, fpDiv (.finite false 1 0) (fpValue b) ≠ .finite n m k) :
    arithRes v freeFr freeFi b =
      { fpArith .single v freeFr false [b] false (fpDiv (.finite false 1 0) (fpValue b)) with
        exceptions := (fpArith .single v freeFr false [b] false (fpDiv (.finite false 1 0) (fpValue b))).exceptions &&&
          ~~~ fpXX
        fr := freeFr
        fi := freeFi } := by
  rw [arithRes]
  dsimp only
  rw [fresEstimated_of_not_finite h]

theorem arithRsqrte_of_not_positive {v : Word} {freeFr freeFi : Bool} {b : Dword}
    (h : ∀ m e, fpValue b ≠ .finite false m e) :
    arithRsqrte v freeFr freeFi b =
      { fpArith .double v freeFr false [b] false (fpRsqrt (fpValue b)) with
        exceptions := (fpArith .double v freeFr false [b] false (fpRsqrt (fpValue b))).exceptions &&& ~~~ fpXX
        fr := freeFr
        fi := freeFi } := by
  rw [arithRsqrte, frsqrteEstimated_of_not_positive h]


/-! ## O37 -/

theorem nanResult_pair {a b : Dword} (h : ((fpValue a).isNan || (fpValue b).isNan) = true) :
    nanResult [a, b] = if (fpValue a).isNan then a ||| 0x0008000000000000 else b ||| 0x0008000000000000 := by
  simp only [nanResult, ← withBit_quiet]
  cases ha : (fpValue a).isNan
  · rw [ha, Bool.false_or] at h
    simp [h]
  · rfl

theorem nanResult_triple {a b c : Dword} (h : ((fpValue a).isNan || (fpValue b).isNan || (fpValue c).isNan) = true) :
    nanResult [a, b, c] =
      if (fpValue a).isNan then a ||| 0x0008000000000000
      else if (fpValue b).isNan then b ||| 0x0008000000000000 else c ||| 0x0008000000000000 := by
  simp only [nanResult, ← withBit_quiet]
  cases ha : (fpValue a).isNan
  · cases hb : (fpValue b).isNan
    · rw [ha, hb, Bool.false_or, Bool.false_or] at h
      simp [h]
    · rfl
  · rfl

theorem nanResult_single {b : Dword} (h : (fpValue b).isNan = true) : nanResult [b] = b ||| 0x0008000000000000 := by
  rw [nanResult, h, if_pos rfl, withBit_quiet]

/-- The exceptions of NaN operands: VXSNAN if one is signalling. -/
theorem snanException_of_any {ds : List Dword} {q : Bool} (h : (ds.any fun d => (fpValue d).isSnan) = q) :
    snanException ds = if q then fpVXSNAN else 0 := by
  rw [snanException, h]

section
variable (p : Precision) (v : Word) (free : Bool) {a b : Dword}

/-- A two-operand operation on a NaN. -/
theorem arith2_of_nan (op : FpOp2) (h : ((fpValue a).isNan || (fpValue b).isNan) = true) :
    (((fpValue a).isSnan || (fpValue b).isSnan) = true → InvalidOp v 0x01000000
      (if (fpValue a).isNan then a ||| 0x0008000000000000 else b ||| 0x0008000000000000) (arith2 p op v free a b)) ∧
    (((fpValue a).isSnan || (fpValue b).isSnan) = false → PassedNan
      (if (fpValue a).isNan then a ||| 0x0008000000000000 else b ||| 0x0008000000000000) (arith2 p op v free a b)) := by
  have hds : ([a, b].any fun d => (fpValue d).isNan) = true := by simpa using h
  have himz : (op == .mul && timesInvalid (fpValue a) (fpValue b)) = false := by
    rw [timesInvalid_of_nan h, Bool.and_false]
  refine ⟨fun hs => ?_, fun hs => ?_⟩
  · have hexc := snanException_of_any (ds := [a, b]) (q := true) (by simpa using hs)
    exact invalidOp_of_nan hds (by rw [hexc, himz]; decide) (by decide) (nanResult_pair h)
  · have hexc := snanException_of_any (ds := [a, b]) (q := false) (by simpa using hs)
    exact passedNan_of_nan hds (by rw [hexc, himz]; decide) (nanResult_pair h)

/-- A multiply-add with a NaN operand; infinity times zero counts beside it. -/
theorem arith3_of_nan (minus flip : Bool) {c : Dword}
    (h : ((fpValue a).isNan || (fpValue b).isNan || (fpValue c).isNan) = true) {exc : Word}
    (hexc : snanException [a, b, c] ||| (if timesInvalid (fpValue a) (fpValue c) then fpVXIMZ else 0) = exc) {d : Dword}
    (hd : nanResult [a, b, c] = d) :
    (exc ≠ 0 → InvalidOp v exc d (arith3 p minus flip v free a c b)) ∧
    (exc = 0 → PassedNan d (arith3 p minus flip v free a c b)) := by
  have hds : ([a, b, c].any fun d => (fpValue d).isNan) = true := by simpa [Bool.or_assoc] using h
  exact ⟨fun hne => invalidOp_of_nan hds hexc hne hd, fun h0 => passedNan_of_nan hds (hexc.trans h0) hd⟩

/-- A one-operand operation on a NaN. -/
theorem fpArith_single_of_nan {e : FpExact} (h : (fpValue b).isNan = true) :
    ((fpValue b).isSnan = true →
      InvalidOp v 0x01000000 (b ||| 0x0008000000000000) (fpArith p v free false [b] false e)) ∧
    ((fpValue b).isSnan = false → PassedNan b (fpArith p v free false [b] false e)) := by
  have hds : ([b].any fun d => (fpValue d).isNan) = true := by simpa using h
  refine ⟨fun hs => ?_, fun hs => ?_⟩
  · have hexc := snanException_of_any (ds := [b]) (q := true) (by simpa using hs)
    exact invalidOp_of_nan hds (by rw [hexc]; decide) (by decide) (nanResult_single h)
  · have hexc := snanException_of_any (ds := [b]) (q := false) (by simpa using hs)
    refine passedNan_of_nan hds (by rw [hexc]; decide) ?_
    rw [nanResult_single h, ← withBit_quiet, withBit_of_quiet h hs]

end

/-- frsp of a NaN: its result cut to single format. -/
theorem arithRsp_of_nan {v : Word} {free : Bool} {b : Dword} (h : (fpValue b).isNan = true) :
    arithRsp v free b =
      { fpArith .single v free false [b] false (fpValue b).exact with
        value := (fpArith .single v free false [b] false (fpValue b).exact).value.map (· &&& ~~~ 0x1FFFFFFF) } := by
  have hcut : (fun d : Dword => withSlice d 35 0#29) = (· &&& ~~~ 0x1FFFFFFF) := funext withSlice_single
  rw [arithRsp, h, if_pos rfl, hcut]

theorem InvalidOp.cut {v exc : Word} {d : Dword} {r : FpResult} (h : InvalidOp v exc d r) (f : Dword → Dword) :
    InvalidOp v exc (f d) { r with value := r.value.map f } := by
  obtain ⟨hexc, hval, hrest⟩ := h
  refine ⟨hexc, ?_, hrest⟩
  dsimp only
  rw [hval]
  split <;> rfl

theorem PassedNan.cut {d : Dword} {r : FpResult} (h : PassedNan d r) (f : Dword → Dword) :
    PassedNan (f d) { r with value := r.value.map f } := by
  obtain ⟨hexc, hval, hrest⟩ := h
  exact ⟨hexc, by dsimp only; rw [hval]; rfl, hrest⟩

/-- The estimates of a NaN, an infinity times zero or a number out of their range: the result of the exact operation. -/
theorem estimates_of_nan {v : Word} {free : Bool} {b : Dword} (h : (fpValue b).isNan = true) {r : FpResult}
    (hr : r = arithRes v free free b ∨ r = arithRsqrte v free free b) :
    ∃ p e, r.exceptions = (fpArith p v free false [b] false e).exceptions &&& ~~~ fpXX ∧
      r.value = (fpArith p v free false [b] false e).value := by
  have hv := nan_of_isNan h
  rcases hr with rfl | rfl
  · rw [arithRes_of_not_finite fun n m k => by rw [hv]; exact FpExact.noConfusion]
    exact ⟨_, _, rfl, rfl⟩
  · rw [arithRsqrte_of_not_positive fun m e => by rw [hv]; exact FpValue.noConfusion]
    exact ⟨_, _, rfl, rfl⟩

/-- Settles O37: by the classes of the operands. -/
theorem invalidOperations : Obligations.InvalidOperations := by
  unfold Obligations.InvalidOperations
  intro p v free minus flip a b c nan snan inf zero quiet qnan invalid passed zeroDivide sum multiplyAdd imz exc first2 first3
  have hinvalid {exc : Word} {d : Dword} {r : FpResult} (h : InvalidOp v exc d r) : invalid exc d r := h
  have hpassed {d : Dword} {r : FpResult} (h : PassedNan d r) : passed d r := h
  have hzeroDivide {n : Bool} {r : FpResult} (h : ZeroDivideOp v n r) : zeroDivide n r := h
  have hsum (op : FpOp2) (ha : inf a = true) (hb : inf b = true) (x : Bool)
      (hop : op.exact (fpRN v) (fpValue a) (fpValue b) = fpAdd (fpRN v) (.inf (bit a 0)) (.inf x)) (hx : bit a 0 ≠ x) :
      invalid 0x00800000 qnan (arith2 p op v free a b) :=
    hinvalid (invalidOp_of_exact (no_nan_pair (isNan_of_isInf ha) (isNan_of_isInf hb))
      (hop.trans (fpAdd_inf_opposite _ hx)))
  have hor {x y : Bool} (h : (x || y) = true) : x = true ∨ y = true := by simpa using h
  refine ⟨fun ha hb hs => ?_, fun ha hb hs => ?_, fun ha hb => ?_, fun ha hb => ?_, fun h => ?_, fun h hb => ?_,
    fun h himz ha hc hb hs => ?_, fun hs hzb hnb => ?_, fun hzb => ⟨fun hna hia hza => ?_, ?_, ?_⟩, fun op => ⟨fun h => ?_,
    fun h hs => ?_⟩, fun h => ?_, fun h => ⟨?_, ?_, fun r hr => ?_⟩, fun h hs => ⟨?_, ?_, fun r hr => ?_⟩⟩
  · exact hsum .add ha hb (bit b 0) (by rw [FpOp2.exact, inf_of_isInf ha, inf_of_isInf hb]) (by simpa using hs)
  · refine hsum .sub ha hb (!bit b 0) (by rw [FpOp2.exact, inf_of_isInf ha, inf_of_isInf hb]; rfl) ?_
    have hdiff : (bit a 0 != bit b 0) = false := hs
    have hsame : bit a 0 = bit b 0 := by simpa using hdiff
    rw [hsame]
    cases bit b 0 <;> decide
  · refine hinvalid (invalidOp_of_exact (no_nan_pair (isNan_of_isInf ha) (isNan_of_isInf hb)) ?_)
    rw [FpOp2.exact, inf_of_isInf ha, inf_of_isInf hb]
    rfl
  · refine hinvalid (invalidOp_of_exact (no_nan_pair (isNan_of_isZero ha) (isNan_of_isZero hb)) ?_)
    rw [FpOp2.exact, zero_of_isZero ha, zero_of_isZero hb]
    rfl
  · obtain ⟨hna, hnb⟩ := no_nan_of_timesInvalid h
    exact hinvalid (invalidOp_of_exact (no_nan_pair hna hnb) (if_pos h))
  · obtain ⟨hna, hnc⟩ := no_nan_of_timesInvalid h
    exact hinvalid (invalidOp_of_exact (no_nan_triple hna hb hnc) (if_pos h))
  · refine hinvalid (invalidOp_of_exact (no_nan_triple ha (isNan_of_isInf hb) hc) ?_)
    rw [fpMulAdd, if_neg (by rw [show timesInvalid _ _ = imz from rfl, himz]; exact Bool.false_ne_true),
      productOf_of_isInf h himz ha hc, addend_infinite hb]
    exact fpAdd_inf_opposite _ (bne_iff_ne.mp hs)
  · obtain ⟨hsqrt, hrsqrt⟩ := roots_of_negative hs hzb hnb
    have hnotpos : ∀ m e, fpValue b ≠ .finite false m e := fun m e hv => by
      rw [hv] at hsqrt
      exact FpExact.noConfusion hsqrt
    obtain ⟨hexc, hval, -⟩ := invalidOp_of_exact (p := .double) (v := v) (free := free) (flip := false) (imz := false)
      (no_nan_single hnb) hrsqrt
    rw [arithRsqrte_of_not_positive hnotpos]
    refine ⟨hinvalid (invalidOp_of_exact (no_nan_single hnb) hsqrt), ?_, hval⟩
    dsimp only
    rw [hexc]
    decide
  · refine (zeroDivideOp_of_exact (no_nan_pair hna (isNan_of_isZero hzb)) ?_).imp_left hzeroDivide
    obtain ⟨m, e, hv⟩ := finite_of_classes hna hia hza
    rw [FpOp2.exact, hv, zero_of_isZero hzb]
    rfl
  · have hzv := zero_of_isZero hzb
    obtain ⟨⟨hexc, hval, hfprf⟩, -⟩ := zeroDivideOp_of_exact (p := .single) (v := v) (free := free) (flip := false)
      (imz := false) (no_nan_single (isNan_of_isZero hzb)) (e := fpDiv (.finite false 1 0) (fpValue b)) (n := bit b 0)
      (by rw [hzv]; exact congrArg FpExact.zeroDivide (Bool.false_bne _))
    rw [arithRes_of_not_finite fun n m k => by rw [hzv]; exact FpExact.noConfusion]
    refine hzeroDivide ⟨?_, hval, hfprf⟩
    dsimp only
    rw [hexc]
    decide
  · have hzv := zero_of_isZero hzb
    obtain ⟨⟨hexc, hval, hfprf⟩, -⟩ := zeroDivideOp_of_exact (p := .double) (v := v) (free := free) (flip := false)
      (imz := false) (no_nan_single (isNan_of_isZero hzb)) (e := fpRsqrt (fpValue b)) (n := bit b 0) (by rw [hzv]; rfl)
    rw [arithRsqrte_of_not_positive fun m e => by rw [hzv]; exact FpValue.noConfusion]
    refine hzeroDivide ⟨?_, hval, hfprf⟩
    dsimp only
    rw [hexc]
    decide
  · have hnan : ((fpValue a).isNan || (fpValue b).isNan) = true := by
      rcases hor h with hs | hs
      · rw [isNan_of_isSnan hs, Bool.true_or]
      · rw [isNan_of_isSnan hs, Bool.or_true]
    exact hinvalid ((arith2_of_nan p v free op hnan).1 h)
  · exact hpassed ((arith2_of_nan p v free op h).2 hs)
  · have hexc : snanException [a, b, c] ||| (if timesInvalid (fpValue a) (fpValue c) then fpVXIMZ else 0) = exc := by
      rw [snanException_of_any (q := snan a || snan b || snan c) (by simp [snan, Bool.or_assoc])]
      rfl
    obtain ⟨hne, h0⟩ := arith3_of_nan p v free minus flip h hexc (nanResult_triple h)
    exact ⟨fun hx => hinvalid (hne hx), fun hx => hpassed (h0 hx)⟩
  · exact hinvalid ((fpArith_single_of_nan p v free (isNan_of_isSnan h)).1 h)
  · rw [arithRsp_of_nan (isNan_of_isSnan h)]
    exact hinvalid (((fpArith_single_of_nan .single v free (isNan_of_isSnan h)).1 h).cut (· &&& ~~~ 0x1FFFFFFF))
  · obtain ⟨p, e, hexc, hval⟩ := estimates_of_nan (isNan_of_isSnan h) hr
    obtain ⟨hexc', hval', -⟩ := (fpArith_single_of_nan p v free (e := e) (isNan_of_isSnan h)).1 h
    rw [hexc, hval, hexc', hval']
    exact ⟨by decide, rfl⟩
  · exact hpassed ((fpArith_single_of_nan p v free h).2 hs)
  · rw [arithRsp_of_nan h]
    exact hpassed (((fpArith_single_of_nan .single v free h).2 hs).cut (· &&& ~~~ 0x1FFFFFFF))
  · obtain ⟨p, e, hexc, hval⟩ := estimates_of_nan h hr
    obtain ⟨hexc', hval', -⟩ := (fpArith_single_of_nan p v free (e := e) h).2 hs
    rw [hexc, hval, hexc', hval']
    exact ⟨by decide, rfl⟩

end Sys2Proof.Machine


/-! SUPPORT. The estimates (45_float_arith.md R578, R579). The idea: the division and the root before rounding stand for the exact
reciprocal, which rounding meets within a unit of the last place; and an admissible estimate is tested to be as close as the
rules say. -/

namespace Sys2Proof.Machine

open Laws

/-! ## Finite patterns -/

theorem finite_bounds {d : Dword} {n : Bool} {m : Nat} {e : Int} (h : fpValue d = .finite n m e) :
    0 < m ∧ m < 2 ^ 53 ∧ -1074 ≤ e ∧ e ≤ 971 := by
  have hlt := fpFraction_lt d
  have hle := fpExponent_lt d
  rcases fpValue_cases d with ⟨he, hf, hv⟩ | ⟨he, hf, hv⟩ | ⟨he, hf, hv⟩ | ⟨he, hf, hv⟩ | ⟨he, hf, hv⟩ <;>
    rw [hv] at h <;> cases h
  · exact ⟨by omega, by omega, by omega, by omega⟩
  · exact ⟨by omega, by omega, by omega, by omega⟩

/-- A magnitude of 24 bits in the range of the singles packs to a pattern with a single format. -/
theorem singleRepresentable_fpPack (neg : Bool) {mag : Nat} {exp : Int} (hmag : 0 < mag) (hle : mag ≤ 2 ^ 24)
    (hlo : -149 ≤ exp) (hhi : exp + mag.log2 ≤ 127) : singleRepresentable (fpPack neg mag exp) = true := by
  have hlog_lo : 2 ^ mag.log2 ≤ mag := Nat.log2_self_le (by omega)
  have hlog_hi : mag < 2 ^ (mag.log2 + 1) := Nat.lt_log2_self
  have hlog : mag.log2 ≤ 24 := by
    have hlt := (Nat.log2_lt hmag.ne').mpr (show mag < 2 ^ 25 by omega)
    omega
  have hone : 2 ^ mag.log2 * 2 ^ (52 - mag.log2) = 2 ^ 52 := by rw [← Nat.pow_add, Nat.add_sub_of_le (by omega)]
  have hflo : 2 ^ 52 ≤ mag * 2 ^ (52 - mag.log2) := hone ▸ Nat.mul_le_mul_right _ hlog_lo
  have hfhi : mag * 2 ^ (52 - mag.log2) < 2 ^ 53 := by
    calc mag * 2 ^ (52 - mag.log2) < 2 ^ (mag.log2 + 1) * 2 ^ (52 - mag.log2) :=
          Nat.mul_lt_mul_of_pos_right hlog_hi (Nat.two_pow_pos _)
      _ = 2 ^ 53 := by
        rw [Nat.pow_succ, Nat.mul_right_comm, hone]
        norm_num
  have hdvd : 2 ^ 29 ∣ mag * 2 ^ (52 - mag.log2) := by
    rcases Nat.lt_or_ge mag.log2 24 with hl | hl
    · exact Dvd.dvd.mul_left (pow_dvd_pow 2 (by omega)) mag
    · obtain h24 : mag.log2 = 24 := by omega
      rw [h24] at hlog_lo ⊢
      obtain rfl : mag = 2 ^ 24 := by omega
      exact ⟨2 ^ 23, by norm_num⟩
  have hpack : fpPack neg mag exp = pattern neg (exp + mag.log2 + 1023).toNat (mag * 2 ^ (52 - mag.log2) - 2 ^ 52) := by
    rw [fpPack_of_normal hmag (by omega), if_neg (by omega),
      show mag * 2 ^ (52 - mag.log2) = 2 ^ 52 + (mag * 2 ^ (52 - mag.log2) - 2 ^ 52) by omega, pattern_carry,
      Nat.add_sub_cancel_left]
    congr 1
    omega
  rw [singleRepresentable_iff, hpack, fpExponent_pattern neg (by omega) (by omega), fpFraction_pattern neg (by omega),
    Nat.add_sub_cancel' hflo]
  rcases lt_or_ge (exp + mag.log2) (-126) with hden | hnorm
  · refine .inr (.inr (.inr ⟨by omega, by omega, Nat.mod_eq_zero_of_dvd (Dvd.dvd.mul_left ?_ mag)⟩))
    exact pow_dvd_pow 2 (by omega)
  · refine .inr (.inr (.inl ⟨by omega, by omega, ?_⟩))
    omega

/-! ## The tests of an estimate -/

theorem scaledBetween_iff (lo hi den mag : Nat) (exp : Int) :
    scaledBetween lo hi den mag exp = true ↔
      (lo : ℝ) ≤ den * (mag * 2 ^ exp) ∧ (den * (mag * 2 ^ exp) : ℝ) ≤ hi := by
  have hpos : (0 : ℝ) < (2 ^ (-exp).toNat : Nat) := by positivity
  have hpow : (2 : ℝ) ^ exp * (2 ^ (-exp).toNat : Nat) = (2 ^ exp.toNat : Nat) := by
    push_cast
    rw [← zpow_natCast, ← zpow_natCast, ← zpow_add₀ two_ne_zero]
    congr 1
    omega
  have hmid : (den * (mag * 2 ^ exp) : ℝ) * (2 ^ (-exp).toNat : Nat) = (den * mag * 2 ^ exp.toNat : Nat) := by
    rw [mul_assoc, mul_assoc, hpow]
    push_cast
    ring
  rw [scaledBetween, Bool.and_eq_true, decide_eq_true_eq, decide_eq_true_eq, ← mul_le_mul_iff_left₀ hpos,
    ← mul_le_mul_iff_left₀ (b := (den * (mag * 2 ^ exp) : ℝ)) hpos, hmid]
  exact ⟨fun ⟨h1, h2⟩ => ⟨by exact_mod_cast h1, by exact_mod_cast h2⟩,
    fun ⟨h1, h2⟩ => ⟨by exact_mod_cast h1, by exact_mod_cast h2⟩⟩

/-- A number whose product with `s` is near 1 is near the reciprocal of `s`. -/
theorem abs_sub_reciprocal_le {c s n : ℝ} (hs : 0 < s) (h : |c * s - 1| ≤ 1 / n) : |c - 1 / s| ≤ 1 / s / n := by
  have hdiff : c - 1 / s = (c * s - 1) / s := by
    field_simp
  rw [hdiff, abs_div, abs_of_pos hs, div_right_comm]
  exact div_le_div_of_nonneg_right h hs.le

/-- An accurate estimate of the reciprocal. -/
theorem close_of_fresAccurate {nc nx : Bool} {mc mx : Nat} {ec ex : Int} (hx : 0 < mx)
    (h : fresAccurate (.finite nc mc ec) (.finite nx mx ex) = true) :
    nc = nx ∧ |(mc : ℝ) * 2 ^ ec - 1 / (mx * 2 ^ ex)| ≤ 1 / (mx * 2 ^ ex) / 256 := by
  rw [fresAccurate, Bool.and_eq_true, beq_iff_eq, scaledBetween_iff] at h
  obtain ⟨hn, hlo, hhi⟩ := h
  have hprod : (((mc * mx : Nat) : ℝ) * 2 ^ (ec + ex)) = (mc * 2 ^ ec) * (mx * 2 ^ ex) := by
    rw [zpow_add₀ two_ne_zero]
    push_cast
    ring
  rw [hprod] at hlo hhi
  push_cast at hlo hhi
  refine ⟨hn, abs_sub_reciprocal_le (mul_pos (Nat.cast_pos.mpr hx) (zpow_two_pos ex)) (abs_le.mpr ⟨?_, ?_⟩)⟩ <;> linarith

/-- An accurate estimate of the reciprocal square root. -/
theorem close_of_frsqrteAccurate {nc nx : Bool} {mc mx : Nat} {ec ex : Int} (hx : 0 < mx)
    (h : frsqrteAccurate (.finite nc mc ec) (.finite nx mx ex) = true) :
    nc = false ∧ |(mc : ℝ) * 2 ^ ec - 1 / Real.sqrt (mx * 2 ^ ex)| ≤ 1 / Real.sqrt (mx * 2 ^ ex) / 32 := by
  have hxpos : (0 : ℝ) < mx * 2 ^ ex := mul_pos (Nat.cast_pos.mpr hx) (zpow_two_pos ex)
  have hroot := Real.sqrt_pos.mpr hxpos
  cases nc <;> cases nx <;> simp only [frsqrteAccurate, Bool.false_eq_true] at h
  rw [scaledBetween_iff] at h
  obtain ⟨hlo, hhi⟩ := h
  have hc : (0 : ℝ) ≤ (mc * 2 ^ ec) * Real.sqrt (mx * 2 ^ ex) := by positivity
  have hprod : (((mc * mc * mx : Nat) : ℝ) * 2 ^ (2 * ec + ex)) = ((mc * 2 ^ ec) * Real.sqrt (mx * 2 ^ ex)) ^ 2 := by
    rw [mul_pow, Real.sq_sqrt hxpos.le, zpow_add₀ two_ne_zero, two_mul, zpow_add₀ two_ne_zero]
    push_cast
    ring
  rw [hprod] at hlo hhi
  push_cast at hlo hhi
  refine ⟨rfl, abs_sub_reciprocal_le hroot ?_⟩
  generalize ((mc * 2 ^ ec) * Real.sqrt (mx * 2 ^ ex) : ℝ) = y at *
  rw [abs_le]
  constructor <;> nlinarith

/-! ## The exact reciprocal root -/

/-- The reciprocal root of a positive finite number. -/
theorem rsqrtFinite_represents {bits : Nat} (hbits : bits ≤ 53) {mag : Nat} (exp : Int) (hmag : 0 < mag)
    (hmag53 : mag < 2 ^ 53) (z : Bool) : Represents bits (rsqrtFinite mag exp) (1 / Real.sqrt (mag * 2 ^ exp)) z := by
  obtain ⟨v, e, heven, hv⟩ := evenExponent_spec mag exp
  have hvpos : 0 < v := by omega
  have hvlt : v < 2 ^ 54 := by omega
  have hvreal : (0 : ℝ) < v := Nat.cast_pos.mpr hvpos
  obtain ⟨hlo, hhi⟩ := isqrt_spec (n := 2 ^ 256 / v) ((Nat.div_le_self _ _).trans_lt
    (Nat.pow_lt_pow_right (by omega) (by omega)))
  have hroot : 1 / Real.sqrt (mag * 2 ^ exp) = Real.sqrt (2 ^ 256 / v) * 2 ^ (-e - 128 - 1 + 1) := by
    have hsq : (mag * 2 ^ exp : ℝ) = v * (2 ^ e) ^ 2 := by
      rw [← zpow_natCast, ← zpow_mul]
      rcases hv with ⟨rfl, rfl⟩ | ⟨rfl, rfl⟩
      · rw [mul_comm e]
        rfl
      · rw [zpow_add₀ two_ne_zero, mul_comm e]
        push_cast
        ring
    have hpow : (2 : ℝ) ^ (-e - 128 - 1 + 1) = 1 / 2 ^ 128 / 2 ^ e := by
      rw [show -e - 128 - 1 + 1 = 0 - (128 : Nat) - e by omega, zpow_sub₀ two_ne_zero, zpow_sub₀ two_ne_zero, zpow_zero,
        zpow_natCast]
    rw [hsq, Real.sqrt_mul hvreal.le, Real.sqrt_sq (zpow_two_pos e).le, Real.sqrt_div (by positivity),
      show (2 : ℝ) ^ 256 = (2 ^ 128) ^ 2 by norm_num, Real.sqrt_sq (by positivity), hpow]
    have := Real.sqrt_pos.mpr hvreal
    field_simp
  have hrest : (0 : ℝ) ≤ 2 ^ 256 / v := by positivity
  rw [rsqrtFinite, heven]
  dsimp only
  rw [withSticky, hroot, Int.mul_ediv_cancel_left _ (by omega)]
  refine sticky_represents hbits false _ ?_ ?_ ?_ ?_ z
  · rw [div_two_add_toNat, Real.le_sqrt (Nat.cast_nonneg _) hrest, le_div_iff₀ hvreal, sq]
    exact_mod_cast (Nat.mul_le_mul_right v hlo).trans (Nat.div_mul_le_self _ _)
  · rw [div_two_add_toNat, Real.sqrt_lt' (by positivity), div_lt_iff₀ hvreal, sq]
    exact_mod_cast (Nat.div_lt_iff_lt_mul hvpos).mp hhi
  · rw [div_two_add_toNat, mod_two_add_toNat, bne_iff_ne]
    refine not_congr ?_
    rw [eq_comm (b := Real.sqrt _), Real.sqrt_eq_iff_mul_self_eq hrest (Nat.cast_nonneg _), eq_comm, div_eq_iff hvreal.ne']
    exact_mod_cast Iff.rfl
  · rw [div_two_add_toNat]
    by_contra hsmall
    have hn : 2 ^ 202 ≤ 2 ^ 256 / v := (Nat.le_div_iff_mul_le hvpos).mpr
      (calc 2 ^ 202 * v ≤ 2 ^ 202 * 2 ^ 54 := Nat.mul_le_mul_left _ hvlt.le
        _ = 2 ^ 256 := by norm_num)
    have hprod : (isqrt (2 ^ 256 / v) + 1) * (isqrt (2 ^ 256 / v) + 1) ≤ 2 ^ 54 * 2 ^ 54 :=
      Nat.mul_le_mul (by omega) (by omega)
    omega


/-! ## The reciprocal -/

/-- The division before rounding stands for the reciprocal. -/
theorem reciprocal_represents (neg : Bool) {m : Nat} (e : Int) (hm : 0 < m) (hm53 : m < 2 ^ 53) :
    ∃ (M : Nat) (E : Int), fpDiv (.finite false 1 0) (.finite neg m e) = .finite neg M E ∧ 0 < M ∧
      SameSide (1 / (m * 2 ^ e)) (M * 2 ^ E) (2 ^ (E + M.log2 - (precisionOf true).bits)) := by
  obtain ⟨M, hM, -⟩ := divFinite_spec (false != neg) 1 0 e hm
  have hrep := divFinite_represents (bits := (precisionOf true).bits) (by decide) false neg 0 e Nat.one_pos hm hm53 false
  rw [hM, signedReal_div, Bool.false_bne] at hrep
  rw [Bool.false_bne] at hM
  obtain ⟨hMpos, x, hX, hside⟩ := hrep
  have hx : 0 < x := hside.pos_iff.mpr (mul_pos (Nat.cast_pos.mpr hMpos) (zpow_two_pos _))
  have hrecip : (0 : ℝ) < (1 : Nat) * 2 ^ (0 : Int) / (m * 2 ^ e) := by positivity
  obtain ⟨-, rfl⟩ := signedReal_inj hrecip hx hX
  rw [zpow_zero, Nat.cast_one, mul_one] at hside
  exact ⟨M, _, (congrArg (divFinite · 1 0 m e) (Bool.false_bne neg)).trans hM, hMpos, hside⟩

/-- A result within one part in `part` of `exact`. -/
def Close (neg : Bool) (r : FpResult) (exact part : ℝ) : Prop :=
  ∃ (d : Dword) (n : Nat) (k : Int), r.value = some d ∧ fpValue d = .finite neg n k ∧
    |n * (2 : ℝ) ^ k - exact| ≤ exact / part

theorem close_of_delivers {neg : Bool} {r : FpResult} {y exact part : ℝ} (h : Delivers neg r y)
    (hy : |y - exact| ≤ exact / part) : Close neg r exact part := by
  obtain ⟨d, n, k, hv, hd, rfl⟩ := h
  exact ⟨d, n, k, hv, hd, hy⟩

/-- Rounding to `bits` bits is close. -/
theorem close_of_roundsTo {rn : BitVec 2} {neg : Bool} {x y : ℝ} {top : Int} {bits n : Nat} (hlo : 2 ^ top ≤ x)
    (h : roundsTo rn neg x (top - bits + 1) y) (hn : n + 1 ≤ bits) : |y - x| ≤ x / (2 ^ n : Nat) := by
  obtain ⟨k, -, hdist, -⟩ := h
  rw [le_div_iff₀ (by positivity)]
  calc |y - x| * (2 ^ n : Nat) ≤ 2 ^ (top - bits + 1) * (2 ^ n : Nat) :=
        mul_le_mul_of_nonneg_right hdist.le (by positivity)
    _ = 2 ^ (top - bits + 1 + n) := by rw [zpow_two_add_natCast, mul_comm]
    _ ≤ 2 ^ top := zpow_two_le_iff.mpr (by omega)
    _ ≤ x := hlo

theorem fresEstimated_exceptions (v : Word) (e : FpExact) (c x : Dword) (r : FpResult) :
    (fresEstimated v e c x r).exceptions = r.exceptions := by
  unfold fresEstimated
  split
  · dsimp only
    rw [apply_ite FpResult.exceptions]
    exact ite_self _
  · rfl

/-- Without an overflow and without an enabled underflow, either the rounded quotient is delivered or an estimate that is
accurate and has a single format. -/
theorem fresEstimated_cases {v : Word} {n : Bool} {M : Nat} {E : Int} {c x : Dword} {r : FpResult}
    (hover : fpRange .single (fpRN v) n M E ≠ .overflow)
    (htiny : fpRange .single (fpRN v) n M E = .tiny → fpUE v = false) :
    fresEstimated v (.finite n M E) c x r = r ∨
      ∃ nc mc ec, fpValue c = .finite nc mc ec ∧ fresAccurate (fpValue c) (fpValue x) = true ∧
        singleRepresentable c = true ∧ (fresEstimated v (.finite n M E) c x r).value = some (fpPack n mc ec) := by
  have hadjust : (if fpRange .single (fpRN v) n M E = .overflow then -Precision.single.adjust
      else if fpRange .single (fpRN v) n M E = .tiny ∧ fpUE v = true then Precision.single.adjust else 0) = 0 := by
    rw [if_neg hover, if_neg fun h => absurd (htiny h.1) (by rw [h.2]; decide)]
  unfold fresEstimated
  cases hc : fpValue c with
  | finite nc mc ec =>
    dsimp only
    rw [hadjust]
    split
    · exact .inl rfl
    · next hcond =>
      refine .inr ⟨nc, mc, ec, rfl, ?_, ?_, ?_⟩
      · simp_all
      · simp_all
      · rw [add_zero]
  | _ => exact .inl rfl

theorem overflow_bits (fi : Bool) : (fpOX ||| fpInexact fi) &&& ~~~ fpXX ≠ 0 := by
  cases fi <;> decide

theorem underflow_bits (fi : Bool) : (fpUX ||| fpInexact fi) &&& ~~~ fpXX ≠ 0 := by
  cases fi <;> decide

/-- A result without exception but for XX: no overflow, and a tiny value only where it is exact and UE = 0. -/
theorem range_of_no_exception {p : Precision} {v : Word} {free flip neg : Bool} {mag : Nat} {exp : Int}
    (h : (fpDeliver p v free flip neg mag exp).exceptions &&& ~~~ fpXX = 0) :
    fpRange p (fpRN v) neg mag exp ≠ .overflow ∧
      (fpRange p (fpRN v) neg mag exp = .tiny → bit v 26 = false ∧ (roundBounded p (fpRN v) neg mag exp).fi = false) := by
  refine ⟨fun hrange => ?_, fun hrange => ?_⟩
  · cases hoe : bit v 25
    · rw [fpDeliver_overflow_disabled hrange hoe, apply_ite FpResult.exceptions] at h
      dsimp only at h
      rw [ite_self] at h
      exact absurd h (by decide)
    · rw [fpDeliver_overflow_enabled hrange hoe] at h
      exact absurd h (overflow_bits _)
  · cases hue : bit v 26
    · rw [fpDeliver_tiny_disabled hrange hue] at h
      refine ⟨rfl, Bool.eq_false_iff.mpr fun hfi => ?_⟩
      dsimp only at h
      rw [hfi] at h
      exact absurd h (by decide)
    · rw [fpDeliver_tiny_enabled hrange hue] at h
      exact absurd h (underflow_bits _)

/-- A single result without overflow or underflow is close and has a single format. -/
theorem fpDeliver_single_close {v : Word} {free neg : Bool} {mag : Nat} {exp : Int} {x : ℝ} (hmag : 0 < mag)
    (hside : SameSide x (mag * 2 ^ exp) (2 ^ (exp + mag.log2 - (precisionOf true).bits)))
    (h : (fpDeliver (precisionOf true) v free false neg mag exp).exceptions &&& ~~~ fpXX = 0) :
    Close neg (fpDeliver (precisionOf true) v free false neg mag exp) x 256 ∧
      ∀ d, (fpDeliver (precisionOf true) v free false neg mag exp).value = some d → singleRepresentable d = true := by
  obtain ⟨hover, htiny⟩ := range_of_no_exception h
  obtain ⟨hlo, hhi⟩ := hside.top_bounds hmag
  have hbits : (precisionOf true).bits = 24 := rfl
  have hemin : (precisionOf true).emin = -126 := rfl
  have hemax : (precisionOf true).emax = 127 := rfl
  have hx : 0 < x := (zpow_two_pos _).trans_le hlo
  have hout : (neg != false) = neg := Bool.bne_false _
  obtain ⟨k, fr, fi, hr, hrounds, hfr, hfi, hklo, hkhi⟩ := roundUnbounded_spec hmag (by decide) hside (fpRN v)
  rw [hbits] at hr hrounds hkhi
  have hkpos : 0 < k := (Nat.two_pow_pos _).trans_le hklo
  have hklog : 23 ≤ k.log2 := (Nat.le_log2 hkpos.ne').mpr hklo
  have hrange : fpRange (precisionOf true) (fpRN v) neg mag exp =
      if (precisionOf true).emax < exp + mag.log2 - (24 : Nat) + 1 + k.log2 then .overflow
      else if exp + mag.log2 < (precisionOf true).emin then .tiny else .inRange := by
    rw [fpRange, hr]
  have hnot : ¬ (precisionOf true).emax < exp + mag.log2 - (24 : Nat) + 1 + k.log2 := fun hlt =>
    hover (by rw [hrange, if_pos hlt])
  rw [if_neg hnot] at hrange
  by_cases htop : exp + mag.log2 < (precisionOf true).emin
  · rw [if_pos htop] at hrange
    obtain ⟨hue, hexact⟩ := htiny hrange
    obtain ⟨j, fr', fi', hd, hrounds', hfr', hfi', hjhi⟩ := roundBounded_spec hmag (by decide) hside (fpRN v) htop
    rw [hd] at hexact
    have hz : (j : ℝ) * 2 ^ ((precisionOf true).emin - (precisionOf true).bits + 1) = x := by
      by_contra hne
      exact absurd (hfi'.mpr hne) (by rw [show fi' = false from hexact]; exact Bool.false_ne_true)
    have hj : 0 < j := Nat.pos_of_ne_zero fun h0 => hx.ne' (by rw [← hz, h0, Nat.cast_zero, zero_mul])
    replace hjhi : j ≤ 2 ^ 23 := hjhi
    have hjlog : j.log2 ≤ 23 := by
      have hlt := (Nat.log2_lt hj.ne').mpr (hjhi.trans_lt (show 2 ^ 23 < 2 ^ 24 by omega))
      omega
    rw [fpDeliver_tiny_disabled hrange hue, hd, hout]
    refine ⟨close_of_delivers (y := x) ?_ (by rw [sub_self, abs_zero]; positivity), fun d hd' => ?_⟩
    · rw [← hz]
      exact delivers_fpPack rfl hj (by omega) (by omega) (by omega)
    · obtain rfl := Option.some.inj hd'
      exact singleRepresentable_fpPack (mag := j) (exp := (precisionOf true).emin - (precisionOf true).bits + 1) neg hj
        (by omega) (by omega) (by omega)
  · rw [if_neg htop] at hrange
    rw [fpDeliver_inRange hrange, hr, hout]
    refine ⟨close_of_delivers (delivers_fpPack (mag := k) (exp := exp + mag.log2 - (24 : Nat) + 1) rfl hkpos (by omega)
      (by omega) (by omega)) ?_, fun d hd' => ?_⟩
    · have hclose := close_of_roundsTo (n := 8) hlo hrounds (by omega)
      norm_num at hclose ⊢
      exact hclose
    · obtain rfl := Option.some.inj hd'
      exact singleRepresentable_fpPack (mag := k) (exp := exp + mag.log2 - (24 : Nat) + 1) neg hkpos (by omega) (by omega)
        (by omega)

/-- `fres` of a finite number before XX, FR and FI are set. -/
theorem arithRes_of_finite {b : Dword} {neg : Bool} {M : Nat} {E : Int} (v : Word) (freeFr freeFi : Bool)
    (hnan : (fpValue b).isNan = false) (hdiv : fpDiv (.finite false 1 0) (fpValue b) = .finite neg M E) :
    arithRes v freeFr freeFi b =
      { fresEstimated v (.finite neg M E) (Config.fresEst b) b (fpDeliver (precisionOf true) v freeFr false neg M E) with
        exceptions := (fpDeliver (precisionOf true) v freeFr false neg M E).exceptions &&& ~~~ fpXX
        fr := freeFr
        fi := freeFi } := by
  have harith : fpArith .single v freeFr false [b] false (.finite neg M E) =
      fpDeliver (precisionOf true) v freeFr false neg M E := fpArith_of_no_nan (no_nan_single hnan) _ _ _
  rw [arithRes]
  dsimp only
  rw [hdiv, harith, fresEstimated_exceptions]

section
variable {v : Word} {freeFr freeFi : Bool} {b : Dword} {neg : Bool} {m : Nat} {e : Int} (hb : fpValue b = .finite neg m e)
include hb

/-- What `fres` delivers without exception is close to the reciprocal and has a single format. -/
theorem arithRes_close (hexc : (arithRes v freeFr freeFi b).exceptions = 0) :
    Close neg (arithRes v freeFr freeFi b) (1 / (m * 2 ^ e)) 256 ∧
      ∀ d, (arithRes v freeFr freeFi b).value = some d → singleRepresentable d = true := by
  obtain ⟨hm, hm53, -, -⟩ := finite_bounds hb
  obtain ⟨M, E, hdiv, hM, hside⟩ := reciprocal_represents neg e hm hm53
  rw [← hb] at hdiv
  rw [arithRes_of_finite v freeFr freeFi (by rw [hb]; rfl) hdiv] at hexc ⊢
  obtain ⟨hover, htiny⟩ := range_of_no_exception hexc
  rcases fresEstimated_cases (c := Config.fresEst b) (x := b) (r := fpDeliver (precisionOf true) v freeFr false neg M E)
    hover (fun h => (htiny h).1) with hplain | ⟨nc, mc, ec, hc, hacc, hrep, hval⟩
  · rw [hplain]
    exact fpDeliver_single_close hM hside hexc
  · rw [hc, hb] at hacc
    obtain ⟨rfl, hclose⟩ := close_of_fresAccurate hm hacc
    rw [(fpPack_fpValue hc).1] at hval
    refine ⟨⟨_, mc, ec, hval, hc, hclose⟩, fun d hd => ?_⟩
    obtain rfl := Option.some.inj (hval.symm.trans hd)
    exact hrep

/-- Within the range of the singles `fres` raises nothing. -/
theorem arithRes_exceptions (hlo : (2 : ℝ) ^ (-126 : Int) ≤ 1 / (m * 2 ^ e)) (hhi : 1 / (m * 2 ^ e) ≤ (2 : ℝ) ^ (127 : Int)) :
    (arithRes v freeFr freeFi b).exceptions = 0 := by
  obtain ⟨hm, hm53, -, -⟩ := finite_bounds hb
  obtain ⟨M, E, hdiv, hM, hside⟩ := reciprocal_represents neg e hm hm53
  rw [← hb] at hdiv
  rw [arithRes_of_finite v freeFr freeFi (by rw [hb]; rfl) hdiv]
  obtain ⟨top, y, htop, -, hrounds, -, -, -, -, hin⟩ := fpDeliver_deliversExact true v freeFr false neg hM hside
  have hy : y < 2 ^ (128 : Int) := by
    obtain ⟨k, -, hdist, -⟩ := hrounds
    have htop127 : top ≤ 127 := zpow_two_le_iff.mp (htop.trans hhi)
    have hulp : (2 : ℝ) ^ (top - 24 + 1) ≤ 2 ^ (127 : Int) := zpow_two_le_iff.mpr (by omega)
    have htwo : (2 : ℝ) ^ (128 : Int) = 2 ^ (127 : Int) + 2 ^ (127 : Int) := by norm_num
    have := (abs_lt.mp hdist).2
    rw [htwo]
    exact lt_of_lt_of_le (sub_lt_iff_lt_add.mp this) (add_le_add hulp hhi)
  obtain ⟨⟨hexact, hinexact⟩, -⟩ := hin hlo hy
  dsimp only
  by_cases hyx : y = 1 / (m * 2 ^ e)
  · rw [hexact hyx]
    decide
  · rw [hinexact hyx]
    decide

end


/-! ## The reciprocal root -/

theorem zpow_two_double (k : Int) : (2 : ℝ) ^ k + 2 ^ k = 2 ^ (k + 1) := by
  rw [zpow_add₀ two_ne_zero, zpow_one, mul_two]

/-- The reciprocal root of a double is well inside the range of the doubles. -/
theorem rsqrt_bounds {m : Nat} {e : Int} (hm : 0 < m) (hm53 : m < 2 ^ 53) (hlo : -1074 ≤ e) (hhi : e ≤ 971) :
    (2 : ℝ) ^ (-512 : Int) ≤ 1 / Real.sqrt (m * 2 ^ e) ∧ 1 / Real.sqrt (m * 2 ^ e) ≤ (2 : ℝ) ^ (537 : Int) := by
  have hpos : (0 : ℝ) < m * 2 ^ e := mul_pos (Nat.cast_pos.mpr hm) (zpow_two_pos e)
  have hroot := Real.sqrt_pos.mpr hpos
  have hsq (k : Int) : ((2 : ℝ) ^ k) ^ 2 = 2 ^ (2 * k) := by
    rw [← zpow_natCast, ← zpow_mul, mul_comm]
    rfl
  have hlow : (2 : ℝ) ^ (-537 : Int) ≤ Real.sqrt (m * 2 ^ e) := by
    rw [Real.le_sqrt (zpow_two_pos _).le hpos.le, hsq]
    calc (2 : ℝ) ^ (2 * (-537) : Int) ≤ 2 ^ e := zpow_two_le_iff.mpr (by omega)
      _ ≤ m * 2 ^ e := le_mul_of_one_le_left (zpow_two_pos e).le (by exact_mod_cast hm)
  have hhigh : Real.sqrt (m * 2 ^ e) ≤ (2 : ℝ) ^ (512 : Int) := by
    rw [Real.sqrt_le_left (zpow_two_pos _).le, hsq]
    calc (m : ℝ) * 2 ^ e ≤ (2 ^ 53 : Nat) * 2 ^ e :=
          mul_le_mul_of_nonneg_right (by exact_mod_cast hm53.le) (zpow_two_pos e).le
      _ = 2 ^ (e + (53 : Nat)) := (zpow_two_add_natCast e 53).symm
      _ ≤ 2 ^ (2 * 512 : Int) := zpow_two_le_iff.mpr (by omega)
  constructor
  · rw [le_div_iff₀ hroot, zpow_neg, inv_mul_le_iff₀ (zpow_two_pos _), mul_one]
    exact hhigh
  · rw [div_le_iff₀ hroot, ← inv_mul_le_iff₀ (zpow_two_pos _), mul_one, ← zpow_neg]
    exact hlow

section
variable {b : Dword} {m : Nat} {e : Int} (hb : fpValue b = .finite false m e)
include hb

/-- `frsqrte` of a positive number before the estimate: in range, normal and close. -/
theorem rsqrt_delivered (v : Word) (free : Bool) :
    let r := fpArith .double v free false [b] false (fpRsqrt (fpValue b))
    r.exceptions &&& ~~~ fpXX = 0 ∧ r.fprf = some 0b00100 ∧ Close false r (1 / Real.sqrt (m * 2 ^ e)) 32 := by
  intro r
  obtain ⟨hm, hm53, helo, hehi⟩ := finite_bounds hb
  obtain ⟨hlow, hhigh⟩ := rsqrt_bounds hm hm53 helo hehi
  have hrep := rsqrtFinite_represents (bits := (precisionOf false).bits) (by decide) e hm hm53 false
  have hpos : (0 : ℝ) < 1 / Real.sqrt (m * 2 ^ e) := (zpow_two_pos _).trans_le hlow
  have hgives : Gives v free false false (false != false) _ r :=
    gives_of_represents (no_nan_single (by rw [hb]; rfl)) (by rw [hb]; exact hrep)
  obtain ⟨top, y, htop, -, hrounds, -, -, -, -, hin⟩ := hgives.1 false _ hpos rfl
  have hclose := close_of_roundsTo (bits := 53) (n := 5) htop hrounds (by omega)
  have hy : y < (2 : ℝ) ^ (1024 : Int) := by
    have hpart : 1 / Real.sqrt (m * 2 ^ e) / (2 ^ 5 : Nat) ≤ 1 / Real.sqrt (m * 2 ^ e) :=
      div_le_self hpos.le (by norm_num)
    calc y ≤ 1 / Real.sqrt (m * 2 ^ e) + 1 / Real.sqrt (m * 2 ^ e) :=
          sub_le_iff_le_add.mp ((abs_le.mp hclose).2.trans hpart)
      _ ≤ 2 ^ (537 : Int) + 2 ^ (537 : Int) := add_le_add hhigh hhigh
      _ < 2 ^ (1024 : Int) := (zpow_two_double 537).trans_lt (zpow_two_lt_iff.mpr (by decide))
  obtain ⟨⟨hexact, hinexact⟩, -, hfprf, hdelivers⟩ := hin ((zpow_two_le_iff.mpr (by decide)).trans hlow) hy
  refine ⟨?_, hfprf, close_of_delivers hdelivers (by norm_num at hclose ⊢; exact hclose)⟩
  by_cases hyx : y = 1 / Real.sqrt (m * 2 ^ e)
  · rw [hexact hyx]
    decide
  · rw [hinexact hyx]
    decide

/-- What `frsqrte` delivers for a positive number. -/
theorem arithRsqrte_close (v : Word) (freeFr freeFi : Bool) :
    Close false (arithRsqrte v freeFr freeFi b) (1 / Real.sqrt (m * 2 ^ e)) 32 ∧
      (arithRsqrte v freeFr freeFi b).exceptions = 0 ∧ (arithRsqrte v freeFr freeFi b).fprf = some 0b00100 := by
  obtain ⟨hm, hm53, helo, hehi⟩ := finite_bounds hb
  obtain ⟨hlow, -⟩ := rsqrt_bounds hm hm53 helo hehi
  obtain ⟨hexc, hfprf, hclose⟩ := rsqrt_delivered hb v freeFr
  rw [arithRsqrte]
  dsimp only
  generalize fpArith .double v freeFr false [b] false (fpRsqrt (fpValue b)) = r at *
  unfold frsqrteEstimated
  split
  · next n mc ec hacc hc =>
    rw [hc, hb] at hacc
    obtain ⟨rfl, hnear⟩ := close_of_frsqrteAccurate hm hacc
    obtain ⟨hmc, -, -, -⟩ := finite_bounds hc
    obtain ⟨hclo, hchi⟩ := mag_bounds ec hmc
    have hnormal : -1022 ≤ ec + mc.log2 := by
      rw [← zpow_le_iff_of_top hclo hchi]
      have hpart := (abs_le.mp hnear).1
      have hpos := (zpow_two_pos (-512)).trans_le hlow
      have hhalf : (2 : ℝ) ^ (-513 : Int) + 2 ^ (-513 : Int) = 2 ^ (-512 : Int) := zpow_two_double (-513)
      refine (zpow_two_le_iff.mpr (show (-1022 : Int) ≤ -513 by decide)).trans ?_
      generalize (2 : ℝ) ^ (-513 : Int) = half at *
      generalize (2 : ℝ) ^ (-512 : Int) = low at *
      linarith
    exact ⟨⟨_, mc, ec, rfl, hc, hnear⟩, hexc, congrArg some (fprfFinite_of_normal hmc hnormal)⟩
  · exact ⟨hclose, hexc, hfprf⟩

end

/-! ## O40 -/

/-- XX is never among the exceptions of an estimate. -/
theorem bit_without_xx (v : Word) : bit (v &&& ~~~ fpXX) 6 = false := by
  have hxx : bit (~~~ fpXX) 6 = false := by decide
  rw [bit_and, hxx, Bool.and_false]

/-- Settles O40: rounding meets the exact reciprocal and root within a unit of the last place, and an estimate in their
place is tested. -/
theorem estimates : Obligations.Estimates := by
  intro v freeFr freeFi b res rsqrte told
  refine ⟨⟨rfl, rfl, bit_without_xx _⟩, ⟨rfl, rfl, bit_without_xx _⟩, fun neg m e hb => ?_, fun neg hb => ?_⟩
  · intro x close
    refine ⟨fun hlo hhi => arithRes_exceptions hb hlo hhi, fun hexc => arithRes_close hb hexc, fun hneg => ?_⟩
    subst hneg
    exact arithRsqrte_close hb v freeFr freeFi
  · have hnan : (fpValue b).isNan = false := by rw [hb]; rfl
    have hdiv : fpDiv (.finite false 1 0) (fpValue b) = .zero neg := by
      rw [hb]
      exact congrArg FpExact.zero (Bool.false_bne neg)
    have hres := arithRes_of_not_finite (v := v) (freeFr := freeFr) (freeFi := freeFi) (b := b)
      fun n m k => by rw [hdiv]; exact FpExact.noConfusion
    rw [hdiv] at hres
    obtain ⟨hval, hfprf, hexc, -⟩ := isZero_of_exact_unflipped (p := .single) (v := v) (free := freeFr) (imz := false)
      (no_nan_single hnan) (n := neg) rfl
    refine ⟨?_, (congrArg FpResult.value hres).trans hval, (congrArg FpResult.fprf hres).trans hfprf, fun hneg => ?_⟩
    · refine (congrArg FpResult.exceptions hres).trans ?_
      dsimp only
      rw [hexc]
      decide
    · subst hneg
      have hroot : fpRsqrt (fpValue b) = .zero false := by
        rw [hb]
        rfl
      have hrsqrte := arithRsqrte_of_not_positive (v := v) (freeFr := freeFr) (freeFi := freeFi) (b := b)
        fun m e => by rw [hb]; exact FpValue.noConfusion
      rw [hroot] at hrsqrte
      obtain ⟨hval', hfprf', hexc', -⟩ := isZero_of_exact_unflipped (p := .double) (v := v) (free := freeFr) (imz := false)
        (no_nan_single hnan) (n := false) rfl
      refine ⟨?_, (congrArg FpResult.value hrsqrte).trans hval', (congrArg FpResult.fprf hrsqrte).trans hfprf'⟩
      refine (congrArg FpResult.exceptions hrsqrte).trans ?_
      dsimp only
      rw [hexc']
      decide

end Sys2Proof.Machine
